-- ==== Sys2Proof/Word.lean ====
section
/-! DEFINITION. The octet and the plainest arithmetic of the conventions of spec/00_scope.md: integers, floor and
ceiling division. -/

namespace Sys2Proof

/-- One octet of a console frame or of a field-link frame. -/
abbrev Octet := BitVec 8

/-- Integer division rounded up (00_scope.md, "Arithmetic"). -/
def divUp (a b : Nat) : Nat := (a + b - 1) / b

end Sys2Proof
end

