-- ==== Sys2Proof/Syntax.lean ====
section
/-! DEFINITION. The subjects that commands name, and the commands themselves: one constructor of `Instr` for each row
of spec/opcode_table.json. -/

namespace Sys2Proof

/-- The three field links (chapter 2). -/
inductive Link where
  | n | s | p
deriving DecidableEq, Repr

/-- The two road approaches (chapters 4 and 5). -/
inductive Approach where
  | north | south
deriving DecidableEq, Repr

/-- The two leaves (chapters 6 and 7). -/
inductive LeafId where
  | north | south
deriving DecidableEq, Repr

/-- The three locks, in the order the console numbers them (R150). -/
inductive LockId where
  | centre | northTail | southTail
deriving DecidableEq, Repr

/-- The four barriers, in the order the override table numbers them (R24). -/
inductive BarrierId where
  | northEntry | northExit | southEntry | southExit
deriving DecidableEq, Repr

/-- The two directions of passage (chapter 9). -/
inductive Dir where
  | inbound | outbound
deriving DecidableEq, Repr

/-- The twelve lamp groups of R64. -/
inductive Lamp where
  | amber (a : Approach)
  | redA (a : Approach)
  | redB (a : Approach)
  | red1 (d : Dir)
  | red2 (d : Dir)
  | green (d : Dir)
deriving DecidableEq, Repr

/-- The commands of the block: the rows of spec/opcode_table.json in the table's order.
A request of the console carries its TAG and the fields of its BODY as section 12.6 lays them out; the command is the
arrival of the valid frame that carries it (assumption log 1). -/
inductive Instr where
  | powerOnReset
  | identify (tag : Octet)
  | setParam (tag ident subject : Octet) (value : BitVec 32)
  | getParam (tag ident subject : Octet)
  | assignInput (tag fn form link channel bit n flags : Octet)
  | assignOutput (tag fn link channel bit : Octet)
  | clearAssignment (tag form arg1 arg2 arg3 : Octet)
  | loadClearance (tag : Octet) (points : List (BitVec 16 × BitVec 16))
  | configDone (tag : Octet)
  | reconfigure (tag : Octet)
  | restart (tag : Octet)
  | roadClose (tag : Octet)
  | roadOpen (tag : Octet)
  | locksWithdraw (tag : Octet)
  | locksDrive (tag : Octet)
  | leavesRaise (tag target : Octet)
  | leavesLower (tag : Octet)
  | recoveryLower (tag : Octet)
  | motionHold (tag : Octet)
  | motionResume (tag : Octet)
  | estopReset (tag : Octet)
  | faultClearLeaf (tag subject : Octet)
  | faultClearLock (tag subject : Octet)
  | faultClearBarrier (tag subject : Octet)
  | overrideGrant (tag kind subject : Octet)
  | overrideRevoke (tag kind subject : Octet)
  | vesselAdd (tag : Octet) (ident : BitVec 16) (direction : Octet) (airDraft : BitVec 16) (cls : Octet)
  | vesselWithdraw (tag : Octet) (ident : BitVec 16)
  | vesselCleared (tag : Octet) (ident : BitVec 16)
  | getSpan (tag subject part : Octet)
  | getRoad (tag subject part : Octet)
  | getLeaf (tag subject part : Octet)
  | getLocks (tag subject part : Octet)
  | getLink (tag subject part : Octet)
  | getInput (tag subject part : Octet)
  | getQueue (tag subject part : Octet)
  | getWind (tag subject part : Octet)
  | presence (tag subject part : Octet)
  | unknownKind (kind tag : Octet) (body : List Octet)
  | consoleFrameReceived (kind tag : Octet) (body : List Octet) (crc : BitVec 16)
  | frameAbandoned
  | octetGapTimeout
  | transmitFrameEnd
  | presenceTimerExpiry
  | foundFrame (link : Link) (frame : BitVec 80)
  | confirmingFrame (link : Link) (frame : BitVec 80)
  | alignedFrameBoundary (link : Link) (frame : BitVec 80)
  | fieldFrameStart (link : Link)
  | samplingTimerExpiry (lines : BitVec 17)
  | holdExpiry (link : Link)
  | flashPhaseBoundary
  | edgeWindowExpiry (group : Lamp)
  | proveTimerExpiry (group : Lamp)
  | settleExpiry (group : Lamp)
  | amberExpiry
  | redWarnExpiry
  | clearanceTimerExpiry
  | barrierTravelTimeout (barrier : BarrierId)
  | encoderCount (leaf : LeafId) (forward : Bool)
  | illegalTransition (leaf : LeafId)
  | speedWindowEnd (leaf : LeafId)
  | stallTimerExpiry (leaf : LeafId)
  | profileUpdate (leaf : LeafId)
  | brakeReleaseTimeout (leaf : LeafId)
  | brakeSetTimeout (leaf : LeafId)
  | lockTravelTimeout (lock : LockId)
  | gapRunOut
  | anemoFallingEdge (elapsed : Nat)
  | calm
  | gustAgeRise
  | adoptTimeout
  | consoleOctetReceived (octet : Octet) (stopBit : Bool)
deriving DecidableEq, Repr

end Sys2Proof
end

