-- ==== Sys2Proof/Config.lean ====
section
/-! DEFINITION. What this part fixes as a constant, and the values the manual leaves open (opaque: nothing can be
proved about them). -/

namespace Sys2Proof.Config

/-- The part number of IDENTIFY (R203). -/
def partNumber : Nat := 420

/-- The design revision of IDENTIFY (R203). -/
def designRevision : Nat := 1

/-- The bound of the position counter (R108). -/
def positionBound : Int := 131071

/-- The capacity of the receive buffer (R198). -/
def receiveCapacity : Nat := 2

/-- The capacity of the reply list (R199). -/
def replyCapacity : Nat := 2

/-- The places of the passage queue (R163). -/
def queuePlaces : Nat := 12

/-- The largest gap, at which the gap timer stops rising (R170). -/
def gapMax : Nat := 300000

/-- The calm limit of the period timer in µs (R181). -/
def calmLimit : Nat := 2000000

/-- FREE VALUE (assumption log 12). The reported clearance of R162 while no clearance table is loaded: the manual
gives it no value. -/
opaque clearanceNoTable : BitVec 16

/-- FREE VALUE (assumption log 13). The lead that the last update of a RECOVERY_LOWER shows, from the leaf's own
angle and the other leaf's: R138 defines a lead for RAISE and LOWER only. -/
opaque recoveryLead : Int → Int → BitVec 24

end Sys2Proof.Config
end

