-- ==== Sys2Proof/Machine/State.lean ====
section
/-! DEFINITION. The state of the MB-420: every record the chapters give the blocks, each with its reset values.
A record's docstring names the rule whose table it follows; enumerations list their values in that table's order,
which is their numbering on the console line (R206). -/

namespace Sys2Proof.Machine

/-! ## Things that exist once per link, approach, leaf, lock, barrier or direction -/

structure PerLink (α : Type) where
  n : α
  s : α
  p : α
deriving DecidableEq, Repr

structure PerApproach (α : Type) where
  north : α
  south : α
deriving DecidableEq, Repr

structure PerLeaf (α : Type) where
  north : α
  south : α
deriving DecidableEq, Repr

structure PerLock (α : Type) where
  centre : α
  northTail : α
  southTail : α
deriving DecidableEq, Repr

structure PerBarrier (α : Type) where
  northEntry : α
  northExit : α
  southEntry : α
  southExit : α
deriving DecidableEq, Repr

structure PerDir (α : Type) where
  inbound : α
  outbound : α
deriving DecidableEq, Repr

def PerLink.get {α : Type} (r : PerLink α) : Link → α
  | .n => r.n
  | .s => r.s
  | .p => r.p

def PerLink.set {α : Type} (r : PerLink α) (i : Link) (a : α) : PerLink α :=
  match i with
  | .n => { r with n := a }
  | .s => { r with s := a }
  | .p => { r with p := a }

def PerApproach.get {α : Type} (r : PerApproach α) : Approach → α
  | .north => r.north
  | .south => r.south

def PerApproach.set {α : Type} (r : PerApproach α) (i : Approach) (a : α) : PerApproach α :=
  match i with
  | .north => { r with north := a }
  | .south => { r with south := a }

def PerLeaf.get {α : Type} (r : PerLeaf α) : LeafId → α
  | .north => r.north
  | .south => r.south

def PerLeaf.set {α : Type} (r : PerLeaf α) (i : LeafId) (a : α) : PerLeaf α :=
  match i with
  | .north => { r with north := a }
  | .south => { r with south := a }

def PerLock.get {α : Type} (r : PerLock α) : LockId → α
  | .centre => r.centre
  | .northTail => r.northTail
  | .southTail => r.southTail

def PerLock.set {α : Type} (r : PerLock α) (i : LockId) (a : α) : PerLock α :=
  match i with
  | .centre => { r with centre := a }
  | .northTail => { r with northTail := a }
  | .southTail => { r with southTail := a }

def PerBarrier.get {α : Type} (r : PerBarrier α) : BarrierId → α
  | .northEntry => r.northEntry
  | .northExit => r.northExit
  | .southEntry => r.southEntry
  | .southExit => r.southExit

def PerBarrier.set {α : Type} (r : PerBarrier α) (i : BarrierId) (a : α) : PerBarrier α :=
  match i with
  | .northEntry => { r with northEntry := a }
  | .northExit => { r with northExit := a }
  | .southEntry => { r with southEntry := a }
  | .southExit => { r with southExit := a }

def PerDir.get {α : Type} (r : PerDir α) : Dir → α
  | .inbound => r.inbound
  | .outbound => r.outbound

def PerDir.set {α : Type} (r : PerDir α) (i : Dir) (a : α) : PerDir α :=
  match i with
  | .inbound => { r with inbound := a }
  | .outbound => { r with outbound := a }

/-! ## Span interlock (chapter 1, chapter 11) -/

inductive Mode where
  | config | adopt | operate
deriving DecidableEq, Repr

inductive SpanPhase where
  | traffic | closing | closed | unlocking | unlocked | raising | opened | lowering | seated | locking
  | reopening | recovery
deriving DecidableEq, Repr

/-- The condition codes of section 12.6, in code order from 1. -/
inductive Cond where
  | estopLatched | stationNotReady | roadNotClosed | barrierNotProven | locksNotWithdrawn | locksNotDriven
  | leafNotSeated | leafFault | driveNotReady | windStop | windSensor | positionUncertain | vesselUnderway
  | queueEmpty | motionInProgress | overrideNotApplicable
deriving DecidableEq, Repr

/-- The hold cause of R1. -/
inductive HoldCause where
  | none | holdRequest | estop | consoleLost
  | maintained (c : Cond)
  | movementShort
deriving DecidableEq, Repr

/-- The target of a raise: FULL or an angle in cd (R1, R126). -/
inductive RaiseTarget where
  | full
  | angle (cd : Nat)
deriving DecidableEq, Repr

/-- A movement kind with its target: the contents of the movement order (R1) and of the next movement (R126). -/
inductive Movement where
  | raise (t : RaiseTarget)
  | lower
  | recoveryLower
deriving DecidableEq, Repr

/-- An entry of the override table (R24). -/
inductive Override where
  | barrier (b : BarrierId)
  | complement (a : Approach)
deriving DecidableEq, Repr

inductive AdoptOutcome where
  | none | allFresh | timeout
deriving DecidableEq, Repr

/-- The SIL record of R1 and the adoption record of R194. -/
structure Sil where
  mode : Mode := .config
  phase : SpanPhase := .traffic
  held : Bool := false
  cause : HoldCause := .none
  latch : Bool := false
  consoleLost : Bool := false
  order : Option Movement := none
  overrides : List Override := []
  adoptTimer : Option Nat := none
  adoptOutcome : AdoptOutcome := .none
  notFresh : Nat := 0
deriving DecidableEq, Repr

/-! ## Field links (chapter 2) -/

inductive LinkState where
  | hunt | confirm | aligned | degraded
deriving DecidableEq, Repr

inductive HuntCause where
  | reset | confirmFailed | loss | excessive
deriving DecidableEq, Repr

inductive StationStatus where
  | healthy | localKey | stationFault | undefined
deriving DecidableEq, Repr

inductive Codeword where
  | hold | operate
deriving DecidableEq, Repr

/-- The link record of R29. `txFrame` is the frame being sent (R43, R44); it is empty until the first frame start
after power-on. -/
structure LinkRec where
  state : LinkState := .hunt
  expected : Option (BitVec 4) := none
  confirmations : Nat := 0
  errors : Nat := 0
  windowFrames : Nat := 0
  windowErrors : Nat := 0
  excess : Bool := false
  huntCause : HuntCause := .reset
  prevStatus : Option (BitVec 4) := none
  status : StationStatus := .undefined
  txNumber : BitVec 4 := 0
  txCodeword : Codeword := .hold
  txFrame : List Octet := []
deriving DecidableEq, Repr

/-! ## Input qualification and channel assignment (chapter 3) -/

/-- The input functions of R51, in number order 1 to 41. -/
inductive InputFn where
  | entryUp (a : Approach) | entryDown (a : Approach) | exitUp (a : Approach) | exitDown (a : Approach)
  | loopA (a : Approach) | loopB (a : Approach)
  | amberI (a : Approach) | redAI (a : Approach) | redBI (a : Approach)
  | red1I (d : Dir) | red2I (d : Dir) | greenI (d : Dir)
  | seated (l : LeafId) | openLimit (l : LeafId) | overtravel (l : LeafId)
  | brakeReleased (l : LeafId) | driveReady (l : LeafId)
  | lockDriven (k : LockId) | lockWithdrawn (k : LockId)
  | estop
deriving DecidableEq, Repr

/-- The output functions of R64. -/
inductive OutputFn where
  | amber (a : Approach) | redA (a : Approach) | redB (a : Approach) | bell (a : Approach)
  | lower (b : BarrierId) | raise (b : BarrierId)
  | red1 (d : Dir) | red2 (d : Dir) | green (d : Dir)
deriving DecidableEq, Repr

/-- A position of a field link: the channel (0 to 7 for C1 to C8) times 8 plus the bit, so 0 to 59 (R27). -/
abbrev Position := Fin 60

inductive Freshness where
  | fresh | held | failsafe
deriving DecidableEq, Repr

/-- The running fields of the input record of R52. -/
structure InputRec where
  qualified : Bool
  candidate : Option Bool := none
  agreement : Nat := 0
  freshness : Freshness
  pendingFirst : Bool
  heldSince : Option Nat := none
deriving DecidableEq, Repr

structure Iq where
  recs : Vector InputRec 41
  lastGood : PerLink (Option Nat) := ⟨none, none, none⟩
deriving DecidableEq, Repr

/-- An input entry of CAT (R64). The link of a field input is fixed by its function (R65). -/
inductive InputEntry where
  | position (pos : Position) (n : Nat) (invert report : Bool)
  | notFitted
deriving DecidableEq, Repr

structure Cat where
  inputs : Vector (Option InputEntry) 24 := Vector.replicate 24 none
  outputs : PerLink (Vector (Option OutputFn) 60) :=
    ⟨Vector.replicate 60 none, Vector.replicate 60 none, Vector.replicate 60 none⟩
deriving DecidableEq, Repr

/-! ## Signal lamp unit (chapter 4) -/

inductive RoadAspect where
  | dark | amber | redFlash
deriving DecidableEq, Repr

inductive LampState where
  | untested | proven | failed | stuckOn
deriving DecidableEq, Repr

inductive ProveMode where
  | idle | edge | present | absent | settle
deriving DecidableEq, Repr

/-- The lamp group record of R77. -/
structure LampRec where
  fitted : Bool := false
  command : Bool := false
  state : LampState := .untested
  proofs : Nat := 0
  timer : ProveMode := .idle
  remaining : Nat := 0
  absentSeen : Bool := false
deriving DecidableEq, Repr

/-- The generator record of R70 (its cadence is FLASH_FPM among the parameters), the approach aspects of R74 and the
lamp groups of R77. -/
structure Slu where
  running : Bool := false
  phaseB : Bool := false
  residue : Nat := 0
  remaining : Nat := 0
  aspects : PerApproach RoadAspect := ⟨.dark, .dark⟩
  lamps : Vector LampRec 12 := Vector.replicate 12 {}
deriving DecidableEq, Repr

/-! ## Road sequencer and barriers (chapter 5) -/

inductive RoadPhase where
  | roadOpen | amber | redWarn | entryLowering | clearance | exitLowering | roadClosed | exitRaising
  | entryRaising | alert
deriving DecidableEq, Repr

inductive PhaseTimer where
  | idle
  | running (ms : Nat)
  | runOut
deriving DecidableEq, Repr

inductive ClearanceTimer where
  | idle
  | full
  | running (ms : Nat)
  | runOut
deriving DecidableEq, Repr

inductive ComplementWait where
  | none | north | south | both
deriving DecidableEq, Repr

inductive AlertCause where
  | none | seat | lock | seatAndLock | recovery | cleared
deriving DecidableEq, Repr

inductive PendingStep where
  | none | enterRedWarn | enterEntryLowering | enterExitLowering | enterEntryRaising
deriving DecidableEq, Repr

/-- The RSQ record of R87 with the BELL outputs of R88. -/
structure Rsq where
  phase : RoadPhase := .roadOpen
  timer : PhaseTimer := .idle
  clearance : ClearanceTimer := .idle
  wait : ComplementWait := .none
  cause : AlertCause := .none
  step : PendingStep := .none
  exitPaused : Bool := false
  bells : PerApproach Bool := ⟨false, false⟩
deriving DecidableEq, Repr

inductive BarrierCmd where
  | lower | raise | stop
deriving DecidableEq, Repr

inductive BarrierState where
  | up | lowering | down | raising | stopped | unproven | fault
deriving DecidableEq, Repr

/-- A travel timer of R101 or R150: idle, or running or halted at an elapsed time. -/
inductive TravelTimer where
  | idle
  | running (ms : Nat)
  | halted (ms : Nat)
deriving DecidableEq, Repr

/-- The fault kinds of a barrier (R101) and of a lock (R150). -/
inductive TravelFault where
  | none | travelTimeout | switchConflict | lostPosition
deriving DecidableEq, Repr

structure BarrierRec where
  command : BarrierCmd := .stop
  state : BarrierState := .unproven
  timer : TravelTimer := .idle
  fault : TravelFault := .none
deriving DecidableEq, Repr

/-! ## Leaf drive controllers (chapters 6 and 7) -/

/-- The fault kinds of R116 in its table's order. -/
inductive LeafFault where
  | overspeed | stall | wrongDirection | overtravel | driveNotReady | seatNotFound | skew
  | brakeNotReleased | brakeNotSet | brakeDropped
deriving DecidableEq, Repr

inductive SpeedDir where
  | raise | lower | none
deriving DecidableEq, Repr

inductive LeafState where
  | seated | parked | releasing | moving | stopping | fault
deriving DecidableEq, Repr

inductive MoveKind where
  | none | raise | lower | recoveryLower
deriving DecidableEq, Repr

inductive ArrivalRule where
  | none | byTarget | openLimitOnly | seatSearch | seatOnly
deriving DecidableEq, Repr

inductive DriveDir where
  | raise | lower
deriving DecidableEq, Repr

inductive LastStop where
  | none | stoppedByEstop
deriving DecidableEq, Repr

/-- The position record of R108; the angle is computed from it (R112). -/
structure PositionRec where
  position : Int := 0
  certain : Bool := false
  angleKnown : Bool := false
  phaseA : Bool := false
  phaseB : Bool := false
  errorCount : Nat := 0
  seatCorrection : Option Int := none
  openLimitPos : Option Int := none
deriving DecidableEq, Repr

/-- The speed window record of R114. -/
structure SpeedRec where
  running : Bool := false
  elapsed : Nat := 0
  net : Int := 0
  gross : Nat := 0
  speed : Nat := 0
  dir : SpeedDir := .none
  stationary : Option Bool := none
deriving DecidableEq, Repr

/-- The fault record of R116. -/
structure FaultRec where
  first : Option LeafFault := none
  kinds : List LeafFault := []
  stall : Option Nat := none
  wrongDir : Nat := 0
deriving DecidableEq, Repr

/-- The last update of R126. -/
structure UpdateRec where
  distance : Int
  zone : Nat
  cap : Nat
  lead : BitVec 24
  trimmed : Bool
deriving DecidableEq, Repr

/-- The motion record of R126. -/
structure MotionRec where
  state : LeafState := .parked
  arrived : Bool := false
  kind : MoveKind := .none
  target : Option RaiseTarget := none
  targetCounts : Option Int := none
  rule : ArrivalRule := .none
  takingPart : Bool := false
  arrivalReached : Bool := false
  next : Option Movement := none
  command : Nat := 0
  updateTimer : Option Nat := none
  driveDir : DriveDir := .raise
  brakeSetAsked : Bool := false
  lastStop : LastStop := .none
  lastUpdate : Option UpdateRec := none
deriving DecidableEq, Repr

structure LeafRec where
  pos : PositionRec := {}
  win : SpeedRec := {}
  flt : FaultRec := {}
  mot : MotionRec := {}
deriving DecidableEq, Repr

/-! ## Lock and brake controller (chapter 8) -/

inductive BrakeCmd where
  | set | release
deriving DecidableEq, Repr

inductive BrakeState where
  | set | releasing | released | setting | fault
deriving DecidableEq, Repr

inductive BrakeFault where
  | none | brakeNotReleased | brakeNotSet | brakeDropped
deriving DecidableEq, Repr

/-- The brake record of R146. -/
structure BrakeRec where
  command : BrakeCmd := .set
  state : BrakeState := .set
  timer : Option Nat := none
  fault : BrakeFault := .none
  lastFault : BrakeFault := .none
  mismatch : Bool := false
deriving DecidableEq, Repr

inductive LockCmd where
  | off | drive | withdraw
deriving DecidableEq, Repr

inductive LockState where
  | driven | withdrawing | withdrawn | driving | interrupted | fault
deriving DecidableEq, Repr

/-- The lock record of R150. -/
structure LockRec where
  command : LockCmd := .off
  state : LockState := .fault
  timer : TravelTimer := .idle
  fault : TravelFault := .none
deriving DecidableEq, Repr

inductive LockSequence where
  | none | withdraw | drive
deriving DecidableEq, Repr

inductive SeqStep where
  | none | centre | tails
deriving DecidableEq, Repr

inductive SeqStatus where
  | none | running | complete
deriving DecidableEq, Repr

/-- The sequence record of R150. -/
structure SeqRec where
  sequence : LockSequence := .none
  step : SeqStep := .none
  status : SeqStatus := .none
deriving DecidableEq, Repr

/-! ## Navigation unit (chapter 9) -/

inductive VesselClass where
  | emergency | scheduled | ordinary
deriving DecidableEq, Repr

/-- An entry of the passage queue (R163). -/
structure Vessel where
  ident : Nat
  dir : Dir
  airDraft : Nat
  cls : VesselClass
  required : Nat
deriving DecidableEq, Repr

inductive VesselState where
  | waiting | proceeding | cleared | withdrawn
deriving DecidableEq, Repr

/-- A filled slot of the passage group (R166). -/
structure Slot where
  vessel : Vessel
  state : VesselState
deriving DecidableEq, Repr

inductive GroupState where
  | none | awaitingOpen | passing | complete
deriving DecidableEq, Repr

inductive GroupTarget where
  | none
  | full
  | passage (cd : Nat)
deriving DecidableEq, Repr

inductive ProceedFall where
  | none | clearanceLost | greenFailed
deriving DecidableEq, Repr

/-- Why the candidate is not granted, in the numbering of R206 (R171). -/
inductive Blocked where
  | none | gap | pierNotReady | greenFailed | estopLatched | consoleLost | leafNotParked | positionUncertain
  | angleLow
deriving DecidableEq, Repr

inductive ChannelAspect where
  | red | standby | proceed | outOfService
deriving DecidableEq, Repr

/-- The clearance table of R160 (pairs of angle and clearance), the queue of R163, the group record of R166 (slots are
filled in order and keep their vessels, so the filled slots are a list) and the channel aspects of R175. -/
structure Nav where
  table : List (Nat × Nat) := []
  loaded : Bool := false
  queue : List Vessel := []
  group : GroupState := .none
  target : GroupTarget := .none
  targetAngle : Nat := 0
  slots : List Slot := []
  proceedShown : Option Dir := none
  fall : ProceedFall := .none
  blocked : Blocked := .none
  gap : Option Nat := none
  lastCleared : Option Dir := none
  aspects : PerDir ChannelAspect := ⟨.red, .red⟩
deriving DecidableEq, Repr

/-! ## Wind monitor (chapter 10) -/

inductive MeasureState where
  | firstEdge | timing | calm
deriving DecidableEq, Repr

inductive WindLevel where
  | normal | high | stop
deriving DecidableEq, Repr

/-- The wind record of R180; `sound` is the sensor state. -/
structure Wmn where
  measure : MeasureState := .firstEdge
  period : Nat := 0
  lastPeriod : Option Nat := none
  wind : Nat := 0
  gust : Nat := 0
  age : Nat := 0
  gustLevel : WindLevel := .normal
  sound : Bool := true
  run : Nat := 0
  alarm : WindLevel := .normal
  implausible : Nat := 0
deriving DecidableEq, Repr

/-! ## Parameters (chapter 12) -/

/-- The active values of the parameters of R202, at their reset values by default. LOSS_CRITERION is 0 for MARKER and 1
for ANY. FLASH_FPM is the active cadence of R70. -/
structure Params where
  presenceMs : Nat := 2000
  reportFloor : Nat := 3
  errLimit : Nat := 40
  lossCriterion : Nat := 0
  rehuntOnExcess : Nat := 0
  holdMs : Nat := 500
  directDebounce : Nat := 5
  adoptMs : Nat := 5000
  amberMs : Nat := 5000
  preEntryMs : Nat := 8000
  clearMs : Nat := 6000
  barrierTravelMs : Nat := 12000
  flashFpm : Nat := 50
  lampProveMs : Nat := 200
  fullCounts : PerLeaf Nat := ⟨40000, 40000⟩
  openAngleCd : PerLeaf Nat := ⟨8000, 8000⟩
  ratedCps : PerLeaf Nat := ⟨1000, 1000⟩
  vCruise : Nat := 800
  vCreep : Nat := 60
  accel : Nat := 4
  decel : Nat := 8
  slowZone : Nat := 6000
  creepZone : Nat := 800
  skewTrimCd : Nat := 50
  skewLimitCd : Nat := 200
  seatSearch : Nat := 400
  stallMs : Nat := 2000
  overspeedPm : Nat := 1150
  wrongDirCounts : Nat := 50
  brakeProveMs : Nat := 1500
  lockTravelMs : Nat := 8000
  anemoK : Nat := 7000000
  anemoMinUs : Nat := 5000
  wKneeDms : Nat := 150
  wStopDms : Nat := 220
  wHystDms : Nat := 20
  gustHoldS : Nat := 10
  angleMarginCd : Nat := 300
  followMs : Nat := 10000
  reverseMs : Nat := 60000
deriving DecidableEq, Repr

/-- The pending values of the staged parameters of R202. -/
structure Pending where
  presenceMs : Option Nat := none
  flashFpm : Option Nat := none
  vCruise : Option Nat := none
  accel : Option Nat := none
  angleMarginCd : Option Nat := none
  followMs : Option Nat := none
  reverseMs : Option Nat := none
deriving DecidableEq, Repr

/-! ## Report queue and console port (chapter 12) -/

/-- The report kinds of R204 in its table's order. -/
inductive ReportKind where
  | estop | clearanceLost | leaf | span | road | barrier | lock | nav | passage | console | link | station
  | lamp | wind | input | port
deriving DecidableEq, Repr

/-- An entry of RQ (R204). The posting order is the order of the entries in the list; `body` is the content as
encoded by R206, after the subject octet. -/
structure Entry where
  kind : ReportKind
  subject : Nat
  count : Nat
  body : List Octet
deriving DecidableEq, Repr

/-- A posting that a rule makes of its own accord, beside those that follow from a change of state between the two
ends of an event: the fields are what the report carries and no state keeps. -/
inductive Note where
  | estop (leaves : List LeafId) (locks : List LockId) (barriers : List BarrierId)
  | clearanceLost (v : Vessel) (angleLow : Bool)
  | leaf (l : LeafId)
  | span
  | road
  | lock (k : LockId)
  | nav (d : Dir)
  | passage (slot : Nat)
  | console
  | link (l : Link) (frames errors : Nat)
  | input (index : Fin 41)
deriving DecidableEq, Repr

/-- A console frame without START, LEN and CRC, which follow from these fields (R197). -/
structure Frame where
  kind : Octet
  tag : Octet
  body : List Octet
deriving DecidableEq, Repr

/-- The receiver of R198: hunting, or inside a frame with the octets taken after START and the time left of the 5 ms
gap. -/
inductive Receiver where
  | hunting
  | inFrame (octets : List Octet) (gapMs : Nat)
deriving DecidableEq, Repr

/-- The CPT record of R199 without the presence timer. -/
structure Cpt where
  receiver : Receiver := .hunting
  buffer : List Frame := []
  replies : List Frame := []
  tx : Option Frame := none
  overrun : Nat := 0
deriving DecidableEq, Repr

/-! ## The whole machine -/

/-- The records of every block but the console port and the report queue. -/
structure Blocks where
  sil : Sil
  links : PerLink LinkRec
  iq : Iq
  cat : Cat
  slu : Slu
  rsq : Rsq
  barriers : PerBarrier BarrierRec
  leaves : PerLeaf LeafRec
  brakes : PerLeaf BrakeRec
  locks : PerLock LockRec
  seq : SeqRec
  nav : Nav
  wmn : Wmn
  par : Params
  pend : Pending
  /-- the presence timer of R191: time remaining, none while STOPPED -/
  presence : Option Nat
  /-- the PRESENCE_MS that last ran out, which the CONSOLE report carries (R192) -/
  presRanOut : Nat
  /-- milliseconds counted by the sampling timer (assumption log 3) -/
  now : Nat
  /-- the explicit postings of the event being executed; empty between events -/
  notes : List Note
deriving DecidableEq, Repr

structure State where
  /-- the commands that wait, first in first out -/
  pending : List Instr
  blocks : Blocks
  cpt : Cpt
  /-- the report queue of R204, in posting order -/
  rq : List Entry
deriving DecidableEq, Repr

/-- No command of this block stops it with a fault: what the manual calls a fault is a state of the leaf, brake, lock,
barrier, lamp or sensor it names. -/
inductive Fault where
deriving DecidableEq, Repr

/-- No command of this block is refused by the model. -/
inductive Refusal where
  /-- Raised by an arm of exec whose command has no meaning yet; no arm is in that case. Safe: the machine stops. -/
  | notModelled (mnemonic : String)
deriving DecidableEq, Repr

/-! ## Reset values -/

/-- The record a field input without a CAT entry takes: benign and FRESH where the function is optional, fail-safe and
FAILSAFE where it is mandatory (R51, R52). -/
def InputRec.unassigned (optional failSafe : Bool) : InputRec :=
  if optional then { qualified := false, freshness := .fresh, pendingFirst := false }
  else { qualified := failSafe, freshness := .failsafe, pendingFirst := false }

/-- The record of a function that has a source, at its reset values (R52). -/
def InputRec.unqualified (failSafe : Bool) : InputRec :=
  { qualified := failSafe, freshness := .failsafe, pendingFirst := true }

/-- The input records after power-on reset, where CAT is empty: the nine functions of NORTH, the nine of SOUTH, the six
of PIER and the seventeen machinery functions (R51). -/
def Iq.reset : Iq :=
  let sw := InputRec.unassigned false false
  let loop := InputRec.unassigned false true
  let opt := InputRec.unassigned true false
  let station := [sw, sw, sw, sw, loop, opt, opt, sw, opt]
  let direction := [sw, opt, sw]
  let open_ := InputRec.unqualified false
  { recs := Vector.mk (station ++ station ++ direction ++ direction ++
      [open_, open_, open_, open_, InputRec.unqualified true, InputRec.unqualified true, open_, open_, open_, open_,
       open_, open_, open_, open_, open_, open_, open_]).toArray (by rfl) }

/-- Every record of every block at its power-on value (R1 and the table of each chapter). -/
def Blocks.reset : Blocks where
  sil := {}
  links := ⟨{}, {}, {}⟩
  iq := Iq.reset
  cat := {}
  slu := {}
  rsq := {}
  barriers := ⟨{}, {}, {}, {}⟩
  leaves := ⟨{}, {}⟩
  brakes := ⟨{}, {}⟩
  locks := ⟨{}, {}, {}⟩
  seq := {}
  nav := {}
  wmn := {}
  par := {}
  pend := {}
  presence := none
  presRanOut := 0
  now := 0
  notes := []

/-- The machine right after power-on reset. -/
def State.reset : State where
  pending := []
  blocks := Blocks.reset
  cpt := {}
  rq := []

end Sys2Proof.Machine
end

