-- ==== Sys2Proof/Machine/Functions.lean ====
section
/-! DEFINITION. The numbered functions: the 41 input functions (R51), the 22 output functions and the twelve lamp groups
(R64), the subjects of the console's requests, and the positions of a field link (R27). -/

namespace Sys2Proof.Machine

/-! ## Subjects -/

def Approach.all : List Approach := [.north, .south]
def LeafId.all : List LeafId := [.north, .south]
def LockId.all : List LockId := [.centre, .northTail, .southTail]
def BarrierId.all : List BarrierId := [.northEntry, .northExit, .southEntry, .southExit]
def Link.all : List Link := [.n, .s, .p]
def Dir.all : List Dir := [.inbound, .outbound]

def otherLeaf : LeafId → LeafId
  | .north => .south
  | .south => .north

def otherDir : Dir → Dir
  | .inbound => .outbound
  | .outbound => .inbound

/-- The approach on which a barrier stands. -/
def barrierApproach : BarrierId → Approach
  | .northEntry => .north
  | .northExit => .north
  | .southEntry => .south
  | .southExit => .south

def isEntry : BarrierId → Bool
  | .northEntry => true
  | .northExit => false
  | .southEntry => true
  | .southExit => false

def leafNumber : LeafId → Nat
  | .north => 0
  | .south => 1

def lockNumber : LockId → Nat
  | .centre => 0
  | .northTail => 1
  | .southTail => 2

def barrierNumber : BarrierId → Nat
  | .northEntry => 0
  | .northExit => 1
  | .southEntry => 2
  | .southExit => 3

def linkNumber : Link → Nat
  | .n => 0
  | .s => 1
  | .p => 2

def approachNumber : Approach → Nat
  | .north => 0
  | .south => 1

def dirNumber : Dir → Nat
  | .inbound => 0
  | .outbound => 1

def leafOf : Nat → Option LeafId
  | 0 => some .north
  | 1 => some .south
  | _ => none

def lockOf : Nat → Option LockId
  | 0 => some .centre
  | 1 => some .northTail
  | 2 => some .southTail
  | _ => none

def barrierOf : Nat → Option BarrierId
  | 0 => some .northEntry
  | 1 => some .northExit
  | 2 => some .southEntry
  | 3 => some .southExit
  | _ => none

def linkOf : Nat → Option Link
  | 0 => some .n
  | 1 => some .s
  | 2 => some .p
  | _ => none

def approachOf : Nat → Option Approach
  | 0 => some .north
  | 1 => some .south
  | _ => none

def dirOf : Nat → Option Dir
  | 0 => some .inbound
  | 1 => some .outbound
  | _ => none

/-! ## Input functions (R51) -/

/-- The place of an input function in the list of R51: its number less 1. -/
def inputIndex : InputFn → Fin 41
  | .entryUp .north => 0 | .entryDown .north => 1 | .exitUp .north => 2 | .exitDown .north => 3
  | .loopA .north => 4 | .loopB .north => 5 | .amberI .north => 6 | .redAI .north => 7 | .redBI .north => 8
  | .entryUp .south => 9 | .entryDown .south => 10 | .exitUp .south => 11 | .exitDown .south => 12
  | .loopA .south => 13 | .loopB .south => 14 | .amberI .south => 15 | .redAI .south => 16 | .redBI .south => 17
  | .red1I .inbound => 18 | .red2I .inbound => 19 | .greenI .inbound => 20
  | .red1I .outbound => 21 | .red2I .outbound => 22 | .greenI .outbound => 23
  | .seated .north => 24 | .seated .south => 25
  | .openLimit .north => 26 | .openLimit .south => 27
  | .overtravel .north => 28 | .overtravel .south => 29
  | .brakeReleased .north => 30 | .brakeReleased .south => 31
  | .driveReady .north => 32 | .driveReady .south => 33
  | .lockDriven .centre => 34 | .lockDriven .northTail => 35 | .lockDriven .southTail => 36
  | .lockWithdrawn .centre => 37 | .lockWithdrawn .northTail => 38 | .lockWithdrawn .southTail => 39
  | .estop => 40

/-- The 24 field input functions, numbers 1 to 24. -/
def fieldInputs : List InputFn :=
  [.entryUp .north, .entryDown .north, .exitUp .north, .exitDown .north, .loopA .north, .loopB .north,
   .amberI .north, .redAI .north, .redBI .north,
   .entryUp .south, .entryDown .south, .exitUp .south, .exitDown .south, .loopA .south, .loopB .south,
   .amberI .south, .redAI .south, .redBI .south,
   .red1I .inbound, .red2I .inbound, .greenI .inbound, .red1I .outbound, .red2I .outbound, .greenI .outbound]

/-- The 17 machinery input functions, numbers 25 to 41. -/
def machineInputs : List InputFn :=
  [.seated .north, .seated .south, .openLimit .north, .openLimit .south, .overtravel .north, .overtravel .south,
   .brakeReleased .north, .brakeReleased .south, .driveReady .north, .driveReady .south,
   .lockDriven .centre, .lockDriven .northTail, .lockDriven .southTail,
   .lockWithdrawn .centre, .lockWithdrawn .northTail, .lockWithdrawn .southTail, .estop]

def allInputs : List InputFn := fieldInputs ++ machineInputs

/-- The input function of a number 1 to 41. -/
def inputOf (number : Nat) : Option InputFn :=
  match number with
  | 0 => none
  | k + 1 => allInputs[k]?

/-- The fail-safe value of R51: occupied for a loop, made for OVERTRAVEL, not made or absent for the rest. -/
def failSafe : InputFn → Bool
  | .loopA _ => true
  | .loopB _ => true
  | .overtravel _ => true
  | _ => false

/-- The optional inputs of R51. -/
def isOptional : InputFn → Bool
  | .loopB _ => true
  | .amberI _ => true
  | .redBI _ => true
  | .red2I _ => true
  | _ => false

def approachLink : Approach → Link
  | .north => .n
  | .south => .s

/-- The link of a field input function's station (R65), none for a machinery function. -/
def inputLink : InputFn → Option Link
  | .entryUp a => some (approachLink a) | .entryDown a => some (approachLink a)
  | .exitUp a => some (approachLink a) | .exitDown a => some (approachLink a)
  | .loopA a => some (approachLink a) | .loopB a => some (approachLink a)
  | .amberI a => some (approachLink a) | .redAI a => some (approachLink a) | .redBI a => some (approachLink a)
  | .red1I _ => some .p | .red2I _ => some .p | .greenI _ => some .p
  | .seated _ => none | .openLimit _ => none | .overtravel _ => none | .brakeReleased _ => none
  | .driveReady _ => none | .lockDriven _ => none | .lockWithdrawn _ => none | .estop => none

/-- The UP switch input of a barrier. -/
def upSwitch : BarrierId → InputFn
  | .northEntry => .entryUp .north
  | .northExit => .exitUp .north
  | .southEntry => .entryUp .south
  | .southExit => .exitUp .south

/-- The DOWN switch input of a barrier. -/
def downSwitch : BarrierId → InputFn
  | .northEntry => .entryDown .north
  | .northExit => .exitDown .north
  | .southEntry => .entryDown .south
  | .southExit => .exitDown .south

/-! ## Output functions (R64) -/

/-- The 22 output functions in number order. -/
def outputFunctions : List OutputFn :=
  [.amber .north, .redA .north, .redB .north, .bell .north,
   .lower .northEntry, .raise .northEntry, .lower .northExit, .raise .northExit,
   .amber .south, .redA .south, .redB .south, .bell .south,
   .lower .southEntry, .raise .southEntry, .lower .southExit, .raise .southExit,
   .red1 .inbound, .red2 .inbound, .green .inbound, .red1 .outbound, .red2 .outbound, .green .outbound]

/-- The output function of a number 1 to 22. -/
def outputOf (number : Nat) : Option OutputFn :=
  match number with
  | 0 => none
  | k + 1 => outputFunctions[k]?

/-- The link a barrier command must lie on (R66); lamps and BELL may lie on any. -/
def outputLink : OutputFn → Option Link
  | .lower b => some (approachLink (barrierApproach b))
  | .raise b => some (approachLink (barrierApproach b))
  | .amber _ => none | .redA _ => none | .redB _ => none | .bell _ => none
  | .red1 _ => none | .red2 _ => none | .green _ => none

/-- The mandatory output functions of R64. -/
def outputMandatory : OutputFn → Bool
  | .redA _ => true
  | .lower _ => true
  | .raise _ => true
  | .red1 _ => true
  | .green _ => true
  | .amber _ => false | .redB _ => false | .bell _ => false | .red2 _ => false

/-! ## Lamp groups (R64) -/

def lampGroups : List Lamp :=
  [.amber .north, .redA .north, .redB .north, .amber .south, .redA .south, .redB .south,
   .red1 .inbound, .red2 .inbound, .green .inbound, .red1 .outbound, .red2 .outbound, .green .outbound]

def lampIndex : Lamp → Fin 12
  | .amber .north => 0 | .redA .north => 1 | .redB .north => 2
  | .amber .south => 3 | .redA .south => 4 | .redB .south => 5
  | .red1 .inbound => 6 | .red2 .inbound => 7 | .green .inbound => 8
  | .red1 .outbound => 9 | .red2 .outbound => 10 | .green .outbound => 11

def lampOutput : Lamp → OutputFn
  | .amber a => .amber a
  | .redA a => .redA a
  | .redB a => .redB a
  | .red1 d => .red1 d
  | .red2 d => .red2 d
  | .green d => .green d

def lampInput : Lamp → InputFn
  | .amber a => .amberI a
  | .redA a => .redAI a
  | .redB a => .redBI a
  | .red1 d => .red1I d
  | .red2 d => .red2I d
  | .green d => .greenI d

/-! ## Positions (R27) -/

/-- The position of a channel 1 to 8 and a bit: bits 0 to 7 of C1 to C7, bits 0 to 3 of C8. -/
def positionOf (channel bit : Nat) : Option Position :=
  if 1 ≤ channel ∧ bit ≤ 7 then
    let p := (channel - 1) * 8 + bit
    if h : p < 60 then some ⟨p, h⟩ else none
  else none

/-- The channel, 1 to 8, of a position. -/
def positionChannel (p : Position) : Nat := p.val / 8 + 1

/-- The bit of a position within its channel octet. -/
def positionBit (p : Position) : Nat := p.val % 8

end Sys2Proof.Machine
end

