-- ==== Sys2Proof/Machine/Params.lean ====
section
/-! DEFINITION. The parameter table of R202: identifiers, ranges, classes, and the reading and writing of active and
pending values. -/

namespace Sys2Proof.Machine

/-- The class of a parameter (R202). -/
inductive ParamClass where
  | configOnly | atOnce | staged
deriving DecidableEq, Repr

/-- The three per-leaf parameters are FULL_COUNTS, OPEN_ANGLE_CD and RATED_CPS. -/
def paramPerLeaf (ident : Nat) : Bool := ident == 15 || ident == 16 || ident == 17

/-- Whether an identifier and a subject name a parameter (R202, check 1). -/
def paramNamed (ident subject : Nat) : Bool :=
  (1 ≤ ident && ident ≤ 40) && (subject == 0 || (paramPerLeaf ident && subject == 1))

/-- The class column of R202. -/
def paramClass (ident : Nat) : ParamClass :=
  match ident with
  | 1 => .staged
  | 2 => .atOnce
  | 13 => .staged
  | 18 => .staged
  | 20 => .staged
  | 38 => .staged
  | 39 => .staged
  | 40 => .staged
  | _ => .configOnly

/-- The range column of R202. -/
def paramRange (ident : Nat) : Nat × Nat :=
  match ident with
  | 1 => (500, 10000)
  | 2 => (0, 3)
  | 3 => (1, 999)
  | 4 => (0, 1)
  | 5 => (0, 1)
  | 6 => (0, 2000)
  | 7 => (2, 20)
  | 8 => (1000, 30000)
  | 9 => (3000, 10000)
  | 10 => (2000, 30000)
  | 11 => (2000, 20000)
  | 12 => (4000, 20000)
  | 13 => (40, 60)
  | 14 => (100, 500)
  | 15 => (4000, 60000)
  | 16 => (6000, 8500)
  | 17 => (100, 20000)
  | 18 => (100, 1000)
  | 19 => (20, 200)
  | 20 => (1, 50)
  | 21 => (1, 100)
  | 22 => (100, 20000)
  | 23 => (0, 5000)
  | 24 => (10, 300)
  | 25 => (50, 600)
  | 26 => (50, 2000)
  | 27 => (500, 5000)
  | 28 => (1000, 1500)
  | 29 => (10, 500)
  | 30 => (200, 3000)
  | 31 => (2000, 20000)
  | 32 => (100000, 20000000)
  | 33 => (1000, 20000)
  | 34 => (50, 400)
  | 35 => (100, 500)
  | 36 => (5, 50)
  | 37 => (1, 60)
  | 38 => (0, 1000)
  | 39 => (0, 120000)
  | _ => (10000, 300000)

/-- Whether a value lies in the parameter's range. -/
def paramInRange (ident : Nat) (v : Int) : Bool :=
  ((paramRange ident).1 : Int) ≤ v && v ≤ ((paramRange ident).2 : Int)

/-- The leaf a per-leaf parameter's subject names. -/
def subjectLeaf (subject : Nat) : LeafId := if subject == 1 then .south else .north

/-- The active value of a parameter. -/
def paramGet (p : Params) (ident subject : Nat) : Nat :=
  match ident with
  | 1 => p.presenceMs
  | 2 => p.reportFloor
  | 3 => p.errLimit
  | 4 => p.lossCriterion
  | 5 => p.rehuntOnExcess
  | 6 => p.holdMs
  | 7 => p.directDebounce
  | 8 => p.adoptMs
  | 9 => p.amberMs
  | 10 => p.preEntryMs
  | 11 => p.clearMs
  | 12 => p.barrierTravelMs
  | 13 => p.flashFpm
  | 14 => p.lampProveMs
  | 15 => p.fullCounts.get (subjectLeaf subject)
  | 16 => p.openAngleCd.get (subjectLeaf subject)
  | 17 => p.ratedCps.get (subjectLeaf subject)
  | 18 => p.vCruise
  | 19 => p.vCreep
  | 20 => p.accel
  | 21 => p.decel
  | 22 => p.slowZone
  | 23 => p.creepZone
  | 24 => p.skewTrimCd
  | 25 => p.skewLimitCd
  | 26 => p.seatSearch
  | 27 => p.stallMs
  | 28 => p.overspeedPm
  | 29 => p.wrongDirCounts
  | 30 => p.brakeProveMs
  | 31 => p.lockTravelMs
  | 32 => p.anemoK
  | 33 => p.anemoMinUs
  | 34 => p.wKneeDms
  | 35 => p.wStopDms
  | 36 => p.wHystDms
  | 37 => p.gustHoldS
  | 38 => p.angleMarginCd
  | 39 => p.followMs
  | _ => p.reverseMs

/-- The parameters with one active value written. -/
def paramSet (p : Params) (ident subject v : Nat) : Params :=
  match ident with
  | 1 => { p with presenceMs := v }
  | 2 => { p with reportFloor := v }
  | 3 => { p with errLimit := v }
  | 4 => { p with lossCriterion := v }
  | 5 => { p with rehuntOnExcess := v }
  | 6 => { p with holdMs := v }
  | 7 => { p with directDebounce := v }
  | 8 => { p with adoptMs := v }
  | 9 => { p with amberMs := v }
  | 10 => { p with preEntryMs := v }
  | 11 => { p with clearMs := v }
  | 12 => { p with barrierTravelMs := v }
  | 13 => { p with flashFpm := v }
  | 14 => { p with lampProveMs := v }
  | 15 => { p with fullCounts := p.fullCounts.set (subjectLeaf subject) v }
  | 16 => { p with openAngleCd := p.openAngleCd.set (subjectLeaf subject) v }
  | 17 => { p with ratedCps := p.ratedCps.set (subjectLeaf subject) v }
  | 18 => { p with vCruise := v }
  | 19 => { p with vCreep := v }
  | 20 => { p with accel := v }
  | 21 => { p with decel := v }
  | 22 => { p with slowZone := v }
  | 23 => { p with creepZone := v }
  | 24 => { p with skewTrimCd := v }
  | 25 => { p with skewLimitCd := v }
  | 26 => { p with seatSearch := v }
  | 27 => { p with stallMs := v }
  | 28 => { p with overspeedPm := v }
  | 29 => { p with wrongDirCounts := v }
  | 30 => { p with brakeProveMs := v }
  | 31 => { p with lockTravelMs := v }
  | 32 => { p with anemoK := v }
  | 33 => { p with anemoMinUs := v }
  | 34 => { p with wKneeDms := v }
  | 35 => { p with wStopDms := v }
  | 36 => { p with wHystDms := v }
  | 37 => { p with gustHoldS := v }
  | 38 => { p with angleMarginCd := v }
  | 39 => { p with followMs := v }
  | _ => { p with reverseMs := v }

/-- The pending value of a parameter, none for one that is not staged. -/
def pendingGet (q : Pending) (ident : Nat) : Option Nat :=
  match ident with
  | 1 => q.presenceMs
  | 13 => q.flashFpm
  | 18 => q.vCruise
  | 20 => q.accel
  | 38 => q.angleMarginCd
  | 39 => q.followMs
  | 40 => q.reverseMs
  | _ => none

/-- The pending values with one of them written. -/
def pendingSet (q : Pending) (ident : Nat) (v : Option Nat) : Pending :=
  match ident with
  | 1 => { q with presenceMs := v }
  | 13 => { q with flashFpm := v }
  | 18 => { q with vCruise := v }
  | 20 => { q with accel := v }
  | 38 => { q with angleMarginCd := v }
  | 39 => { q with followMs := v }
  | 40 => { q with reverseMs := v }
  | _ => q

/-- Every pending value becomes active, as at RESTART and RECONFIGURE (R202). -/
def adoptPending (p : Params) (q : Pending) : Params :=
  { p with
    presenceMs := q.presenceMs.getD p.presenceMs
    flashFpm := q.flashFpm.getD p.flashFpm
    vCruise := q.vCruise.getD p.vCruise
    accel := q.accel.getD p.accel
    angleMarginCd := q.angleMarginCd.getD p.angleMarginCd
    followMs := q.followMs.getD p.followMs
    reverseMs := q.reverseMs.getD p.reverseMs }

end Sys2Proof.Machine
end

