-- ==== Sys2Proof/Machine/Ops.lean ====
section
/-! DEFINITION. The named operations every block is written over: check codes (R28, R197), octets of frames, reading and
writing records, explicit postings, the HELD flag, and the passing of a millisecond. -/

namespace Sys2Proof.Machine

/-! ## Iteration and check codes -/

/-- `f` applied `n` times. -/
def iter {α : Type} (f : α → α) : Nat → α → α
  | 0, a => a
  | n + 1, a => iter f n (f a)

/-- One bit of the division by x^8 + x^2 + x + 1 (R28). -/
def crc8Bit (c : BitVec 8) : BitVec 8 := if c.msb then (c <<< 1) ^^^ 0x07#8 else c <<< 1

/-- The check octet of R28 over octets in transmission order, initial value 0. -/
def crc8 (os : List Octet) : BitVec 8 := os.foldl (fun c o => iter crc8Bit 8 (c ^^^ o)) 0#8

/-- One bit of the division by x^16 + x^12 + x^5 + 1 (R197). -/
def crc16Bit (c : BitVec 16) : BitVec 16 := if c.msb then (c <<< 1) ^^^ 0x1021#16 else c <<< 1

/-- The console CRC of R197 over octets in transmission order, initial value 0xFFFF. -/
def crc16 (os : List Octet) : BitVec 16 :=
  os.foldl (fun c o => iter crc16Bit 8 (c ^^^ BitVec.shiftLeft (o.setWidth 16) 8)) 0xFFFF#16

/-! ## Field-link frames (R26, section 12.6) -/

/-- Octet `i` of a field-link frame: octet 0 is the marker, sent first and most significant. -/
def frameOctet (f : BitVec 80) (i : Nat) : Octet := f.extractLsb' (72 - 8 * i) 8

def frameOctets (f : BitVec 80) : List Octet := (List.range 10).map (frameOctet f)

/-- The marker pattern of a frame (R26). -/
def framePattern (f : BitVec 80) : BitVec 4 := f.extractLsb' 76 4

/-- The frame number of a frame (R26). -/
def frameNumber (f : BitVec 80) : BitVec 4 := f.extractLsb' 72 4

/-- The codeword in the upper half of C8 (R27). -/
def frameCodeword (f : BitVec 80) : BitVec 4 := f.extractLsb' 12 4

/-- Whether the check octet is correct (R28). -/
def frameCheckOk (f : BitVec 80) : Bool := crc8 ((frameOctets f).take 9) == frameOctet f 9

/-- The bit a frame carries at a position (R27): channel octet C1 is octet 1 of the frame. -/
def framePositionBit (f : BitVec 80) (p : Position) : Bool :=
  (frameOctet f (positionChannel p)).getLsbD (positionBit p)

/-- The octet whose bit `i` is `bit i`. -/
def packOctet (bit : Nat → Bool) : Octet :=
  (List.range 8).foldl (fun o i => if bit i then o ||| (1#8 <<< i) else o) 0#8

/-! ## Reading and writing records -/

/-- The record of an input function. -/
def inputRec (b : Blocks) (f : InputFn) : InputRec := b.iq.recs.get (inputIndex f)

/-- The qualified value of an input function: made, occupied or present. -/
def made (b : Blocks) (f : InputFn) : Bool := (inputRec b f).qualified

/-- Whether an input's record is FRESH. -/
def isFresh (b : Blocks) (f : InputFn) : Bool := (inputRec b f).freshness == .fresh

def leafState (b : Blocks) (l : LeafId) : LeafState := (b.leaves.get l).mot.state

def setLeaf (l : LeafId) (r : LeafRec) (b : Blocks) : Blocks := { b with leaves := b.leaves.set l r }

def setMot (l : LeafId) (m : MotionRec) (b : Blocks) : Blocks :=
  setLeaf l { b.leaves.get l with mot := m } b

def setPos (l : LeafId) (p : PositionRec) (b : Blocks) : Blocks :=
  setLeaf l { b.leaves.get l with pos := p } b

def setWin (l : LeafId) (w : SpeedRec) (b : Blocks) : Blocks :=
  setLeaf l { b.leaves.get l with win := w } b

def setFlt (l : LeafId) (f : FaultRec) (b : Blocks) : Blocks :=
  setLeaf l { b.leaves.get l with flt := f } b

def setBrake (l : LeafId) (r : BrakeRec) (b : Blocks) : Blocks := { b with brakes := b.brakes.set l r }

def setBarrier (i : BarrierId) (r : BarrierRec) (b : Blocks) : Blocks :=
  { b with barriers := b.barriers.set i r }

def setLock (k : LockId) (r : LockRec) (b : Blocks) : Blocks := { b with locks := b.locks.set k r }

def setLink (i : Link) (r : LinkRec) (b : Blocks) : Blocks := { b with links := b.links.set i r }

def lampRec (b : Blocks) (g : Lamp) : LampRec := b.slu.lamps.get (lampIndex g)

def setLamp (g : Lamp) (r : LampRec) (b : Blocks) : Blocks :=
  { b with slu := { b.slu with lamps := b.slu.lamps.set (lampIndex g).val r (lampIndex g).isLt } }

/-- The input records with each record rewritten by a function of its input function. -/
def mapInputs (g : Fin 41 → InputRec → InputRec) (b : Blocks) : Blocks :=
  { b with iq := { b.iq with recs := Vector.ofFn fun i => g i (b.iq.recs.get i) } }

/-! ## Explicit postings and the HELD flag -/

/-- An explicit posting of the event being executed. -/
def note (n : Note) (b : Blocks) : Blocks := { b with notes := b.notes ++ [n] }

/-- A setting of the HELD flag: it replaces the hold cause, also while the flag is set (R21). -/
def setHeld (c : HoldCause) (b : Blocks) : Blocks :=
  { b with sil := { b.sil with held := true, cause := c } }

/-! ## Where an input comes from (R51, R52) -/

/-- The CAT entry of the input at an index, none for a machinery function. -/
def inputEntryAt (b : Blocks) (i : Fin 41) : Option InputEntry :=
  if h : i.val < 24 then b.cat.inputs.get ⟨i.val, h⟩ else none

/-- The input function at an index. -/
def inputAt (i : Fin 41) : InputFn := allInputs.getD i.val .estop

/-- The debounce count n of a record: from its CAT entry, 1 without one, DIRECT_DEBOUNCE for a machinery function, 2 for
ESTOP (R52, R54). -/
def debounceCount (b : Blocks) (i : Fin 41) : Nat :=
  if i.val < 24 then
    match inputEntryAt b i with
    | some (.position _ n _ _) => n
    | _ => 1
  else if i.val = 40 then 2 else b.par.directDebounce

/-- The invert flag of a record (R52). -/
def invertFlag (b : Blocks) (i : Fin 41) : Bool :=
  match inputEntryAt b i with
  | some (.position _ _ inv _) => inv
  | _ => false

/-- The report-changes flag of a record: set for every record that takes none from CAT (R52). -/
def reportFlag (b : Blocks) (i : Fin 41) : Bool :=
  match inputEntryAt b i with
  | some (.position _ _ _ rep) => rep
  | _ => true

/-- The link position of a record's source, if it is one. -/
def sourcePosition (b : Blocks) (i : Fin 41) : Option Position :=
  match inputEntryAt b i with
  | some (.position p _ _ _) => some p
  | _ => none

/-- Whether the source of the record at an index is a position of a link. -/
def sourceOnLink (b : Blocks) (i : Fin 41) (l : Link) : Bool :=
  (sourcePosition b i).isSome && inputLink (inputAt i) == some l

/-! ## The passing of a millisecond (assumption log 3) -/

/-- A travel timer counts on without a limit until its expiry command comes (DESIGN CHOICE; assumption log 4). -/
def TravelTimer.tick : TravelTimer → TravelTimer
  | .running ms => .running (ms + 1)
  | t => t

def PhaseTimer.tick : PhaseTimer → PhaseTimer
  | .running ms => .running (ms - 1)
  | t => t

def ClearanceTimer.tick : ClearanceTimer → ClearanceTimer
  | .running ms => .running (ms - 1)
  | t => t

/-- A timer with time remaining, which stands at 0 until its expiry is commanded. -/
def countDown (t : Option Nat) : Option Nat := t.map (· - 1)

def LampRec.tick (r : LampRec) : LampRec := { r with remaining := r.remaining - 1 }

def LeafRec.tick (r : LeafRec) : LeafRec :=
  { r with
    win := { r.win with elapsed := if r.win.running then min (r.win.elapsed + 1) 100 else r.win.elapsed }
    flt := { r.flt with stall := countDown r.flt.stall }
    mot := { r.mot with updateTimer := countDown r.mot.updateTimer } }

def BrakeRec.tick (r : BrakeRec) : BrakeRec := { r with timer := countDown r.timer }

def BarrierRec.tick (r : BarrierRec) : BarrierRec := { r with timer := r.timer.tick }

def LockRec.tick (r : LockRec) : LockRec := { r with timer := r.timer.tick }

/-- One millisecond for every timer of the blocks: each running time moves by 1 ms, and no expiry is taken. -/
def passMillisecond (b : Blocks) : Blocks :=
  { b with
    now := b.now + 1
    sil := { b.sil with adoptTimer := countDown b.sil.adoptTimer }
    slu := { b.slu with
      remaining := b.slu.remaining - 1
      lamps := Vector.ofFn fun i => (b.slu.lamps.get i).tick }
    rsq := { b.rsq with timer := b.rsq.timer.tick, clearance := b.rsq.clearance.tick }
    barriers := ⟨b.barriers.northEntry.tick, b.barriers.northExit.tick, b.barriers.southEntry.tick,
      b.barriers.southExit.tick⟩
    leaves := ⟨b.leaves.north.tick, b.leaves.south.tick⟩
    brakes := ⟨b.brakes.north.tick, b.brakes.south.tick⟩
    locks := ⟨b.locks.centre.tick, b.locks.northTail.tick, b.locks.southTail.tick⟩
    nav := { b.nav with gap := b.nav.gap.map fun ms => min (ms + 1) Config.gapMax }
    wmn := { b.wmn with
      period := if b.wmn.measure = .timing then min (b.wmn.period + 1000) Config.calmLimit else b.wmn.period }
    presence := countDown b.presence }

end Sys2Proof.Machine
end

