-- ==== Sys2Proof/Machine/Flags.lean ====
section
/-! DEFINITION. What the blocks compute from their records: readiness, proven positions, angles, permits and their
conditions (R17 to R23), and the machinery and field output values. -/

namespace Sys2Proof.Machine

/-! ## Links and stations -/

/-- A link is aligned in ALIGNED and DEGRADED (R29). -/
def linkAligned (r : LinkRec) : Bool := r.state == .aligned || r.state == .degraded

/-- A station is ready when HEALTHY on an aligned link (R42). -/
def stationReady (b : Blocks) (l : Link) : Bool :=
  (b.links.get l).status == .healthy && linkAligned (b.links.get l)

/-- IQ's all-fresh indication (R61). -/
def allFresh (b : Blocks) : Bool := b.iq.recs.toList.all fun r => r.freshness == .fresh

/-! ## Barriers (R101) and locks (R150) -/

/-- What a pair of switches shows. -/
inductive Proven where
  | first | second | between | conflict
deriving DecidableEq, Repr

def provenOf (one two : Bool) : Proven :=
  match one, two with
  | true, false => .first
  | false, true => .second
  | false, false => .between
  | true, true => .conflict

/-- A barrier's switches: `first` is UP, `second` is DOWN. -/
def barrierShows (b : Blocks) (i : BarrierId) : Proven := provenOf (made b (upSwitch i)) (made b (downSwitch i))

/-- Both switches of a barrier are FRESH. -/
def barrierFresh (b : Blocks) (i : BarrierId) : Bool := isFresh b (upSwitch i) && isFresh b (downSwitch i)

/-- A lock's switches: `first` is DRIVEN, `second` is WITHDRAWN. -/
def lockShows (b : Blocks) (k : LockId) : Proven := provenOf (made b (.lockDriven k)) (made b (.lockWithdrawn k))

/-- The barrier is covered by a BARRIER override (R24). -/
def barrierOverridden (b : Blocks) (i : BarrierId) : Bool := b.sil.overrides.contains (.barrier i)

/-- DOWN, or covered by a BARRIER override (R17, R91, R93). -/
def downOrOverridden (b : Blocks) (i : BarrierId) : Bool :=
  (b.barriers.get i).state == .down || barrierOverridden b i

def barrierTravelling (r : BarrierRec) : Bool := r.state == .lowering || r.state == .raising

def lockTravelling (r : LockRec) : Bool := r.state == .driving || r.state == .withdrawing

def allLocks (b : Blocks) (s : LockState) : Bool := LockId.all.all fun k => (b.locks.get k).state == s

/-! ## Leaves -/

/-- RELEASING, MOVING or STOPPING. -/
def leafInMotion (b : Blocks) (l : LeafId) : Bool :=
  match leafState b l with
  | .releasing | .moving | .stopping => true
  | .seated | .parked | .fault => false

/-- RELEASING or MOVING: the states in which SIL maintains its conditions (R20). -/
def leafDriven (b : Blocks) (l : LeafId) : Bool := leafState b l == .releasing || leafState b l == .moving

def anyLeaf (p : LeafId → Bool) : Bool := p .north || p .south

def bothLeaves (p : LeafId → Bool) : Bool := p .north && p .south

/-- Both leaves are SEATED. -/
def bothSeated (b : Blocks) : Bool := bothLeaves fun l => leafState b l == .seated

/-- Both leaves are PARKED with arrived set. -/
def bothArrived (b : Blocks) : Bool :=
  bothLeaves fun l => leafState b l == .parked && (b.leaves.get l).mot.arrived

/-- The angle of a leaf in cd, from its position (R112). -/
def leafAngle (b : Blocks) (l : LeafId) : Int :=
  let p := (b.leaves.get l).pos.position
  let magnitude : Int := ((p.natAbs * b.par.openAngleCd.get l / b.par.fullCounts.get l : Nat) : Int)
  if p < 0 then -magnitude else magnitude

/-- The difference of the two angles, without sign (R142). -/
def angleDifference (b : Blocks) : Nat := (leafAngle b .north - leafAngle b .south).natAbs

/-! ## Signal complement (R84) -/

/-- Whether an approach holds its signal complement: a fitted red group that is not FAILED. -/
def holdsComplement (b : Blocks) (a : Approach) : Bool :=
  let ok := fun (r : LampRec) => r.fitted && r.state != .failed
  ok (lampRec b (.redA a)) || ok (lampRec b (.redB a))

/-- Whether an approach passes the complement test of R90. -/
def complementPasses (b : Blocks) (a : Approach) : Bool :=
  holdsComplement b a || b.sil.overrides.contains (.complement a)

/-! ## Motion (R5, R8) -/

/-- The motion conditions of R5. -/
def motionInProgress (b : Blocks) : Bool :=
  anyLeaf (leafInMotion b) || (BarrierId.all.any fun i => barrierTravelling (b.barriers.get i)) ||
    (LockId.all.any fun k => lockTravelling (b.locks.get k))

/-- Whether RSQ runs a closure (R8, R9). -/
def closureRunning (p : RoadPhase) : Bool :=
  match p with
  | .amber | .redWarn | .entryLowering | .clearance | .exitLowering => true
  | .roadOpen | .roadClosed | .exitRaising | .entryRaising | .alert => false

/-- "Motion is running" in the sense of R8. -/
def motionRunning (b : Blocks) : Bool :=
  motionInProgress b || closureRunning b.rsq.phase || [.exitRaising, .entryRaising].contains b.rsq.phase

/-! ## Permits (R17, R18) -/

/-- Whether a condition is in its failing case (R17). MOTION_IN_PROGRESS and OVERRIDE_NOT_APPLICABLE are no permit
conditions; their own requests test them. -/
def condFails (b : Blocks) : Cond → Bool
  | .estopLatched => b.sil.latch
  | .stationNotReady => !(stationReady b .n && stationReady b .s)
  | .roadNotClosed => b.rsq.phase != .roadClosed
  | .barrierNotProven => !(BarrierId.all.all fun i => downOrOverridden b i)
  | .locksNotWithdrawn => !(allLocks b .withdrawn)
  | .locksNotDriven => !(allLocks b .driven)
  | .leafNotSeated => !(bothSeated b)
  | .leafFault => anyLeaf fun l => leafState b l == .fault
  | .driveNotReady => anyLeaf fun l => !(made b (.driveReady l))
  | .windStop => b.wmn.alarm == .stop
  | .windSensor => !b.wmn.sound
  | .positionUncertain => anyLeaf fun l => !(b.leaves.get l).pos.certain
  | .vesselUnderway => b.nav.slots.any fun s => s.state == .proceeding
  | .queueEmpty => b.nav.queue.isEmpty
  | .motionInProgress => motionInProgress b
  | .overrideNotApplicable => false

/-- The first failing condition of a permit, in order (R17). -/
def permitFails (b : Blocks) (permit : List Cond) : Option Cond := permit.find? (condFails b)

/-- Conditions that apply in one case only. -/
def condsWhen (applies : Bool) (cs : List Cond) : List Cond := if applies then cs else []

/-- P_CLOSE (R18). -/
def permitClose : List Cond := [.estopLatched, .stationNotReady]

/-- P_ROAD_OPEN (R18). -/
def permitRoadOpen : List Cond := [.estopLatched, .leafNotSeated, .locksNotDriven, .stationNotReady]

/-- P_UNLOCK (R18). -/
def permitUnlock : List Cond := [.estopLatched, .roadNotClosed, .leafNotSeated]

/-- P_LOCK (R18), with ROAD_NOT_CLOSED in RECOVERY only. -/
def permitLock (b : Blocks) : List Cond :=
  List.flatten [[.estopLatched], condsWhen (decide (b.sil.phase = .recovery)) [.roadNotClosed], [.leafNotSeated]]

/-- P_RAISE (R18); two conditions apply to target PASSAGE only. -/
def permitRaise (passage : Bool) : List Cond :=
  List.flatten [[.estopLatched, .leafFault, .driveNotReady], condsWhen passage [.positionUncertain],
    [.locksNotWithdrawn, .barrierNotProven, .windSensor, .windStop], condsWhen passage [.queueEmpty]]

/-- P_LOWER (R18). -/
def permitLower : List Cond := [.estopLatched, .leafFault, .driveNotReady, .vesselUnderway]

/-- P_RECOVERY (R18). -/
def permitRecovery : List Cond :=
  [.estopLatched, .roadNotClosed, .leafFault, .driveNotReady, .locksNotWithdrawn, .barrierNotProven]

/-- Whether a movement's completion holds (R14, R15). -/
def movementComplete (b : Blocks) : Movement → Bool
  | .raise _ => bothArrived b
  | .lower => bothSeated b
  | .recoveryLower => bothSeated b

/-- Whether a leaf movement is to restart at MOTION_RESUME (R23). -/
def movementToRestart (b : Blocks) : Bool :=
  match b.sil.order with
  | none => false
  | some m => !(movementComplete b m)

/-- Whether a lock sequence is to continue at MOTION_RESUME (R23). -/
def sequenceToContinue (b : Blocks) : Bool :=
  b.seq.status == .running || LockId.all.any fun k => (b.locks.get k).state == .interrupted

/-- The road phases that need no station to resume (R23). -/
def roadAtRest : RoadPhase → Bool
  | .roadOpen | .roadClosed | .alert => true
  | .amber | .redWarn | .entryLowering | .clearance | .exitLowering | .exitRaising | .entryRaising => false

/-- P_RESUME (R23). -/
def permitResume (b : Blocks) : List Cond :=
  List.flatten [[.estopLatched],
    condsWhen (movementToRestart b) [.leafFault, .driveNotReady, .locksNotWithdrawn, .barrierNotProven],
    condsWhen (sequenceToContinue b) [.leafNotSeated],
    condsWhen (!(roadAtRest b.rsq.phase)) [.stationNotReady]]

/-! ## Proceed permit (R19) -/

/-- A leaf's effective angle (R162). -/
def effectiveAngle (b : Blocks) (l : LeafId) : Int :=
  if (b.leaves.get l).pos.certain then leafAngle b l
  else if made b (.openLimit l) then (b.par.openAngleCd.get l : Int) else 0

/-- The effective lower angle (R162). -/
def effectiveLower (b : Blocks) : Int := min (effectiveAngle b .north) (effectiveAngle b .south)

/-- The first failing condition of P_PROCEED in the order of R19, for a direction and a required angle (R19, R171). -/
def proceedFails (b : Blocks) (d : Dir) (required : Nat) : Option Blocked :=
  if !(stationReady b .p) then some .pierNotReady
  else if (lampRec b (.green d)).state == .failed then some .greenFailed
  else if b.sil.latch then some .estopLatched
  else if b.sil.consoleLost then some .consoleLost
  else if !(bothLeaves fun l => leafState b l == .parked) then some .leafNotParked
  else if !(bothLeaves fun l => (b.leaves.get l).pos.certain || made b (.openLimit l)) then some .positionUncertain
  else if effectiveLower b < (required : Int) then some .angleLow
  else none

/-- P_PROCEED(d) (R19). -/
def proceedPermitted (b : Blocks) (d : Dir) (required : Nat) : Bool :=
  (proceedFails b d required).isNone && b.nav.proceedShown != some (otherDir d)

/-! ## Wind cap (R137) -/

/-- The wind cap from the present gust and sensor state. In CONFIG, where W_STOP_DMS may stand at or below W_KNEE_DMS, a gust from
W_STOP_DMS to W_KNEE_DMS takes V_CREEP (DESIGN CHOICE: two rows of R137's table hold; assumption log 47). -/
def windCap (b : Blocks) : Nat :=
  let p := b.par
  let g := b.wmn.gust
  if !b.wmn.sound then p.vCreep
  else if p.wStopDms ≤ g then p.vCreep
  else if g ≤ p.wKneeDms then 1000
  else p.vCreep + (1000 - p.vCreep) * (p.wStopDms - g) / (p.wStopDms - p.wKneeDms)

/-! ## Machinery lines -/

/-- The DRIVE_REF duty of a leaf (R140, R3). -/
def driveDuty (b : Blocks) (l : LeafId) : Nat :=
  if b.sil.mode = .operate ∧ b.sil.latch = false then (b.leaves.get l).mot.command * 4095 / 1000 else 0

/-- The DRIVE_DIR line of a leaf (R140). -/
def driveDirection (b : Blocks) (l : LeafId) : DriveDir := (b.leaves.get l).mot.driveDir

/-- The BRAKE_RELEASE line of a leaf (R146). -/
def brakeLine (b : Blocks) (l : LeafId) : Bool :=
  let r := b.brakes.get l
  decide (r.command = .release ∧ (r.state = .releasing ∨ r.state = .released) ∧ b.sil.mode = .operate ∧
    b.sil.latch = false)

/-- The LOCK_DRIVE_CMD line of a lock (R150). -/
def lockDriveLine (b : Blocks) (k : LockId) : Bool :=
  decide ((b.locks.get k).state = .driving ∧ b.sil.mode = .operate ∧ b.sil.latch = false)

/-- The LOCK_WITHDRAW_CMD line of a lock (R150). -/
def lockWithdrawLine (b : Blocks) (k : LockId) : Bool :=
  decide ((b.locks.get k).state = .withdrawing ∧ b.sil.mode = .operate ∧ b.sil.latch = false)

/-! ## Field outputs (R44) -/

/-- The present value of an output function: lamp commands of SLU, bells of RSQ, and the command pair of a barrier, which
is stop/hold in FAULT (R101). -/
def outputValue (b : Blocks) : OutputFn → Bool
  | .amber a => (lampRec b (.amber a)).command
  | .redA a => (lampRec b (.redA a)).command
  | .redB a => (lampRec b (.redB a)).command
  | .bell a => b.rsq.bells.get a
  | .lower i => (b.barriers.get i).command == .lower && (b.barriers.get i).state != .fault
  | .raise i => (b.barriers.get i).command == .raise && (b.barriers.get i).state != .fault
  | .red1 d => (lampRec b (.red1 d)).command
  | .red2 d => (lampRec b (.red2 d)).command
  | .green d => (lampRec b (.green d)).command

end Sys2Proof.Machine
end

