-- ==== Sys2Proof/Machine/Leaf.lean ====
section
/-! DEFINITION. The leaf drive controllers and the brakes they ask for: brake requests and feedback (R146 to R149), fault
findings (R117 to R123), movements and the profile (R126 to R144), encoder counts (R109, R110), speed windows (R115)
and the seat reference (R111). -/

namespace Sys2Proof.Machine

/-! ## Brakes: the set request (R148) -/

/-- A set request taken by a brake according to its state (R148). A record that leaves FAULT for SET by it has its mismatch
cleared, its feedback showing it set (DEDUCED; assumption log 37). -/
def brakeSetRequest (l : LeafId) (b : Blocks) : Blocks :=
  let r := b.brakes.get l
  match r.state with
  | .set => b
  | .setting => b
  | .released =>
    setBrake l { r with command := .set, state := .setting, timer := some b.par.brakeProveMs } b
  | .releasing =>
    if made b (.brakeReleased l) then
      setBrake l { r with command := .set, state := .setting, timer := some b.par.brakeProveMs } b
    else setBrake l { r with command := .set, state := .set, timer := none } b
  | .fault =>
    if made b (.brakeReleased l) then setBrake l { r with command := .set } b
    else setBrake l { r with command := .set, state := .set, fault := .none, timer := none, mismatch := false } b

/-! ## Leaf states -/

/-- A speed window starts (R114). -/
def SpeedRec.start (w : SpeedRec) : SpeedRec := { w with running := true, elapsed := 0, net := 0, gross := 0 }

/-- The window in progress is abandoned at entry to SEATED (R114). -/
def SpeedRec.abandon (w : SpeedRec) : SpeedRec :=
  { w with running := false, elapsed := 0, net := 0, gross := 0, speed := 0, dir := .none }

/-- The time between two profile updates (R135). -/
def updateMs : Nat := 10

/-- A stop request on one leaf (R143): RELEASING and MOVING go to STOPPING. -/
def stopLeaf (l : LeafId) (b : Blocks) : Blocks :=
  let m := (b.leaves.get l).mot
  match m.state with
  | .releasing => setMot l { m with state := .stopping, command := 0, updateTimer := some updateMs } b
  | .moving => setMot l { m with state := .stopping } b
  | .seated | .parked | .stopping | .fault => b

/-- A stop request on both leaves (R143). -/
def stopLeaves (b : Blocks) : Blocks := stopLeaf .south (stopLeaf .north b)

/-- A fault finding on a leaf (R117). -/
def leafFault (l : LeafId) (k : LeafFault) (b : Blocks) : Blocks :=
  if b.sil.mode = .operate then
    let r := b.leaves.get l
    if r.mot.state = .fault then
      if r.flt.kinds.contains k then b
      else setFlt l { r.flt with kinds := r.flt.kinds ++ [k] } b
    else
      let faulted : LeafRec :=
        { r with
          flt := { r.flt with first := some k, kinds := [k], stall := none }
          mot := { r.mot with state := .fault, command := 0, updateTimer := none, brakeSetAsked := true }
          win := if r.mot.state = .seated then r.win.start else r.win }
      stopLeaf (otherLeaf l) (brakeSetRequest l (setLeaf l faulted b))
  else b

/-! ## Brakes: the release request, feedback and expiries -/

/-- A release request taken by a brake according to its state; the flag says that the finding BRAKE_NOT_RELEASED is made
on the leaf (R147). -/
def brakeReleaseRequest (l : LeafId) (b : Blocks) : Blocks × Bool :=
  let r := b.brakes.get l
  match r.state with
  | .set =>
    if made b (.brakeReleased l) then
      (setBrake l { r with state := .fault, fault := .brakeNotReleased, lastFault := .brakeNotReleased } b, true)
    else (setBrake l { r with command := .release, state := .releasing, timer := (some b.par.brakeProveMs) } b, false)
  | .fault => (setBrake l { r with fault := .brakeNotReleased, lastFault := .brakeNotReleased } b, true)
  | .releasing => (b, false)
  | .released => (b, false)
  | .setting => (b, false)

/-- The BRAKE_RELEASED feedback qualifies made (R147, R149). -/
def brakeShowsReleased (l : LeafId) (b : Blocks) : Blocks :=
  let r := b.brakes.get l
  match r.state with
  | .releasing => setBrake l { r with state := .released, timer := none } b
  | .set => setBrake l { r with mismatch := true } b
  | .released | .setting | .fault => b

/-- The BRAKE_RELEASED feedback qualifies not made (R148, R149). A record that leaves FAULT for SET by it has its mismatch
cleared, as a SET record has (DEDUCED; assumption log 37). -/
def brakeShowsSet (l : LeafId) (b : Blocks) : Blocks :=
  let r := b.brakes.get l
  match r.state with
  | .setting => setBrake l { r with state := .set, timer := none } b
  | .set => setBrake l { r with mismatch := false } b
  | .fault =>
    if r.command = .set then
      setBrake l { r with state := .set, fault := .none, timer := none, mismatch := false } b
    else b
  | .released =>
    let dropped :=
      setBrake l { r with command := .set, state := .fault, fault := .brakeDropped, lastFault := .brakeDropped } b
    if leafInMotion b l then leafFault l .brakeDropped dropped else dropped
  | .releasing => b

/-- The prove timer expires in RELEASING (R147). -/
def brakeNotReleased (l : LeafId) (b : Blocks) : Blocks :=
  let r := b.brakes.get l
  if r.state = .releasing ∧ r.timer.isSome then
    leafFault l .brakeNotReleased
      (setBrake l
        { r with state := .fault, timer := none, fault := .brakeNotReleased, lastFault := .brakeNotReleased } b)
  else b

/-- The prove timer expires in SETTING (R148). -/
def brakeNotSet (l : LeafId) (b : Blocks) : Blocks :=
  let r := b.brakes.get l
  if r.state = .setting ∧ r.timer.isSome then
    leafFault l .brakeNotSet
      (setBrake l { r with state := .fault, timer := none, fault := .brakeNotSet, lastFault := .brakeNotSet } b)
  else b

/-! ## Starting a movement (R128) -/

def movementKind : Movement → MoveKind
  | .raise _ => .raise
  | .lower => .lower
  | .recoveryLower => .recoveryLower

/-- The target counts of a leaf for a movement (R128). -/
def targetCounts (b : Blocks) (l : LeafId) : Movement → Nat
  | .raise .full => b.par.fullCounts.get l
  | .raise (.angle cd) => divUp (cd * b.par.fullCounts.get l) (b.par.openAngleCd.get l)
  | .lower => 0
  | .recoveryLower => 0

/-- The arrival rule of a leaf for a movement (R128). -/
def arrivalRule (certain : Bool) : Movement → ArrivalRule
  | .raise _ => if certain then .byTarget else .openLimitOnly
  | .lower => if certain then .seatSearch else .seatOnly
  | .recoveryLower => .seatOnly

/-- Whether the arrival condition of a movement already holds for a leaf, so that it takes no part (R128). -/
def alreadyArrived (b : Blocks) (l : LeafId) (m : Movement) : Bool :=
  match m with
  | .raise _ =>
    ((b.leaves.get l).pos.certain && ((targetCounts b l m : Int) ≤ (b.leaves.get l).pos.position)) ||
      made b (.openLimit l)
  | .lower => leafState b l == .seated
  | .recoveryLower => leafState b l == .seated

/-- Whether a leaf takes part in a movement (R128); a leaf in FAULT is in no state from which it could. -/
def takesPart (b : Blocks) (l : LeafId) (m : Movement) : Bool :=
  !(alreadyArrived b l m) && leafState b l != .fault

/-- The leaf's records at the start of a movement (R128, steps 1 to 4, R114, R120, R189). A movement in which neither leaf takes
part is described too: it replaces the kind, target, target counts, rule and taking part of the movement before (DESIGN CHOICE:
R126 keeps them until the next movement starts, and by R130 that one is no movement start; assumption log 44). -/
def LeafRec.atStart (r : LeafRec) (m : Movement) (counts : Nat) (taking : Bool) : LeafRec :=
  let described : MotionRec :=
    { r.mot with
      kind := movementKind m
      target := match m with
        | .raise t => some t
        | .lower => none
        | .recoveryLower => none
      targetCounts := some (counts : Int)
      rule := arrivalRule r.pos.certain m
      takingPart := taking
      next := none }
  if taking then
    { r with
      mot := { described with
        state := .releasing
        arrived := false
        arrivalReached := false
        brakeSetAsked := false
        driveDir := if movementKind m = .raise then .raise else .lower
        lastStop := .none }
      flt := { r.flt with wrongDir := 0 }
      win := if r.mot.state = .seated then r.win.start else r.win }
  else
    { r with
      mot := { described with
        arrived := if movementKind m = .raise ∧ r.mot.state = .parked then true else described.arrived } }

/-- The pending V_CRUISE and ACCEL take effect at a movement start (R130). -/
def applyPendingSpeeds (b : Blocks) : Blocks :=
  { b with
    par := { b.par with
      vCruise := b.pend.vCruise.getD b.par.vCruise
      accel := b.pend.accel.getD b.par.accel }
    pend := { b.pend with vCruise := none, accel := none } }

/-- The release request of a leaf that takes part, if it does. -/
def releaseIf (taking : Bool) (l : LeafId) (b : Blocks) : Blocks × Bool :=
  if taking then brakeReleaseRequest l b else (b, false)

/-- Both LDCs start a movement in one event (R128); one in which neither leaf takes part is described all the same (assumption
log 44). -/
def startMovement (m : Movement) (b : Blocks) : Blocks :=
  let north := takesPart b .north m
  let south := takesPart b .south m
  let leaves : PerLeaf LeafRec :=
    ⟨b.leaves.north.atStart m (targetCounts b .north m) north, b.leaves.south.atStart m (targetCounts b .south m) south⟩
  let begun : Blocks := { (if north || south then applyPendingSpeeds b else b) with leaves := leaves }
  let (afterNorth, northFails) := releaseIf north .north begun
  let (afterSouth, southFails) := releaseIf south .south afterNorth
  let judged := if northFails then leafFault .north .brakeNotReleased afterSouth else afterSouth
  if southFails then leafFault .south .brakeNotReleased judged else judged

/-- A leaf in motion or a brake SETTING holds a directed movement as the next movement (R128, R144). -/
def movementMustWait (b : Blocks) : Bool :=
  anyLeaf (leafInMotion b) || anyLeaf fun l => (b.brakes.get l).state == .setting

/-- Both LDCs record a next movement (R144). -/
def setNext (m : Option Movement) (b : Blocks) : Blocks :=
  { b with leaves :=
      ⟨{ b.leaves.north with mot := { b.leaves.north.mot with next := m } },
       { b.leaves.south with mot := { b.leaves.south.mot with next := m } }⟩ }

/-- SIL directs a movement to both LDCs (R128). -/
def directMovement (m : Movement) (b : Blocks) : Blocks :=
  if movementMustWait b then setNext (some m) b else startMovement m b

/-! ## Arrival and coming to rest (R131 to R134) -/

/-- Arrival of a raising leaf that is MOVING or STOPPING (R131). -/
def raiseArrive (l : LeafId) (b : Blocks) : Blocks :=
  let m := (b.leaves.get l).mot
  setMot l { m with state := .stopping, command := 0, arrivalReached := true } b

/-- Arrival of a lowering leaf at its seat (R132). A leaf that arrives in RELEASING still shows taking part
(DESIGN CHOICE, assumption log 45). -/
def seatArrive (l : LeafId) (b : Blocks) : Blocks :=
  let m := (b.leaves.get l).mot
  brakeSetRequest l
    (setMot l { m with
      state := .stopping
      command := 0
      arrivalReached := true
      brakeSetAsked := true
      updateTimer := if m.state = .releasing then some updateMs else m.updateTimer } b)

/-- Whether a raising leaf stands at its arrival (R131): by its count under BY_TARGET, or at its open limit. -/
def raiseArrival (b : Blocks) (l : LeafId) : Bool :=
  let r := b.leaves.get l
  match r.mot.rule with
  | .byTarget => (decide (r.mot.targetCounts.getD 0 ≤ r.pos.position)) || made b (.openLimit l)
  | .openLimitOnly => made b (.openLimit l)
  | .none | .seatSearch | .seatOnly => false

/-- A raise arrives while the leaf is MOVING or STOPPING (R131). -/
def judgeRaiseArrival (l : LeafId) (b : Blocks) : Blocks :=
  let m := (b.leaves.get l).mot
  if m.kind = .raise ∧ (m.state = .moving ∨ m.state = .stopping) ∧ m.arrivalReached = false ∧
      raiseArrival b l = true then
    raiseArrive l b
  else b

/-- A STOPPING leaf whose brake record is SET comes to rest (R134, step 3). -/
def leafRest (l : LeafId) (b : Blocks) : Blocks :=
  let r := b.leaves.get l
  if r.mot.state = .stopping ∧ (b.brakes.get l).state = .set then
    let rested : MotionRec := { r.mot with updateTimer := none, command := 0 }
    if made b (.seated l) then
      setLeaf l { r with mot := { rested with state := .seated }, win := r.win.abandon,
                         flt := { r.flt with stall := none } } b
    else
      setLeaf l { r with mot := { rested with state := .parked, arrived := r.mot.arrivalReached },
                         flt := { r.flt with stall := none } } b
  else b

/-! ## The profile (R135 to R141) -/

/-- Stage 1: the distance to the target in counts (R136). -/
def distance (r : LeafRec) : Int :=
  if r.mot.kind = .raise then r.mot.targetCounts.getD 0 - r.pos.position else r.pos.position

/-- The zone limit by distance alone (R136). -/
def zoneByDistance (p : Params) (d : Int) : Nat :=
  if d ≤ (p.creepZone : Int) then p.vCreep
  else if d < ((p.creepZone + p.slowZone : Nat) : Int) then
    p.vCreep + (p.vCruise - p.vCreep) * (d.toNat - p.creepZone) / p.slowZone
  else p.vCruise

/-- The cases that hold a leaf to V_CREEP whatever its distance (R136). -/
def creepsAlways (r : LeafRec) : Bool :=
  !r.pos.certain || r.mot.kind == .recoveryLower || r.mot.rule == .openLimitOnly || r.mot.rule == .seatOnly

/-- Stage 2: the zone limit (R136). -/
def zoneLimit (p : Params) (r : LeafRec) : Nat :=
  let z := zoneByDistance p (distance r)
  if creepsAlways r then min z p.vCreep else z

/-- Whether the skew trim applies at an update (R138). -/
def trimApplies (b : Blocks) : Bool :=
  bothLeaves (fun l => leafState b l == .moving) && bothLeaves (fun l => (b.leaves.get l).pos.certain) &&
    bothLeaves fun l => (b.leaves.get l).mot.kind == .raise || (b.leaves.get l).mot.kind == .lower

/-- The lead of a leaf in cd (R138). -/
def lead (b : Blocks) (l : LeafId) : Int :=
  if (b.leaves.get l).mot.kind = .raise then leafAngle b l - leafAngle b (otherLeaf l)
  else leafAngle b (otherLeaf l) - leafAngle b l

/-- The lead as the last update shows it: the manual defines none for a RECOVERY_LOWER (assumption log 13). -/
def shownLead (b : Blocks) (l : LeafId) : BitVec 24 :=
  if (b.leaves.get l).mot.kind = .recoveryLower then
    Config.recoveryLead (leafAngle b l) (leafAngle b (otherLeaf l))
  else BitVec.ofInt 24 (lead b l)

/-- Stage 4: the skew trim below SKEW_LIMIT_CD (R138). -/
def trimmed (p : Params) (v : Nat) (lead : Int) : Nat :=
  if (p.skewTrimCd : Int) < lead then
    v * ((p.skewLimitCd : Int) - lead).toNat / (p.skewLimitCd - p.skewTrimCd)
  else v

/-- The stall timer after an update that sets the command (R119). -/
def stallAfterUpdate (p : Params) (command : Nat) (t : Option Nat) : Option Nat :=
  if p.vCreep ≤ command then some (t.getD p.stallMs) else none

/-- The ceiling of a leaf in MOVING or STOPPING (R141). -/
def ceiling (b : Blocks) (l : LeafId) : Nat :=
  let r := b.leaves.get l
  let p := b.par
  let wind := min p.vCruise (windCap b)
  if !r.pos.certain || r.mot.kind == .recoveryLower || decide (distance r ≤ (p.creepZone : Int)) then min wind p.vCreep
  else wind

/-- The command of a MOVING or STOPPING leaf is held at its ceiling (R141). -/
def applyCeiling (l : LeafId) (b : Blocks) : Blocks :=
  let m := (b.leaves.get l).mot
  if m.state = .moving ∨ m.state = .stopping then setMot l { m with command := min m.command (ceiling b l) } b else b

/-- The skew test of R142 fails: at least one leaf MOVING, both CERTAIN, kind RAISE or LOWER. -/
def skewStands (b : Blocks) : Bool :=
  let kind := fun l => (b.leaves.get l).mot.kind
  let pairMoves := fun l => leafState b l == .moving && (kind l == .raise || kind l == .lower)
  anyLeaf pairMoves && bothLeaves (fun l => (b.leaves.get l).pos.certain) &&
    decide (b.par.skewLimitCd ≤ angleDifference b)

/-- The finding SKEW, where the test failed, on each leaf that was RELEASING, MOVING or STOPPING in `judged`, the blocks on
which the test was made (R142). -/
def skewFinding (judged : Blocks) (failed : Bool) (b : Blocks) : Blocks :=
  let b1 := if failed && leafInMotion judged .north then leafFault .north .skew b else b
  if failed && leafInMotion judged .south then leafFault .south .skew b1 else b1

/-- Skew supervision (R142). -/
def superviseSkew (b : Blocks) : Blocks := skewFinding b (skewStands b) b

/-- One update of a MOVING leaf (R135 to R140). The last update shows the zone limit, the wind cap and the lead also where the
update ends before their stages or the trim does not apply, and the trim as not applied at an arrival (DESIGN CHOICE: R126 and
R136 do not say; assumption log 36). -/
def movingUpdate (l : LeafId) (b : Blocks) : Blocks :=
  let r := b.leaves.get l
  let p := b.par
  let d := distance r
  let zone := zoneLimit p r
  let cap := windCap b
  let trims := trimApplies b
  let record : UpdateRec := { distance := d, zone := zone, cap := cap, lead := shownLead b l, trimmed := trims }
  if r.mot.kind = .raise ∧ r.mot.rule = .byTarget ∧ d ≤ 0 then
    raiseArrive l (setLeaf l { r with
      mot := { r.mot with updateTimer := some updateMs, lastUpdate := some { record with trimmed := false } }
      flt := { r.flt with stall := none } } b)
  else if trims ∧ (p.skewLimitCd : Int) ≤ lead b l then
    let updated := setMot l { r.mot with updateTimer := some updateMs, lastUpdate := some record } b
    skewFinding updated true updated
  else
    let limit := min zone cap
    let afterTrim := if trims then trimmed p limit (lead b l) else limit
    let command := min afterTrim (r.mot.command + p.accel)
    setLeaf l { r with
      mot := { r.mot with command := command, updateTimer := some updateMs, lastUpdate := some record }
      flt := { r.flt with stall := stallAfterUpdate p command r.flt.stall } } b

/-- One update of a STOPPING leaf (R134, step 1). The last update shown stays that of the last MOVING update (DESIGN CHOICE:
R126 and R135 do not say; assumption log 36). -/
def stoppingUpdate (l : LeafId) (b : Blocks) : Blocks :=
  let r := b.leaves.get l
  let command := min (r.mot.command - b.par.decel) (ceiling b l)
  setLeaf l { r with
    mot := { r.mot with command := command, updateTimer := some updateMs }
    flt := { r.flt with stall := stallAfterUpdate b.par command r.flt.stall } } b

/-- One expiry of a leaf's update timer (R135). -/
def leafUpdate (l : LeafId) (b : Blocks) : Blocks :=
  match leafState b l with
  | .moving => movingUpdate l b
  | .stopping => stoppingUpdate l b
  | .seated | .parked | .releasing | .fault => b

/-- Whether the movement waits for no leaf's brake: the leaf takes no part, or has its brake RELEASED (R129), or has arrived at
its seat in RELEASING, where the other goes on until its own (R132, R133). That the movement is ready at the event of that
arrival, and so in a LOWER too, is a DESIGN CHOICE (assumption log 45). -/
def leafReady (b : Blocks) (l : LeafId) : Bool :=
  let m := (b.leaves.get l).mot
  !m.takingPart || m.arrivalReached || (b.brakes.get l).state == .released

/-- The movement is ready (R129). -/
def movementReady (b : Blocks) : Bool := bothLeaves (leafReady b)

/-- A leaf in RELEASING enters MOVING with its update timer started (R129). -/
def enterMoving (l : LeafId) (b : Blocks) : Blocks :=
  let m := (b.leaves.get l).mot
  if m.state = .releasing then setMot l { m with state := .moving, command := 0, updateTimer := some updateMs } b else b

/-- The first update of a leaf that has just entered MOVING (R129). -/
def firstUpdate (was : LeafState) (l : LeafId) (b : Blocks) : Blocks :=
  if was = .releasing then leafUpdate l b else b

/-- The profile starts when the movement is ready, unless the start fails for skew (R129). -/
def profileStart (b : Blocks) : Blocks :=
  if anyLeaf (fun l => leafState b l == .releasing) && movementReady b then
    let kindTested := anyLeaf fun l =>
      leafState b l == .releasing && ((b.leaves.get l).mot.kind == .raise || (b.leaves.get l).mot.kind == .lower)
    if kindTested && bothLeaves (fun l => (b.leaves.get l).pos.certain) &&
        decide (b.par.skewLimitCd ≤ angleDifference b) then
      let b1 := if leafState b .north = .releasing then leafFault .north .skew b else b
      if leafState b .south = .releasing then leafFault .south .skew b1 else b1
    else
      firstUpdate (leafState b .south) .south
        (firstUpdate (leafState b .north) .north (enterMoving .south (enterMoving .north b)))
  else b

/-! ## Position (R108 to R112) -/

/-- A loss of certainty: the arrival rule of a running movement follows (R110, R131, R132). -/
def loseCertainty (l : LeafId) (b : Blocks) : Blocks :=
  let r := b.leaves.get l
  let rule : ArrivalRule :=
    if leafInMotion b l then
      match r.mot.kind with
      | .raise => .openLimitOnly
      | .lower => .seatOnly
      | .recoveryLower => r.mot.rule
      | .none => r.mot.rule
    else r.mot.rule
  setLeaf l { r with pos := { r.pos with certain := false }, mot := { r.mot with rule := rule } } b

/-- The phase pair after a legal step in the given direction (R109). -/
def nextPair (a p : Bool) (forward : Bool) : Bool × Bool :=
  match forward, a, p with
  | true, false, false => (true, false)
  | true, true, false => (true, true)
  | true, true, true => (false, true)
  | true, false, true => (false, false)
  | false, false, false => (false, true)
  | false, false, true => (true, true)
  | false, true, true => (true, false)
  | false, true, false => (false, false)

/-- The speed window with one count added (R114). -/
def SpeedRec.addCount (w : SpeedRec) (step : Int) : SpeedRec :=
  if w.running then { w with net := w.net + step, gross := w.gross + 1 } else w

/-- Whether a count opposes the leaf's movement (R120). -/
def countOpposes (k : MoveKind) (forward : Bool) : Bool :=
  match k with
  | .raise => !forward
  | .lower => forward
  | .recoveryLower => forward
  | .none => false

/-- The position after a count, held at its bounds (R109). -/
def clampPosition (p : Int) : Int := max (-Config.positionBound) (min Config.positionBound p)

/-- The count goes to the phase pair, the speed window, the stall timer and the wrong-direction count (R109, R119, R120). -/
def recordCount (l : LeafId) (forward : Bool) (b : Blocks) : Blocks :=
  let r := b.leaves.get l
  let pair := nextPair r.pos.phaseA r.pos.phaseB forward
  setLeaf l { r with
    pos := { r.pos with phaseA := pair.1, phaseB := pair.2 }
    win := r.win.addCount (if forward then 1 else -1)
    flt := { r.flt with
      stall := r.flt.stall.map fun _ => b.par.stallMs
      wrongDir := if leafInMotion b l && countOpposes r.mot.kind forward then r.flt.wrongDir + 1
        else r.flt.wrongDir } } b

/-- The count is added to the position unless SEATED is qualified made; beyond a bound the leaf becomes UNCERTAIN
(R109). -/
def applyCount (l : LeafId) (forward : Bool) (b : Blocks) : Blocks :=
  if made b (.seated l) then b
  else
    let r := b.leaves.get l
    let p := r.pos.position + (if forward then 1 else -1)
    let moved := setPos l { r.pos with position := clampPosition p } b
    if clampPosition p = p then moved else loseCertainty l moved

/-- SEAT_NOT_FOUND stands at a count (R123). -/
def seatMissed (l : LeafId) (b : Blocks) : Bool :=
  let r := b.leaves.get l
  decide (r.mot.kind = .lower ∧ r.mot.rule = .seatSearch ∧ r.pos.certain = true ∧
    (r.mot.state = .moving ∨ r.mot.state = .stopping) ∧ made b (.seated l) = false ∧
    r.pos.position ≤ -(b.par.seatSearch : Int))

/-- WRONG_DIRECTION stands at a count (R120). -/
def wrongDirection (l : LeafId) (b : Blocks) : Bool :=
  leafInMotion b l && decide (b.par.wrongDirCounts < (b.leaves.get l).flt.wrongDir)

/-- A finding made where its test failed. -/
def findingIf (failed : Bool) (l : LeafId) (k : LeafFault) (b : Blocks) : Blocks :=
  if failed then leafFault l k b else b

/-- One legal encoder step (R109). The findings of one count are all judged on the counted position, before any of them
acts (R117, R120, R123, R142). WRONG_DIRECTION is taken first, then SKEW, then SEAT_NOT_FOUND, so the first of them that is
made is the first fault kind (DESIGN CHOICE: R117 lets either come first; assumption log 7). A finding comes before the arrival
that the same count makes (R131, `judgeRaiseArrival`), so a raising leaf that comes to its target and to SKEW_LIMIT_CD at one
count is in FAULT with SKEW and does not arrive, also where the other leaf is not MOVING (DESIGN CHOICE: R131 and R142 do not
order them; assumption log 7). -/
def leafCount (l : LeafId) (forward : Bool) (b : Blocks) : Blocks :=
  let counted := applyCount l forward (recordCount l forward b)
  findingIf (seatMissed l counted) l .seatNotFound
    (skewFinding counted (skewStands counted) (findingIf (wrongDirection l counted) l .wrongDirection counted))

/-- One illegal transition (R110). -/
def leafIllegal (l : LeafId) (b : Blocks) : Blocks :=
  let r := b.leaves.get l
  let counted := note (.leaf l) (setPos l { r.pos with
    phaseA := !r.pos.phaseA
    phaseB := !r.pos.phaseB
    errorCount := min (r.pos.errorCount + 1) 255 } b)
  if made b (.seated l) || !r.pos.certain then counted else loseCertainty l counted

/-- The seat reference: SEATED qualifies made (R111), with the arrival of a lowering (R132), the return of a raise to
BY_TARGET (R131), or the seating of a leaf at rest (R127). -/
def seatReference (l : LeafId) (b : Blocks) : Blocks :=
  let r := b.leaves.get l
  let known : PositionRec :=
    { r.pos with seatCorrection := some r.pos.position, position := 0, certain := true, angleKnown := true }
  let referenced := setPos l known b
  let posted := if r.pos.position = 0 then referenced else note (.leaf l) referenced
  if b.sil.mode = .operate then
    match r.mot.state with
    | .parked =>
      setLeaf l { r with pos := known, mot := { r.mot with state := .seated, arrived := false }, win := r.win.abandon }
        posted
    | .releasing | .moving | .stopping =>
      match r.mot.kind with
      | .raise => setMot l { r.mot with rule := .byTarget } posted
      | .lower => seatArrive l posted
      | .recoveryLower => seatArrive l posted
      | .none => posted
    | .seated | .fault => posted
  else posted

/-- SEATED qualifies not made on a leaf at rest on its seat (R127). -/
def seatLost (l : LeafId) (b : Blocks) : Blocks :=
  let r := b.leaves.get l
  if b.sil.mode = .operate ∧ r.mot.state = .seated then
    setLeaf l { r with mot := { r.mot with state := .parked, arrived := false }, win := r.win.start } b
  else b

/-- OPEN_LIMIT qualifies made: the open-limit position (R113). -/
def openLimitMade (l : LeafId) (b : Blocks) : Blocks :=
  let r := b.leaves.get l
  note (.leaf l) (setPos l { r.pos with openLimitPos := some r.pos.position } b)

/-! ## Speed windows (R115) -/

/-- The measured speed of a net count in ‰ of rated speed (R115). -/
def measuredSpeed (net : Int) (ratedCps : Nat) : Nat := min (net.natAbs * 10 * 1000 / ratedCps) 2000

/-- The window record at the end of a window (R115). -/
def SpeedRec.close (w : SpeedRec) (ratedCps : Nat) : SpeedRec :=
  { w with
    elapsed := 0
    net := 0
    gross := 0
    speed := measuredSpeed w.net ratedCps
    dir := if 0 < w.net then .raise else if w.net < 0 then .lower else .none
    stationary := some (w.gross == 0) }

/-- The brake is asked to set at the end of a stationary window at command 0 (R134, step 2). -/
def askBrakeSet (l : LeafId) (b : Blocks) : Blocks :=
  let r := b.leaves.get l
  if r.mot.state = .stopping ∧ r.mot.command = 0 ∧ r.win.stationary = some true then
    brakeSetRequest l (setMot l { r.mot with brakeSetAsked := true } b)
  else b

/-- The end of a speed window (R115, R118, R134). -/
def windowEnd (l : LeafId) (b : Blocks) : Blocks :=
  let r := b.leaves.get l
  if r.win.running then
    let closed := setWin l (r.win.close (b.par.ratedCps.get l)) b
    if b.par.overspeedPm < measuredSpeed r.win.net (b.par.ratedCps.get l) then leafFault l .overspeed closed
    else askBrakeSet l closed
  else b

/-- The stall timer expires (R119). -/
def stallExpiry (l : LeafId) (b : Blocks) : Blocks :=
  let r := b.leaves.get l
  if r.flt.stall.isSome then leafFault l .stall (setFlt l { r.flt with stall := none } b) else b

/-! ## E-stop (R189) -/

/-- The immediate stop of one leaf by the E-stop (R189). -/
def estopLeaf (l : LeafId) (b : Blocks) : Blocks :=
  let r := b.leaves.get l
  if leafInMotion b l then
    let stopped : MotionRec :=
      { r.mot with command := 0, updateTimer := none, next := none, arrived := r.mot.arrivalReached,
                   lastStop := .stoppedByEstop }
    if made b (.seated l) then
      setLeaf l { r with mot := { stopped with state := .seated }, flt := { r.flt with stall := none },
                         win := r.win.abandon } b
    else
      setLeaf l { r with mot := { stopped with state := .parked }, flt := { r.flt with stall := none } } b
  else b

end Sys2Proof.Machine
end

