-- ==== Sys2Proof/Machine/Lock.lean ====
section
/-! DEFINITION. The lock and brake controller's locks: commands and interrupts (R151), switches and travel (R152),
sequences (R153, R154), resumption (R156) and clearing (R158). -/

namespace Sys2Proof.Machine

/-! ## One lock -/

/-- The position a command aims at (R151); OFF aims at none. -/
def lockTarget : LockCmd → Option Proven
  | .drive => some .first
  | .withdraw => some .second
  | .off => none

/-- The state that a proven position gives a lock. -/
def lockStateAt : Proven → Option LockState
  | .first => some .driven
  | .second => some .withdrawn
  | .between => none
  | .conflict => none

/-- The state that stands at the target of a command (R151). -/
def lockDone : LockCmd → LockState
  | .drive => .driven
  | .withdraw => .withdrawn
  | .off => .interrupted

/-- The travel state of a command. -/
def lockTravel : LockCmd → LockState
  | .drive => .driving
  | .withdraw => .withdrawing
  | .off => .interrupted

/-- A lock's record when its travel starts or restarts. -/
def LockRec.travel (r : LockRec) (c : LockCmd) : LockRec :=
  { r with command := c, state := lockTravel c, timer := .running 0 }

/-- A lock takes DRIVE or WITHDRAW according to its state (R151). -/
def lockCommand (k : LockId) (c : LockCmd) (b : Blocks) : Blocks :=
  let r := b.locks.get k
  match r.state with
  | .driven => setLock k (if lockDone c = .driven then { r with command := c } else r.travel c) b
  | .withdrawn => setLock k (if lockDone c = .withdrawn then { r with command := c } else r.travel c) b
  | .driving => setLock k (if lockTravel c = .driving then r else r.travel c) b
  | .withdrawing => setLock k (if lockTravel c = .withdrawing then r else r.travel c) b
  | .interrupted =>
    if lockTarget c = some (lockShows b k) then setLock k { r with command := c, state := lockDone c, timer := .idle } b
    else setLock k (r.travel c) b
  | .fault => setLock k { r with command := c } b

/-- A travel timer halted at its elapsed time. -/
def TravelTimer.halt : TravelTimer → TravelTimer
  | .running ms => .halted ms
  | .halted ms => .halted ms
  | .idle => .idle

/-- A lock takes an interrupt (R151). -/
def lockInterrupt (k : LockId) (b : Blocks) : Blocks :=
  let r := b.locks.get k
  if lockTravelling r then setLock k { r with state := .interrupted, timer := r.timer.halt } b else b

/-- Every travelling lock is given an interrupt (R156). -/
def interruptLocks (b : Blocks) : Blocks :=
  lockInterrupt .southTail (lockInterrupt .northTail (lockInterrupt .centre b))

/-- A lock enters FAULT by a finding (R152). -/
def lockFault (k : LockId) (f : TravelFault) (b : Blocks) : Blocks :=
  setLock k { b.locks.get k with state := .fault, fault := f, timer := .idle } b

/-- A lock reaches a proven position (R152). -/
def lockArrive (k : LockId) (s : LockState) (b : Blocks) : Blocks :=
  setLock k { b.locks.get k with state := s, timer := .idle } b

/-- The switches of a lock are judged at a change of theirs (R152). -/
def judgeLock (k : LockId) (b : Blocks) : Blocks :=
  let r := b.locks.get k
  let shows := lockShows b k
  match r.state with
  | .fault => b
  | .driven =>
    if shows = .conflict then lockFault k .switchConflict b
    else if shows = .first then b else lockFault k .lostPosition b
  | .withdrawn =>
    if shows = .conflict then lockFault k .switchConflict b
    else if shows = .second then b else lockFault k .lostPosition b
  | .driving =>
    if shows = .conflict then lockFault k .switchConflict b
    else if shows = .first then lockArrive k .driven b else b
  | .withdrawing =>
    if shows = .conflict then lockFault k .switchConflict b
    else if shows = .second then lockArrive k .withdrawn b else b
  | .interrupted =>
    if shows = .conflict then lockFault k .switchConflict b
    else if lockTarget r.command = some shows then lockArrive k (lockDone r.command) b else b

/-- The travel timer of a lock expires: with its target proven the lock completes its travel, otherwise it goes to FAULT
(R152; assumption log 40). -/
def lockTimeout (k : LockId) (b : Blocks) : Blocks :=
  match (b.locks.get k).state with
  | .driving => if lockShows b k = .first then lockArrive k .driven b else lockFault k .travelTimeout b
  | .withdrawing => if lockShows b k = .second then lockArrive k .withdrawn b else lockFault k .travelTimeout b
  | .driven | .withdrawn | .interrupted | .fault => b

/-! ## Sequences (R153) -/

/-- The command a sequence gives. -/
def sequenceCommand : LockSequence → LockCmd
  | .withdraw => .withdraw
  | .drive => .drive
  | .none => .off

/-- The locks a step names. -/
def stepLocks : SeqStep → List LockId
  | .none => []
  | .centre => [.centre]
  | .tails => [.northTail, .southTail]

/-- The second step of a sequence. -/
def secondStep : LockSequence → SeqStep
  | .withdraw => .tails
  | .drive => .centre
  | .none => .none

/-- A step is done when every lock it names stands in its target state. -/
def stepDone (b : Blocks) (q : SeqRec) : Bool :=
  (stepLocks q.step).all fun k => (b.locks.get k).state == lockDone (sequenceCommand q.sequence)

/-- The command of the sequence to a lock of the present step that is not at its target and not in FAULT (R153, step 3). A
reversal gives a FAULT tail its DRIVE beside this (`driveFaultedTail`, R154; assumption log 20). -/
def commandUnlessFault (c : LockCmd) (b : Blocks) (k : LockId) : Blocks :=
  let s := (b.locks.get k).state
  if s = .fault ∨ s = lockDone c then b else lockCommand k c b

/-- Step 3 of an advance: the locks of the present step are commanded. -/
def commandStep (b : Blocks) : Blocks :=
  (stepLocks b.seq.step).foldl (commandUnlessFault (sequenceCommand b.seq.sequence)) b

/-- An advance of the second step: COMPLETE when it is done. -/
def advanceSecond (b : Blocks) : Blocks :=
  if stepDone b b.seq then { b with seq := { b.seq with status := .complete } } else commandStep b

/-- Whether an advance takes effect (R153). -/
def advanceAllowed (b : Blocks) : Bool :=
  b.seq.status == .running && !b.sil.held && !b.sil.latch && bothSeated b

/-- An advance of the sequence (R153). -/
def advanceSequence (b : Blocks) : Blocks :=
  if advanceAllowed b then
    if b.seq.step = secondStep b.seq.sequence then advanceSecond b
    else if stepDone b b.seq then
      advanceSecond { b with seq := { b.seq with step := secondStep b.seq.sequence } }
    else commandStep b
  else b

/-- The step at which a sequence starts (R154). -/
def startStep (b : Blocks) : LockSequence → SeqStep
  | .withdraw => if (b.locks.get .centre).state = .withdrawn then .tails else .centre
  | .drive =>
    if (b.locks.get .northTail).state = .driven ∧ (b.locks.get .southTail).state = .driven then .centre else .tails
  | .none => .none

/-- The start of a sequence, before its advance; a change of the sequence record is noted for its report (R154, R159). -/
def startSequence (q : LockSequence) (b : Blocks) : Blocks :=
  let started : SeqRec := { sequence := q, step := startStep b q, status := .running }
  if b.seq = started then b else note (.lock .centre) { b with seq := started }

/-- A lock of the new first step has DRIVE recorded when it is INTERRUPTED and the HELD flag is set (R154). -/
def recordDrive (b : Blocks) (k : LockId) : Blocks :=
  let r := b.locks.get k
  if r.state = .interrupted then setLock k { r with command := .drive } b else b

/-- A tail in FAULT at a reversal of withdraw step TAILS is given DRIVE with the other tails, which its record takes by R151
(R154). The advance leaves a lock in FAULT out (R153), so it does not give this command (DEDUCED; assumption log 20). -/
def driveFaultedTail (b : Blocks) (k : LockId) : Blocks :=
  if (b.locks.get k).state = .fault then lockCommand k .drive b else b

/-- A reversal of the withdrawal (R154). Under HELD the INTERRUPTED locks of the new first step have DRIVE recorded, and a
travelling lock completes its travel (R21); otherwise a lock travelling outside that step is interrupted, and at withdraw
step TAILS each tail not DRIVEN is given DRIVE, those in FAULT here and the others by the advance (assumption log 20). -/
def reverseSequence (b : Blocks) : Blocks :=
  let started := startSequence .drive b
  if b.sil.held then (stepLocks started.seq.step).foldl recordDrive started
  else
    let outside := if started.seq.step = .tails then lockInterrupt .centre started else started
    if b.seq.step = .tails then (stepLocks .tails).foldl driveFaultedTail outside else outside

/-- An INTERRUPTED lock is given its command again (R156). -/
def resumeLock (b : Blocks) (k : LockId) : Blocks :=
  let r := b.locks.get k
  if r.state = .interrupted ∧ r.command ≠ .off then lockCommand k r.command b else b

/-- MOTION_RESUME acts on the locks (R156); the advance follows. -/
def resumeLocks (b : Blocks) : Blocks := LockId.all.foldl resumeLock b

/-- The state of a lock after an accepted FAULT_CLEAR (R158). -/
def clearLock (k : LockId) (b : Blocks) : Blocks :=
  let r := b.locks.get k
  match lockStateAt (lockShows b k) with
  | some s => setLock k { r with fault := .none, state := s, timer := .idle } b
  | none => setLock k { r with fault := .none, state := .interrupted, timer := .halted 0 } b

/-- A lock's record at the end of adoption (R150, R195). -/
def adoptLock (k : LockId) (b : Blocks) : Blocks :=
  let rec_ (s : LockState) (c : LockCmd) (f : TravelFault) : LockRec :=
    { command := c, state := s, timer := .idle, fault := f }
  match lockShows b k with
  | .first => setLock k (rec_ .driven .drive .none) b
  | .second => setLock k (rec_ .withdrawn .withdraw .none) b
  | .between => setLock k (rec_ .fault .off .lostPosition) b
  | .conflict => setLock k (rec_ .fault .off .switchConflict) b

end Sys2Proof.Machine
end

