-- ==== Sys2Proof/Machine/Road.lean ====
section
/-! DEFINITION. The barrier supervisor (R101 to R106) and the road sequencer (R87 to R99). -/

namespace Sys2Proof.Machine

/-! ## Barriers (R101 to R106) -/

/-- The proven position a command aims at: `first` is UP, `second` is DOWN. -/
def barrierTarget : BarrierCmd → Option Proven
  | .raise => some .first
  | .lower => some .second
  | .stop => none

/-- The state at a proven position. -/
def barrierStateAt : Proven → Option BarrierState
  | .first => some .up
  | .second => some .down
  | .between => none
  | .conflict => none

/-- The state at the target of a command. -/
def barrierDone : BarrierCmd → BarrierState
  | .raise => .up
  | .lower => .down
  | .stop => .stopped

/-- The travel state of a command. -/
def barrierTravel : BarrierCmd → BarrierState
  | .raise => .raising
  | .lower => .lowering
  | .stop => .stopped

/-- Both switches FRESH and no conflict (R102, R106). -/
def barrierConsistent (b : Blocks) (i : BarrierId) : Bool := barrierFresh b i && barrierShows b i != .conflict

/-- A barrier's record when its travel starts or restarts. -/
def BarrierRec.travel (r : BarrierRec) (c : BarrierCmd) : BarrierRec :=
  { r with command := c, state := barrierTravel c, timer := .running 0 }

/-- The proven position of a barrier: what its switches show while both are FRESH (R101). -/
def provenPosition (b : Blocks) (i : BarrierId) : Option Proven :=
  if barrierFresh b i then some (barrierShows b i) else none

/-- LOWER or RAISE taken by a STOPPED barrier, or by a FAULT barrier whose switches are consistent (R102): done where the
target is already proven, otherwise a travel. -/
def BarrierRec.moveFromRest (r : BarrierRec) (c : BarrierCmd) (proven : Option Proven) : BarrierRec :=
  if (barrierTarget c).isSome ∧ barrierTarget c = proven then
    { r with command := c, state := barrierDone c, timer := .idle }
  else r.travel c

/-- LOWER or RAISE taken by a barrier according to its state (R102). -/
def barrierMove (i : BarrierId) (c : BarrierCmd) (b : Blocks) : Blocks :=
  let r := b.barriers.get i
  match r.state with
  | .up => setBarrier i (if barrierDone c = .up then { r with command := c, timer := .idle } else r.travel c) b
  | .down => setBarrier i (if barrierDone c = .down then { r with command := c, timer := .idle } else r.travel c) b
  | .lowering => setBarrier i (if barrierTravel c = .lowering then r else r.travel c) b
  | .raising => setBarrier i (if barrierTravel c = .raising then r else r.travel c) b
  | .stopped => setBarrier i (r.moveFromRest c (provenPosition b i)) b
  | .unproven => setBarrier i { r with command := c, timer := .running 0 } b
  | .fault =>
    if barrierConsistent b i then
      setBarrier i ({ r with fault := .none }.moveFromRest c (provenPosition b i)) b
    else setBarrier i { r with command := c } b

/-- STOP taken by a barrier according to its state (R102). -/
def barrierStop (i : BarrierId) (b : Blocks) : Blocks :=
  let r := b.barriers.get i
  match r.state with
  | .up => setBarrier i { r with command := .stop } b
  | .down => setBarrier i { r with command := .stop } b
  | .lowering => setBarrier i { r with command := .stop, state := .stopped, timer := r.timer.halt } b
  | .raising => setBarrier i { r with command := .stop, state := .stopped, timer := r.timer.halt } b
  | .stopped => b
  | .unproven => setBarrier i { r with command := .stop, timer := r.timer.halt } b
  | .fault => setBarrier i { r with command := .stop } b

/-- A command issued to a barrier (R102). -/
def barrierCommand (i : BarrierId) (c : BarrierCmd) (b : Blocks) : Blocks :=
  match c with
  | .stop => barrierStop i b
  | .lower => barrierMove i .lower b
  | .raise => barrierMove i .raise b

/-- A barrier enters FAULT by a finding (R103, R104). -/
def barrierFault (i : BarrierId) (f : TravelFault) (b : Blocks) : Blocks :=
  setBarrier i { b.barriers.get i with state := .fault, fault := f, timer := .idle } b

/-- A barrier takes a proven position (R103, R105). -/
def barrierArrive (i : BarrierId) (s : BarrierState) (b : Blocks) : Blocks :=
  setBarrier i { b.barriers.get i with state := s, timer := .idle } b

/-- An UNPROVEN barrier whose switches are both FRESH again (R105). -/
def rejudgeBarrier (i : BarrierId) (b : Blocks) : Blocks :=
  let r := b.barriers.get i
  let shows := barrierShows b i
  if shows = .conflict then barrierFault i .switchConflict b
  else
    match r.timer with
    | .running _ =>
      if barrierTarget r.command = some shows then barrierArrive i (barrierDone r.command) b
      else setBarrier i { r with state := barrierTravel r.command } b
    | .halted _ =>
      match barrierStateAt shows with
      | some s => barrierArrive i s b
      | none => setBarrier i { r with state := .stopped } b
    | .idle =>
      match r.command, barrierStateAt shows with
      | .stop, some s => barrierArrive i s b
      | .stop, none => barrierFault i .lostPosition b
      | .lower, some .down => barrierArrive i .down b
      | .raise, some .up => barrierArrive i .up b
      | .lower, _ => barrierFault i .lostPosition b
      | .raise, _ => barrierFault i .lostPosition b

/-- A barrier is judged at a change of value or freshness of either switch (R103, R104, R105). Adoption on TIMEOUT may leave a
barrier UP or DOWN with one switch still FAILSAFE; a change of its other switch then makes it UNPROVEN, its switches not being
both FRESH (DESIGN CHOICE: R105 speaks of a switch that becomes HELD or FAILSAFE; assumption log 41). -/
def judgeBarrier (i : BarrierId) (b : Blocks) : Blocks :=
  let r := b.barriers.get i
  let shows := barrierShows b i
  if r.state = .fault then b
  else if barrierFresh b i = false then setBarrier i { r with state := .unproven } b
  else if r.state = .unproven then rejudgeBarrier i b
  else if shows = .conflict then barrierFault i .switchConflict b
  else
    match r.state with
    | .up => if shows = .first then b else barrierFault i .lostPosition b
    | .down => if shows = .second then b else barrierFault i .lostPosition b
    | .lowering => if shows = .second then barrierArrive i .down b else b
    | .raising => if shows = .first then barrierArrive i .up b else b
    | .stopped =>
      match barrierStateAt shows with
      | some s => barrierArrive i s b
      | none => b
    | .unproven => b
    | .fault => b

/-- Whether a travel timer is running. -/
def TravelTimer.isRunning : TravelTimer → Bool
  | .running _ => true
  | .halted _ => false
  | .idle => false

/-- The position that a travelling barrier is to reach, proven by its switches, both FRESH (R101, R103). -/
def travelProven (b : Blocks) (i : BarrierId) : Option BarrierState :=
  if barrierFresh b i then
    match (b.barriers.get i).state, barrierShows b i with
    | .lowering, .second => some .down
    | .raising, .first => some .up
    | _, _ => none
  else none

/-- The travel timer of a barrier expires: with its target proven the barrier completes its travel, otherwise it goes to
FAULT (R103; assumption log 40). -/
def barrierTimeout (i : BarrierId) (b : Blocks) : Blocks :=
  let r := b.barriers.get i
  if (barrierTravelling r || r.state == .unproven) && r.timer.isRunning then
    match travelProven b i with
    | some s => barrierArrive i s b
    | none => barrierFault i .travelTimeout b
  else b

/-- The E-stop's STOP to a travelling barrier, or to an UNPROVEN one whose timer runs (R100). -/
def barrierEstop (i : BarrierId) (b : Blocks) : Blocks :=
  let r := b.barriers.get i
  if barrierTravelling r || (r.state == .unproven && r.timer.isRunning) then barrierStop i b else b

/-- The STOP issued by FAULT_CLEAR, which takes the barrier out of FAULT (R106). -/
def barrierClearStop (i : BarrierId) (b : Blocks) : Blocks :=
  let r := b.barriers.get i
  setBarrier i { r with
    command := .stop
    state := (barrierStateAt (barrierShows b i)).getD .stopped
    timer := .idle
    fault := .none } b

/-- A barrier's record at the end of adoption, from the switch values presented (R101, R195). -/
def adoptBarrier (i : BarrierId) (b : Blocks) : Blocks :=
  match barrierShows b i with
  | .first => setBarrier i { command := .raise, state := .up, timer := .idle, fault := .none } b
  | .second => setBarrier i { command := .lower, state := .down, timer := .idle, fault := .none } b
  | .between => setBarrier i { command := .stop, state := .fault, timer := .idle, fault := .lostPosition } b
  | .conflict => setBarrier i { command := .stop, state := .fault, timer := .idle, fault := .switchConflict } b

/-! ## What the sequencer reads -/

/-- A loop is occupied (R92). -/
def loopOccupied (b : Blocks) : Bool :=
  Approach.all.any fun a => made b (.loopA a) || made b (.loopB a)

/-- Either SEATED input is not made. -/
def seatLossStands (b : Blocks) : Bool := anyLeaf fun l => !(made b (.seated l))

/-- Any LOCK_DRIVEN input is not made. -/
def lockLossStands (b : Blocks) : Bool := LockId.all.any fun k => !(made b (.lockDriven k))

/-- The ALERT cause that the inputs give (R96). -/
def alertCause (b : Blocks) : AlertCause :=
  match seatLossStands b, lockLossStands b with
  | true, true => .seatAndLock
  | true, false => .seat
  | false, true => .lock
  | false, false => .cleared

/-- A seat or lock loss stands (R89, R94, R96). -/
def lossStands (b : Blocks) : Bool := seatLossStands b || lockLossStands b

/-- The approaches that fail the complement test (R90). -/
def complementFailing (b : Blocks) : ComplementWait :=
  match complementPasses b .north, complementPasses b .south with
  | true, true => .none
  | false, true => .north
  | true, false => .south
  | false, false => .both

/-- Both barriers of a kind stand in a state. -/
def barriersAre (b : Blocks) (entry : Bool) (s : BarrierState) : Bool :=
  BarrierId.all.all fun i => isEntry i != entry || (b.barriers.get i).state == s

/-- Both entry barriers are DOWN or overridden (R91). -/
def entriesClosed (b : Blocks) : Bool := BarrierId.all.all fun i => !(isEntry i) || downOrOverridden b i

/-- All four barriers are DOWN or overridden (R93). -/
def barriersClosed (b : Blocks) : Bool := BarrierId.all.all fun i => downOrOverridden b i

/-! ## Phase entry (R88) -/

/-- The aspect of both approaches in a road phase. -/
def roadAspect : RoadPhase → RoadAspect
  | .roadOpen => .dark
  | .amber => .amber
  | .redWarn | .entryLowering | .clearance | .exitLowering | .roadClosed | .exitRaising | .entryRaising
  | .alert => .redFlash

/-- The bells of a road phase; ALERT with cause RECOVERY is silent. -/
def roadBell (p : RoadPhase) (c : AlertCause) : Bool :=
  match p with
  | .redWarn | .entryLowering => true
  | .alert => c != .recovery
  | .roadOpen | .amber | .clearance | .exitLowering | .roadClosed | .exitRaising | .entryRaising => false

/-- The command a phase calls a barrier to; ALERT makes no call. -/
def roadCall (p : RoadPhase) (exitPaused : Bool) (i : BarrierId) : Option BarrierCmd :=
  match p with
  | .roadOpen | .amber | .redWarn | .entryRaising => some .raise
  | .entryLowering | .exitRaising => some (if isEntry i then .lower else .raise)
  | .clearance => some (if isEntry i then .lower else if exitPaused then .stop else .raise)
  | .exitLowering | .roadClosed => some .lower
  | .alert => none

/-- In a closure from RECOVERY a barrier that stands DOWN, under whatever command, is taken as done: it stays DOWN, and no
call to RAISE reaches it (R9, R97; assumption log 34). -/
def staysDown (b : Blocks) (i : BarrierId) : Bool :=
  decide (b.sil.phase = .recovery) && closureRunning b.rsq.phase && decide ((b.barriers.get i).state = .down)

/-- A call issued at a phase entry: where it differs from the barrier's command or the barrier is in FAULT; a LOWER or
RAISE is withheld under HELD. -/
def issueCall (b : Blocks) (i : BarrierId) : Blocks :=
  match roadCall b.rsq.phase b.rsq.exitPaused i with
  | none => b
  | some c =>
    let r := b.barriers.get i
    if r.command = c ∧ r.state ≠ .fault then b
    else if c = .raise ∧ staysDown b i then b
    else if b.sil.held ∧ c ≠ .stop then b
    else barrierCommand i c b

/-- The sequencer's record at entry to a phase, both timers idle and nothing pending. -/
def Rsq.enter (r : Rsq) (p : RoadPhase) (c : AlertCause) : Rsq :=
  { phase := p
    timer := .idle
    clearance := .idle
    wait := .none
    cause := c
    step := .none
    exitPaused := r.exitPaused && closureRunning p
    bells := ⟨roadBell p c, roadBell p c⟩ }

/-- The record, the bells and the aspects of a phase. -/
def showPhase (p : RoadPhase) (c : AlertCause) (b : Blocks) : Blocks :=
  { b with
    rsq := b.rsq.enter p c
    slu := { b.slu with aspects := ⟨roadAspect p, roadAspect p⟩ } }

/-- Entry to a phase other than ALERT (R88). -/
def enterPhase (p : RoadPhase) (b : Blocks) : Blocks := BarrierId.all.foldl issueCall (showPhase p .none b)

/-- Entry to ALERT: no command is issued (R96). -/
def enterAlert (c : AlertCause) (b : Blocks) : Blocks := showPhase .alert c b

def setRoadTimer (t : PhaseTimer) (b : Blocks) : Blocks := { b with rsq := { b.rsq with timer := t } }

def setClearance (t : ClearanceTimer) (b : Blocks) : Blocks := { b with rsq := { b.rsq with clearance := t } }

def setWait (w : ComplementWait) (b : Blocks) : Blocks := { b with rsq := { b.rsq with wait := w } }

def setStep (p : PendingStep) (b : Blocks) : Blocks := { b with rsq := { b.rsq with step := p } }

def enterAmber (b : Blocks) : Blocks := setRoadTimer (.running b.par.amberMs) (enterPhase .amber b)

def enterRedWarn (b : Blocks) : Blocks := setRoadTimer (.running b.par.preEntryMs) (enterPhase .redWarn b)

/-- Entry to CLEARANCE, with its timer by the loops (R92). -/
def enterClearance (b : Blocks) : Blocks :=
  setClearance (if loopOccupied b then .full else .running b.par.clearMs) (enterPhase .clearance b)

/-- Entry to ROAD_OPEN: the overrides are removed (R25), and ALERT follows where a cause stands (R94). -/
def enterRoadOpen (b : Blocks) : Blocks :=
  let opened := enterPhase .roadOpen { b with sil := { b.sil with overrides := [] } }
  if lossStands opened then enterAlert (alertCause opened) opened else opened

/-! ## Closing (R89 to R93) -/

/-- The complement test of R90 with the timer at RUN_OUT. -/
def testComplement (b : Blocks) : Blocks :=
  match complementFailing b with
  | .none => if b.sil.held then setStep .enterEntryLowering (setWait .none b) else enterPhase .entryLowering b
  | .north => setWait .north b
  | .south => setWait .south b
  | .both => setWait .both b

def amberExpiry (b : Blocks) : Blocks :=
  match b.rsq.phase, b.rsq.timer with
  | .amber, .running _ =>
    if b.sil.held then setStep .enterRedWarn (setRoadTimer .runOut b) else enterRedWarn b
  | _, _ => b

def redWarnExpiry (b : Blocks) : Blocks :=
  match b.rsq.phase, b.rsq.timer with
  | .redWarn, .running _ => testComplement (setRoadTimer .runOut b)
  | _, _ => b

def clearanceExpiry (b : Blocks) : Blocks :=
  match b.rsq.phase, b.rsq.clearance with
  | .clearance, .running _ =>
    if b.sil.held then setStep .enterExitLowering (setClearance .runOut b) else enterPhase .exitLowering b
  | _, _ => b

/-- The pause of the exit barriers by occupancy (R93). -/
def pauseExits (b : Blocks) : Blocks :=
  let stopped := barrierStop .southExit (barrierStop .northExit b)
  enterClearance { stopped with rsq := { stopped.rsq with exitPaused := true } }

/-- The clearance timer follows the loops in CLEARANCE (R92). -/
def followLoops (b : Blocks) : Blocks :=
  match loopOccupied b, b.rsq.clearance with
  | true, .running _ => setClearance .full b
  | true, .runOut => setStep .none (setClearance .full b)
  | false, .full => setClearance (.running b.par.clearMs) b
  | _, _ => b

/-- ROAD_CLOSE taken in ALERT (R97). -/
def closeFromAlert (b : Blocks) : Blocks :=
  match complementFailing b, b.sil.held with
  | .none, false => enterPhase .entryLowering b
  | .none, true => setStep .enterEntryLowering (setRoadTimer .runOut (enterPhase .redWarn b))
  | w, _ => setWait w (setRoadTimer .runOut (enterPhase .redWarn b))

/-! ## Opening (R94, R95) -/

/-- A LOWERING barrier is stopped before an abandonment under HELD (R95). -/
def stopIfLowering (b : Blocks) (i : BarrierId) : Blocks :=
  if (b.barriers.get i).state = .lowering then barrierStop i b else b

/-- The closure is abandoned (R95). -/
def abandonClosure (b : Blocks) : Blocks :=
  let ready := if b.sil.held then BarrierId.all.foldl stopIfLowering b else b
  match b.rsq.phase with
  | .amber => enterRoadOpen ready
  | .redWarn => enterRoadOpen ready
  | .entryLowering | .clearance | .exitLowering | .roadOpen | .roadClosed | .exitRaising | .entryRaising | .alert =>
    if barriersAre ready false .up then enterPhase .entryRaising ready else enterPhase .exitRaising ready

/-! ## What follows by itself (R89 to R98) -/

/-- One advance of the sequencer by its inputs. EXIT_RAISING waits for the exit barriers alone and ENTRY_RAISING for the entry
barriers alone, so a barrier of the other pair that goes to FAULT, UNPROVEN or STOPPED does not hold the phase (DESIGN CHOICE:
R94 has both 'a barrier' and 'when both entry barriers are UP'; assumption log 43). -/
def roadAdvance (b : Blocks) : Blocks :=
  match b.rsq.phase with
  | .roadOpen => if lossStands b then note .road (enterAlert (alertCause b) b) else b
  | .amber => if lossStands b then enterRedWarn b else b
  | .redWarn =>
    if b.rsq.timer = .runOut ∧ b.rsq.wait ≠ .none ∧ b.rsq.wait ≠ complementFailing b then testComplement b else b
  | .entryLowering => if entriesClosed b then enterClearance b else b
  | .clearance => followLoops b
  | .exitLowering =>
    if loopOccupied b then pauseExits b
    else if barriersClosed b then enterPhase .roadClosed b else b
  | .roadClosed => b
  | .exitRaising =>
    if barriersAre b false .up then
      if b.sil.held then setStep .enterEntryRaising b else enterPhase .entryRaising b
    else b
  | .entryRaising => if barriersAre b true .up then enterRoadOpen b else b
  | .alert =>
    if b.rsq.cause = .recovery then b else { b with rsq := { b.rsq with cause := alertCause b } }

/-! ## Overrides (R25) -/

/-- Whether an override entry keeps its reason. -/
def overrideStands (b : Blocks) : Override → Bool
  | .barrier i => (b.barriers.get i).state != .up && (b.barriers.get i).state != .down
  | .complement a => !(holdsComplement b a)

/-- Entries whose barrier or approach has proven itself leave the table (R25). The SPAN report of a removal is posted by
`spanChanged`: the table differs from the one before the event, or a grant of the same event has noted the report. -/
def dropOverrides (b : Blocks) : Blocks :=
  { b with sil := { b.sil with overrides := b.sil.overrides.filter (overrideStands b) } }

/-! ## Resumption (R99) -/

/-- A barrier is given the call of the present phase again. -/
def recommandBarrier (b : Blocks) (i : BarrierId) : Blocks :=
  match roadCall b.rsq.phase b.rsq.exitPaused i with
  | none => b
  | some c =>
    let r := b.barriers.get i
    if c = .raise ∧ staysDown b i then b
    else if r.command ≠ c ∨ r.state = .stopped ∨ r.state = .fault then barrierCommand i c b else b

/-- The pending step is taken. -/
def takePendingStep (b : Blocks) : Blocks :=
  let cleared := setStep .none b
  match b.rsq.step with
  | .none => b
  | .enterRedWarn => enterRedWarn cleared
  | .enterEntryLowering => testComplement cleared
  | .enterExitLowering => if b.rsq.clearance = .runOut then enterPhase .exitLowering cleared else cleared
  | .enterEntryRaising => enterPhase .entryRaising cleared

/-- RSQ resumes, the HELD flag being clear (R99). A barrier that its call takes from FAULT to a proven position loses its
override at that moment (R25, R104), before the pending step is taken. -/
def resumeRoad (b : Blocks) : Blocks := takePendingStep (dropOverrides (BarrierId.all.foldl recommandBarrier b))

/-! ## Clearing a barrier (R106) -/

/-- An accepted FAULT_CLEAR on a barrier. -/
def clearBarrier (i : BarrierId) (b : Blocks) : Blocks :=
  let r := b.barriers.get i
  let command := (roadCall b.rsq.phase b.rsq.exitPaused i).getD r.command
  if b.sil.held ∨ command = .stop then barrierClearStop i b
  else barrierCommand i command (setBarrier i { r with fault := .none } b)

end Sys2Proof.Machine
end

