-- ==== Sys2Proof/Machine/Lamp.lean ====
section
/-! DEFINITION. The signal lamp unit: the flash generator (R70 to R73), lamp commands (R74 to R76) and lamp proving
(R77 to R82). -/

namespace Sys2Proof.Machine

/-! ## The generator -/

/-- The duration of a phase and the residue it leaves (R72). -/
def phaseDuration (cadence residue : Nat) : Nat := (30000 + residue) / cadence

def phaseResidue (cadence residue : Nat) : Nat := (30000 + residue) % cadence

/-- A pending cadence becomes active (R71, R72). -/
def applyCadence (b : Blocks) : Blocks :=
  { b with
    par := { b.par with flashFpm := b.pend.flashFpm.getD b.par.flashFpm }
    pend := { b.pend with flashFpm := none } }

/-- The next phase begins, with the residue it starts from (R72). -/
def beginPhase (phaseB : Bool) (residue : Nat) (b : Blocks) : Blocks :=
  { b with slu := { b.slu with
      running := true
      phaseB := phaseB
      residue := phaseResidue b.par.flashFpm residue
      remaining := phaseDuration b.par.flashFpm residue } }

/-- The generator starts in phase A (R71). -/
def startGenerator (b : Blocks) : Blocks := beginPhase false 0 (applyCadence b)

/-- The generator stops (R71). -/
def stopGenerator (b : Blocks) : Blocks :=
  { b with slu := { b.slu with running := false, phaseB := false, remaining := 0 } }

/-- One phase boundary (R72). -/
def phaseBoundary (b : Blocks) : Blocks :=
  if b.slu.running then
    let residue := if b.pend.flashFpm.isSome then 0 else b.slu.residue
    beginPhase (!b.slu.phaseB) residue (applyCadence b)
  else b

/-- An aspect needs the generator (R71). -/
def generatorNeeded (b : Blocks) : Bool :=
  (Approach.all.any fun a => b.slu.aspects.get a == .redFlash) ||
    (Dir.all.any fun d => b.nav.aspects.get d == .standby)

/-- The generator follows the demand (R71). -/
def followDemand (b : Blocks) : Blocks :=
  match generatorNeeded b, b.slu.running with
  | true, false => startGenerator b
  | false, true => stopGenerator b
  | _, _ => b

/-! ## Commands (R74, R75) -/

/-- The RED_1 group of a direction is FAILED. -/
def red1Failed (b : Blocks) (d : Dir) : Bool := (lampRec b (.red1 d)).state == .failed

/-- RED_1 of a direction by its aspect and the phase. -/
def red1Command (a : ChannelAspect) (phaseB : Bool) : Bool :=
  match a with
  | .red => true
  | .standby => !phaseB
  | .proceed => false
  | .outOfService => true

/-- RED_2 of a direction, which substitutes for a FAILED RED_1. -/
def red2Command (a : ChannelAspect) (phaseB failed : Bool) : Bool :=
  match a with
  | .red => failed
  | .standby => !phaseB && failed
  | .proceed => false
  | .outOfService => true

/-- The command of a lamp group (R74, R75). -/
def lampCommand (b : Blocks) : Lamp → Bool
  | .amber a => b.slu.aspects.get a == .amber
  | .redA a => b.slu.aspects.get a == .redFlash && !b.slu.phaseB
  | .redB a => b.slu.aspects.get a == .redFlash && b.slu.phaseB
  | .red1 d => red1Command (b.nav.aspects.get d) b.slu.phaseB
  | .red2 d => red2Command (b.nav.aspects.get d) b.slu.phaseB (red1Failed b d)
  | .green d => b.nav.aspects.get d == .proceed

/-! ## Findings (R81) -/

/-- A proof. -/
def LampRec.proof (r : LampRec) : LampRec :=
  match r.state with
  | .untested => { r with state := .proven }
  | .proven => r
  | .failed => if r.proofs + 1 < 3 then { r with proofs := r.proofs + 1 } else { r with state := .proven, proofs := 0 }
  | .stuckOn => if r.absentSeen then { r with state := .proven, absentSeen := false } else r

/-- A failed on-phase. -/
def LampRec.failedPhase (r : LampRec) : LampRec :=
  match r.state with
  | .untested => { r with state := .failed, proofs := 0 }
  | .proven => { r with state := .failed, proofs := 0 }
  | .failed => { r with proofs := 0 }
  | .stuckOn => { r with state := .failed, proofs := 0, absentSeen := false }

/-- A stuck-on finding. -/
def LampRec.stuck (r : LampRec) : LampRec :=
  match r.state with
  | .untested => { r with state := .stuckOn, absentSeen := false }
  | .proven => { r with state := .stuckOn, absentSeen := false }
  | .failed => { r with state := .stuckOn, proofs := 0, absentSeen := false }
  | .stuckOn => { r with absentSeen := false }

/-- The current is seen absent while off (R80). -/
def LampRec.seenAbsent (r : LampRec) : LampRec :=
  match r.state with
  | .stuckOn => { r with absentSeen := true }
  | .untested => r
  | .proven => r
  | .failed => r

/-! ## The prove timer (R77 to R80) -/

def LampRec.startTimer (m : ProveMode) (ms : Nat) (r : LampRec) : LampRec := { r with timer := m, remaining := ms }

def LampRec.idleTimer (r : LampRec) : LampRec := { r with timer := .idle, remaining := 0 }

/-- The check at the end of SETTLE (R80). -/
def LampRec.settleCheck (present : Bool) (r : LampRec) : LampRec :=
  if present then r.stuck.idleTimer else r.seenAbsent.idleTimer

/-- The edge window opens (R78). -/
def LampRec.openWindow (present : Bool) (ms : Nat) (r : LampRec) : LampRec :=
  if present then r.proof.startTimer .present ms else r.startTimer .edge ms

/-- An on-edge of a fitted group (R78, R80). -/
def LampRec.onEdge (present : Bool) (ms : Nat) (r : LampRec) : LampRec :=
  let settled := if r.timer = .settle ∧ r.remaining = 0 then r.settleCheck present else r
  { settled with command := true }.openWindow present ms

/-- An off-edge of a fitted group (R78 to R80). -/
def LampRec.offEdge (ms : Nat) (r : LampRec) : LampRec :=
  let judged := if r.timer = .edge then r.failedPhase else r
  { judged with command := false }.startTimer .settle ms

/-- The current of a fitted group changes (R78 to R80). -/
def LampRec.current (present : Bool) (ms : Nat) (r : LampRec) : LampRec :=
  if r.command then
    match r.timer, present with
    | .edge, true => r.proof.startTimer .present ms
    | .present, false => r.startTimer .absent ms
    | .absent, true => r.startTimer .present ms
    | .idle, true => r.startTimer .present ms
    | _, _ => r
  else
    match r.timer, present with
    | .settle, _ => r
    | _, true => r.stuck
    | _, false => r.seenAbsent

/-- The edge window expires (R78). -/
def LampRec.edgeExpiry (r : LampRec) : LampRec := if r.timer = .edge then r.failedPhase.idleTimer else r

/-- The prove timer expires in PRESENT or ABSENT (R79). -/
def LampRec.proveExpiry (ms : Nat) (r : LampRec) : LampRec :=
  match r.timer with
  | .present => r.proof.startTimer .present ms
  | .absent => r.failedPhase.idleTimer
  | .idle => r
  | .edge => r
  | .settle => r

/-- The settle period expires (R80). -/
def LampRec.settleExpiry (present : Bool) (r : LampRec) : LampRec :=
  if r.timer = .settle then r.settleCheck present else r

/-! ## The groups in the blocks -/

/-- A fitted group's record is rewritten in OPERATE; an unfitted group and other modes take nothing (R77, R82). -/
def onFitted (g : Lamp) (f : LampRec → LampRec) (b : Blocks) : Blocks :=
  let r := lampRec b g
  if r.fitted ∧ b.sil.mode = .operate then setLamp g (f r) b else b

/-- A group takes its command, with its edge where it is fitted (R76). -/
def takeCommand (b : Blocks) (g : Lamp) : Blocks :=
  let r := lampRec b g
  let on := lampCommand b g
  if on = r.command then b
  else if r.fitted = false then setLamp g { r with command := on } b
  else if on then setLamp g (r.onEdge (made b (lampInput g)) b.par.lampProveMs) b
  else setLamp g (r.offEdge b.par.lampProveMs) b

/-- Lamp commands follow aspects, phase and the FAILED standing of RED_1 (R71, R76). -/
def followAspects (b : Blocks) : Blocks := lampGroups.foldl takeCommand (followDemand b)

/-- A lamp current input has changed (R78 to R80). -/
def lampCurrent (g : Lamp) (b : Blocks) : Blocks :=
  onFitted g (LampRec.current (made b (lampInput g)) b.par.lampProveMs) b

def lampEdgeExpiry (g : Lamp) (b : Blocks) : Blocks := onFitted g LampRec.edgeExpiry b

def lampProveExpiry (g : Lamp) (b : Blocks) : Blocks := onFitted g (LampRec.proveExpiry b.par.lampProveMs) b

def lampSettleExpiry (g : Lamp) (b : Blocks) : Blocks :=
  onFitted g (LampRec.settleExpiry (made b (lampInput g))) b

/-- Whether the table of outputs holds an entry of a function (R64, R77). -/
def outputFitted (b : Blocks) (f : OutputFn) : Bool :=
  Link.all.any fun l => (b.cat.outputs.get l).toList.any fun e => e == some f

/-- A group begins supervision from the command it has at entry to OPERATE (R76, R82). -/
def beginSupervision (b : Blocks) (g : Lamp) : Blocks :=
  let on := lampCommand b g
  let fresh : LampRec := { fitted := outputFitted b (lampOutput g), command := on }
  if fresh.fitted = false then setLamp g fresh b
  else if on then setLamp g (fresh.openWindow (made b (lampInput g)) b.par.lampProveMs) b
  else setLamp g (fresh.startTimer .settle b.par.lampProveMs) b

/-- Lamp supervision begins at entry to OPERATE, with the generator if an aspect needs it (R76, R82). -/
def beginLamps (b : Blocks) : Blocks := lampGroups.foldl beginSupervision (followDemand b)

end Sys2Proof.Machine
end

