-- ==== Sys2Proof/Machine/Wind.lean ====
section
/-! DEFINITION. The wind monitor (chapter 10). -/

namespace Sys2Proof.Machine

/-- One step of the gust level by R185, the rising step first. -/
def gustStep (p : Params) (gust : Nat) : WindLevel → WindLevel
  | .normal => if p.wKneeDms ≤ gust then .high else .normal
  | .high =>
    if p.wStopDms ≤ gust then .stop
    else if gust < p.wKneeDms - p.wHystDms then .normal else .high
  | .stop => if gust < p.wStopDms - p.wHystDms then .high else .stop

/-- The gust level after the steps that apply in turn (R185): two at most. -/
def gustLevelOf (p : Params) (gust : Nat) (l : WindLevel) : WindLevel := gustStep p gust (gustStep p gust l)

/-- The gust level follows the gust, and the alarm level both (R185). -/
def judgeLevels (p : Params) (w : Wmn) : Wmn :=
  let level := gustLevelOf p w.gust w.gustLevel
  { w with gustLevel := level, alarm := if w.sound then level else .stop }

/-- The gust judged at a new wind value (R184). -/
def judgeGust (p : Params) (value : Nat) (w : Wmn) : Wmn :=
  if w.gust ≤ value ∨ p.gustHoldS ≤ w.age then { w with gust := value, age := 0 } else w

/-- The wind value of a plausible period (R183). -/
def windOf (p : Params) (period : Nat) : Nat := min (p.anemoK / period) 999

/-- The sensor state and the plausible run after a plausible period (R182). -/
def countPlausible (w : Wmn) : Wmn :=
  if w.sound then { w with run := 0 }
  else if w.run + 1 < 3 then { w with run := w.run + 1 }
  else { w with sound := true, run := 0 }

/-- A period ends (R182). A period of 0 µs, for which R180 has no last period, is recorded as 0 and judged implausible (DESIGN
CHOICE, assumption log 6). -/
def judgePeriod (p : Params) (period : Nat) (w : Wmn) : Wmn :=
  let measured := { w with lastPeriod := some period }
  if period < p.anemoMinUs then
    { measured with implausible := min (w.implausible + 1) 255, run := 0, sound := false }
  else
    let value := windOf p period
    judgeGust p value (countPlausible { measured with wind := value })

/-- A falling edge with the period timer's value at the edge (R181). An edge at the calm limit starts a measurement and keeps
the wind, the gust and the plausible run (DESIGN CHOICE for the run, which a calm would set to 0: R181 declares no calm here and
names the wind and the gust only; assumption log 6). -/
def anemoEdge (p : Params) (elapsed : Nat) (w : Wmn) : Wmn :=
  let begun := { w with measure := .timing, period := 0 }
  match w.measure with
  | .firstEdge => begun
  | .calm => begun
  | .timing => if Config.calmLimit ≤ elapsed then begun else judgeLevels p (judgePeriod p elapsed begun)

/-- Calm is declared (R181). -/
def declareCalm (p : Params) (w : Wmn) : Wmn :=
  match w.measure with
  | .timing =>
    judgeLevels p
      (judgeGust p 0 { w with measure := .calm, period := Config.calmLimit, wind := 0, run := 0 })
  | .firstEdge => w
  | .calm => w

/-- The gust age rises by 1 (R184). -/
def riseAge (p : Params) (w : Wmn) : Wmn :=
  let aged := { w with age := min (w.age + 1) 255 }
  match w.measure with
  | .calm => judgeLevels p (judgeGust p 0 aged)
  | .firstEdge => aged
  | .timing => aged

/-- A step of the wind monitor in the blocks. -/
def onWind (f : Params → Wmn → Wmn) (b : Blocks) : Blocks := { b with wmn := f b.par b.wmn }

end Sys2Proof.Machine
end

