-- ==== Sys2Proof/Machine/Nav.lean ====
section
/-! DEFINITION. The navigation unit: the clearance table (R160 to R162), the passage queue (R163 to R165), the group
(R166 to R169), grants and falls of proceed (R170 to R176) and the channel aspects (R175). -/

namespace Sys2Proof.Machine

/-! ## The clearance table -/

/-- The smaller of the two OPEN_ANGLE_CD. -/
def openAngle (b : Blocks) : Nat := min (b.par.openAngleCd.get .north) (b.par.openAngleCd.get .south)

/-- Each element is related to its successor. -/
def chained (r : Nat → Nat → Bool) : List Nat → Bool
  | [] => true
  | [_] => true
  | x :: y :: rest => r x y && chained r (y :: rest)

/-- The checks of LOAD_CLEARANCE (R160). -/
def tableAccepted (b : Blocks) (points : List (Nat × Nat)) : Bool :=
  let angles := points.map Prod.fst
  let heights := points.map Prod.snd
  decide (2 ≤ points.length ∧ points.length ≤ 8) && heights.all (fun c => decide (c ≤ 6000)) &&
    angles.head? == some 0 && chained (fun x y => decide (x < y)) angles &&
    decide (angles.getLastD 0 ≤ openAngle b) && chained (fun x y => decide (x ≤ y)) heights

/-- CONFIG_DONE's check of the table (R160). -/
def tableFits (b : Blocks) : Bool :=
  b.nav.loaded && decide ((b.nav.table.map Prod.fst).getLastD 0 ≤ openAngle b)

/-- The closed clearance. -/
def closedClearance (t : List (Nat × Nat)) : Nat := (t.map Prod.snd).headD 0

/-- The full clearance. -/
def fullClearance (t : List (Nat × Nat)) : Nat := (t.map Prod.snd).getLastD 0

/-- The required angle of an air draft (R161). -/
def requiredAngle : List (Nat × Nat) → Nat → Nat
  | [], _ => 0
  | [_], _ => 0
  | (a, c) :: (a', c') :: rest, h =>
    if c < h ∧ h ≤ c' then a + divUp ((h - c) * (a' - a)) (c' - c) else requiredAngle ((a', c') :: rest) h

/-- The clearance at an angle no greater than the last angle of the table (R162). -/
def clearanceAt : List (Nat × Nat) → Nat → Nat
  | [], _ => 0
  | [(_, c)], _ => c
  | (a, c) :: (a', c') :: rest, x =>
    if x ≤ a' then c + (x - a) * (c' - c) / (a' - a) else clearanceAt ((a', c') :: rest) x

/-- The reported clearance; the manual gives it no value while the table is empty (R162, assumption log 12). -/
def reportedClearance (b : Blocks) : BitVec 16 :=
  match b.nav.table with
  | [] => Config.clearanceNoTable
  | t => BitVec.ofNat 16 (clearanceAt t (min (effectiveLower b).toNat ((t.map Prod.fst).getLastD 0)))

/-! ## Queue and group -/

def classRank : VesselClass → Nat
  | .emergency => 0
  | .scheduled => 1
  | .ordinary => 2

/-- The group is active (R166). -/
def groupActive : GroupState → Bool
  | .awaitingOpen => true
  | .passing => true
  | .none => false
  | .complete => false

def waitingSlots (n : Nav) : List Slot := n.slots.filter fun s => s.state == .waiting

/-- The places in use (R163). -/
def placesInUse (n : Nav) : Nat := n.queue.length + (waitingSlots n).length

/-- The vessel PROCEEDING. -/
def proceedingVessel (n : Nav) : Option Vessel := (n.slots.find? fun s => s.state == .proceeding).map Slot.vessel

/-- The candidate (R171). -/
def candidate (n : Nav) : Option Vessel := (waitingSlots n).head?.map Slot.vessel

/-- No vessel is WAITING or PROCEEDING (R168). -/
def groupFinished (n : Nav) : Bool := n.slots.all fun s => s.state != .waiting && s.state != .proceeding

/-- The state of the vessel with an id becomes another (in its slot). -/
def setVessel (id : Nat) (s : VesselState) (n : Nav) : Nav :=
  { n with slots := n.slots.map fun x => if x.vessel.ident = id then { x with state := s } else x }

/-- Insertion directly after the last entry of equal or better rank (R164). -/
def insertVessel (v : Vessel) : List Vessel → List Vessel
  | [] => [v]
  | x :: rest => if classRank x.cls ≤ classRank v.cls then x :: insertVessel v rest else v :: x :: rest

/-- The late-joining test (R169). -/
def joinsLate (b : Blocks) (required : Nat) : Bool :=
  groupActive b.nav.group && decide (b.nav.slots.length < 4) &&
    decide (required + b.par.angleMarginCd ≤ b.nav.targetAngle)

/-- The gap required by a direction (R170). -/
def gapRequired (b : Blocks) (d : Dir) : Nat :=
  if b.nav.gap.isNone then 0
  else if b.nav.lastCleared = some d then b.par.followMs else b.par.reverseMs

/-- The gap has run out for a direction (R170). -/
def gapRunOut (b : Blocks) (d : Dir) : Bool :=
  match b.nav.gap with
  | none => true
  | some ms => decide (gapRequired b d ≤ ms)

/-! ## Formation and lowering (R167, R174) -/

/-- The group's target angle for a raise (R167, step 3). -/
def formationAngle (b : Blocks) (passage : Bool) (taken : List Vessel) : Nat :=
  if passage then min ((taken.map Vessel.required).foldl max 0 + b.par.angleMarginCd) (openAngle b) else openAngle b

/-- NAV forms a group (R167). -/
def formGroup (passage newOpening : Bool) (b : Blocks) : Blocks :=
  let margin : Blocks := { b with
    par := { b.par with angleMarginCd := b.pend.angleMarginCd.getD b.par.angleMarginCd }
    pend := { b.pend with angleMarginCd := none } }
  let n := margin.nav
  let taken := n.queue.take 4
  let angle := formationAngle margin passage taken
  note (.passage 0) { margin with nav := { n with
    queue := n.queue.drop 4
    slots := taken.map fun v => { vessel := v, state := .waiting }
    group := .awaitingOpen
    target := if passage then .passage angle else .full
    targetAngle := angle
    fall := .none
    blocked := .none
    gap := if newOpening then none else n.gap
    lastCleared := if newOpening then none else n.lastCleared } }

/-- A vessel returned from the group stands before the queued entries of its rank (R174). -/
def returnVessel (v : Vessel) : List Vessel → List Vessel
  | [] => [v]
  | x :: rest => if classRank x.cls < classRank v.cls then x :: returnVessel v rest else v :: x :: rest

/-- NAV acts on an accepted LEAVES_LOWER (R174). -/
def dissolveGroup (b : Blocks) : Blocks :=
  let n := b.nav
  let queue := ((waitingSlots n).map Slot.vessel).foldr returnVessel n.queue
  { b with nav := { n with
      queue := queue
      slots := []
      group := .none
      target := .none
      targetAngle := 0
      proceedShown := none
      fall := .none
      blocked := .none
      gap := none
      lastCleared := none } }

/-! ## Channel aspects (R175) -/

/-- A raise standing condition holds (R175). -/
def standingCondition (b : Blocks) : Bool :=
  (anyLeaf fun l => leafState b l == .fault) || b.wmn.alarm == .stop || !b.wmn.sound || b.sil.latch ||
    b.sil.consoleLost

/-- Proceed has fallen for a vessel of a direction that is still PROCEEDING: its aspect stays RED until VESSEL_CLEARED, also
where another vessel of the direction waits (R173, R176; assumption log 39). -/
def proceedFallen (n : Nav) (d : Dir) : Bool :=
  n.fall != .none && (proceedingVessel n).any fun v => v.dir == d

/-- The aspect of a direction (R175). -/
def channelAspect (b : Blocks) (d : Dir) : ChannelAspect :=
  if groupActive b.nav.group then
    if b.nav.proceedShown = some d then .proceed
    else if proceedFallen b.nav d then .red
    else if (waitingSlots b.nav).any fun s => s.vessel.dir == d then .standby
    else .red
  else if standingCondition b then .outOfService else .red

/-- The aspect of a direction is selected again; a change posts a NAV report (R175, R178). -/
def selectAspect (b : Blocks) (d : Dir) : Blocks :=
  let a := channelAspect b d
  if b.nav.aspects.get d = a then b
  else note (.nav d) { b with nav := { b.nav with aspects := b.nav.aspects.set d a } }

/-- Both aspects are selected again (R175). -/
def selectAspects (b : Blocks) : Blocks := selectAspect (selectAspect b .inbound) .outbound

/-- An accepted VESSEL_CLEARED: steps 1 to 5 of R172. -/
def clearVessel (v : Vessel) (b : Blocks) : Blocks :=
  selectAspects { b with
    par := { b.par with
      followMs := b.pend.followMs.getD b.par.followMs
      reverseMs := b.pend.reverseMs.getD b.par.reverseMs }
    pend := { b.pend with followMs := none, reverseMs := none }
    nav := { setVessel v.ident .cleared b.nav with
      proceedShown := none
      fall := .none
      lastCleared := some v.dir
      gap := some 0 } }

/-! ## What follows by itself -/

/-- Whether both leaves are PARKED. -/
def bothParked (b : Blocks) : Bool := bothLeaves fun l => leafState b l == .parked

/-- Proceed falls for the vessel it is shown to (R173, R176). -/
def dropProceed (f : ProceedFall) (b : Blocks) : Blocks :=
  { b with nav := { b.nav with proceedShown := none, fall := f } }

/-- The clearance condition and the GREEN group of a shown proceed (R173, R176). Where both parts of the clearance condition
fail, the report names LEAF_NOT_PARKED (DESIGN CHOICE: R178 does not say which; assumption log 38). -/
def watchProceed (b : Blocks) : Blocks :=
  match b.nav.proceedShown, proceedingVessel b.nav with
  | some d, some v =>
    if bothParked b = false then note (.clearanceLost v false) (dropProceed .clearanceLost b)
    else if effectiveLower b < (v.required : Int) then note (.clearanceLost v true) (dropProceed .clearanceLost b)
    else if (lampRec b (.green d)).state = .failed then dropProceed .greenFailed b
    else b
  | _, _ => b

/-- AWAITING_OPEN passes to PASSING (R168). The leaves are tested as they stand, also while a movement waits for a brake that is
SETTING (DESIGN CHOICE: R168 also says that a group over which a movement is directed stays AWAITING_OPEN; assumption log 46). -/
def openGroup (b : Blocks) : Blocks :=
  if b.nav.group = .awaitingOpen ∧ bothArrived b then { b with nav := { b.nav with group := .passing } } else b

/-- PASSING passes to COMPLETE (R168). -/
def completeGroup (b : Blocks) : Blocks :=
  if b.nav.group = .passing ∧ groupFinished b.nav then { b with nav := { b.nav with group := .complete } } else b

/-- The grant test (R171). -/
def grantTest (b : Blocks) : Blocks :=
  if b.nav.group = .passing ∧ (proceedingVessel b.nav).isNone then
    match candidate b.nav with
    | none => b
    | some v =>
      if gapRunOut b v.dir = false then { b with nav := { b.nav with blocked := .gap } }
      else
        match proceedFails b v.dir v.required with
        | some reason => { b with nav := { b.nav with blocked := reason } }
        | none =>
          { b with nav := { setVessel v.ident .proceeding b.nav with
              proceedShown := some v.dir
              fall := .none
              blocked := .none } }
  else b

/-- NAV follows the published changes of an event (R168, R171, R173, R175, R176). -/
def followPassage (b : Blocks) : Blocks :=
  selectAspects (grantTest (completeGroup (openGroup (watchProceed b))))

end Sys2Proof.Machine
end

