-- ==== Sys2Proof/Machine/InputQual.lean ====
section
/-! DEFINITION. The input qualifier (R52 to R63) and the restart of records at a change of the channel assignment table
(R65, R67). -/

namespace Sys2Proof.Machine

/-! ## Samples (R55, R56) -/

/-- A sample of a record whose first qualification is pending (R56). -/
def InputRec.firstSample (n : Nat) (s : Bool) (r : InputRec) : InputRec :=
  let count := if r.candidate = some s then r.agreement + 1 else 1
  if n ≤ count then
    { r with qualified := s, freshness := .fresh, pendingFirst := false, candidate := none, agreement := 0 }
  else { r with candidate := some s, agreement := count }

/-- A sample of a record that has qualified before (R55). -/
def InputRec.laterSample (n : Nat) (s : Bool) (r : InputRec) : InputRec :=
  if s = r.qualified then { r with candidate := none, agreement := 0 }
  else
    let count := if r.candidate = some s then r.agreement + 1 else 1
    if n ≤ count then { r with qualified := s, candidate := none, agreement := 0 }
    else { r with candidate := some s, agreement := count }

def InputRec.sample (n : Nat) (s : Bool) (r : InputRec) : InputRec :=
  if r.pendingFirst then r.firstSample n s else r.laterSample n s

/-- The first good frame after a loss or a starvation returns the record, and is its sample (R60). -/
def InputRec.frameSample (n : Nat) (s : Bool) (r : InputRec) : InputRec :=
  if r.pendingFirst then r.firstSample n s
  else { r with freshness := .fresh, heldSince := none }.laterSample n s

/-! ## Loss, hold and starvation (R57 to R59) -/

/-- A record falls to its fail-safe value (R58, R59). -/
def InputRec.fallSafe (safe : Bool) (r : InputRec) : InputRec :=
  { r with qualified := safe, freshness := .failsafe, heldSince := none, candidate := none, agreement := 0 }

/-- The loss of a record's link (R57, R56). -/
def InputRec.lose (holdMs now : Nat) (safe : Bool) (r : InputRec) : InputRec :=
  if r.pendingFirst then { r with candidate := none, agreement := 0 }
  else
    match r.freshness with
    | .fresh =>
      if holdMs = 0 then r.fallSafe safe
      else { r with freshness := .held, heldSince := some now, candidate := none, agreement := 0 }
    | .held => r
    | .failsafe => r

/-- The expiry of the hold (R58). -/
def InputRec.endHold (safe : Bool) (r : InputRec) : InputRec :=
  match r.freshness with
  | .held => r.fallSafe safe
  | .fresh => r
  | .failsafe => r

/-- Starvation (R59). -/
def InputRec.starve (safe : Bool) (r : InputRec) : InputRec :=
  match r.freshness with
  | .fresh => r.fallSafe safe
  | .held => r
  | .failsafe => r

/-- A HELD record whose time already reaches HOLD_MS (R63). -/
def InputRec.holdWritten (holdMs now : Nat) (safe : Bool) (r : InputRec) : InputRec :=
  match r.freshness, r.heldSince with
  | .held, some since => if holdMs ≤ now - since then r.fallSafe safe else r
  | _, _ => r

/-! ## Events of the input qualifier -/

/-- The records whose source lies on a link are rewritten. -/
def mapLinkInputs (l : Link) (f : Bool → InputRec → InputRec) (b : Blocks) : Blocks :=
  mapInputs (fun i r => if sourceOnLink b i l then f (failSafe (inputAt i)) r else r) b

def setLastGood (l : Link) (b : Blocks) : Blocks :=
  { b with iq := { b.iq with lastGood := b.iq.lastGood.set l (some b.now) } }

/-- The sample of a record from a good frame, in the sense of its invert flag (R53). -/
def frameSampleOf (b : Blocks) (i : Fin 41) (f : BitVec 80) : Bool :=
  match inputEntryAt b i with
  | some (.position p _ inv _) => xor (framePositionBit f p) inv
  | _ => false

/-- A good frame is handed on (R53, R60). -/
def takeGoodFrame (l : Link) (f : BitVec 80) (b : Blocks) : Blocks :=
  setLastGood l
    (mapInputs
      (fun i r => if sourceOnLink b i l then r.frameSample (debounceCount b i) (frameSampleOf b i f) else r) b)

/-- The loss of a link reaches its records (R57). -/
def loseInputs (l : Link) (b : Blocks) : Blocks := mapLinkInputs l (fun safe r => r.lose b.par.holdMs b.now safe) b

/-- The hold expires for the records of a link (R58). -/
def endHolds (l : Link) (b : Blocks) : Blocks := mapLinkInputs l InputRec.endHold b

/-- A boundary of an aligned link whose frame is not handed on (R59). -/
def starveTest (l : Link) (b : Blocks) : Blocks :=
  match b.iq.lastGood.get l with
  | none => b
  | some t => if b.par.holdMs ≤ b.now - t then mapLinkInputs l InputRec.starve b else b

/-- The machinery lines give one sample each (R54): line `k` is that of input function 25 + k. -/
def takeLines (lines : BitVec 17) (b : Blocks) : Blocks :=
  mapInputs (fun i r => if 24 ≤ i.val then r.sample (debounceCount b i) (lines.getLsbD (i.val - 24)) else r) b

/-- HOLD_MS has been written (R63). -/
def holdWritten (b : Blocks) : Blocks :=
  mapInputs (fun i r => r.holdWritten b.par.holdMs b.now (failSafe (inputAt i))) b

/-! ## Restart of records -/

/-- The value of a record restarted at a change of its CAT entry (R65, R67): a mandatory input without an entry keeps
its first qualification pending. -/
def restartedRec (f : InputFn) (e : Option InputEntry) : InputRec :=
  match e with
  | some (.position _ _ _ _) => InputRec.unqualified (failSafe f)
  | some .notFitted => InputRec.unassigned true (failSafe f)
  | none => if isOptional f then InputRec.unassigned true (failSafe f) else InputRec.unqualified (failSafe f)

/-- The value of a record at a reset (R52): a mandatory field input without an entry has nothing pending. -/
def resetRec (b : Blocks) (i : Fin 41) : InputRec :=
  let f := inputAt i
  if 24 ≤ i.val then InputRec.unqualified (failSafe f)
  else
    match inputEntryAt b i with
    | some e => restartedRec f (some e)
    | none => InputRec.unassigned (isOptional f) (failSafe f)

/-- IQ at RESTART and RECONFIGURE (R52). -/
def resetInputs (b : Blocks) : Blocks :=
  { b with iq := { recs := Vector.ofFn (resetRec b), lastGood := ⟨none, none, none⟩ } }

/-- One field input's CAT entry is set and its record restarted (R65, R67). -/
def setEntry (i : Fin 24) (e : Option InputEntry) (b : Blocks) : Blocks :=
  let k : Fin 41 := ⟨i.val, by omega⟩
  { b with
    cat := { b.cat with inputs := b.cat.inputs.set i.val e i.isLt }
    iq := { b.iq with recs := b.iq.recs.set k.val (restartedRec (inputAt k) e) k.isLt } }

end Sys2Proof.Machine
end

