-- ==== Sys2Proof/Machine/FieldLink.lean ====
section
/-! DEFINITION. The field link controllers (chapter 2): hunting, confirming, the boundaries of an aligned link, station
status, and the frames sent. -/

namespace Sys2Proof.Machine

/-! ## The receive side -/

/-- The frame numbers that end a multiframe. -/
def lastNumber : BitVec 4 := 15#4

/-- A frame with the marker pattern and a correct check octet (R30, R31). -/
def frameFound (f : BitVec 80) : Bool := framePattern f == 0b1011#4 && frameCheckOk f

/-- A frame found in HUNT (R30). -/
def LinkRec.found (r : LinkRec) (f : BitVec 80) : LinkRec :=
  { r with state := .confirm, expected := some (frameNumber f + 1#4), confirmations := 0 }

/-- The record on the way back to HUNT from CONFIRM (R31). -/
def LinkRec.confirmFailed (r : LinkRec) : LinkRec :=
  { r with state := .hunt, huntCause := .confirmFailed, expected := none, confirmations := 0 }

/-- The record at entry to ALIGNED (R31, R36). The expected number stays that of the frame just confirmed, since the
next boundary advances it before it judges (R32; assumption log 31). -/
def LinkRec.align (r : LinkRec) (f : BitVec 80) : LinkRec :=
  { r with
    state := .aligned
    expected := some (frameNumber f)
    confirmations := 2
    errors := 0
    windowFrames := 0
    windowErrors := 0
    excess := false }

/-- The record that leaves the aligned states, by the list of R34: confirmations are not in it and stand until R30
(R34, R41). -/
def LinkRec.leave (r : LinkRec) (c : HuntCause) : LinkRec :=
  { r with
    state := .hunt
    huntCause := c
    expected := none
    errors := 0
    windowFrames := 0
    windowErrors := 0
    excess := false
    prevStatus := none
    status := .undefined }

/-- A link is lost (R34): its report carries the window counts just before they were abandoned (R47). -/
def leaveAlignment (l : Link) (c : HuntCause) (r : LinkRec) (b : Blocks) : Blocks :=
  loseInputs l (note (.link l r.windowFrames r.windowErrors) (setLink l (r.leave c) b))

/-- What a station codeword stands for (R40). -/
def stationStatusOf (w : BitVec 4) : StationStatus :=
  if w = 0xA#4 then .healthy else if w = 0x5#4 then .localKey else if w = 0xC#4 then .stationFault else .undefined

/-- Station status at a boundary at which frame 15 is expected (R40). -/
def LinkRec.takeStatus (r : LinkRec) (good : Bool) (w : BitVec 4) : LinkRec :=
  if good then
    { r with prevStatus := some w, status := if r.prevStatus = some w then stationStatusOf w else r.status }
  else { r with prevStatus := none }

/-- What a frame at an aligned boundary is (R32). -/
structure FrameJudgement where
  markerError : Bool
  checkError : Bool
deriving DecidableEq, Repr

def FrameJudgement.good (j : FrameJudgement) : Bool := !j.markerError && !j.checkError

def judgeFrame (expected : BitVec 4) (f : BitVec 80) : FrameJudgement where
  markerError := !(framePattern f == 0b1011#4 && frameNumber f == expected)
  checkError := !(frameCheckOk f)

/-- A frame that counts as an error for loss of alignment (R33). -/
def countsAsError (lossCriterion : Nat) (j : FrameJudgement) : Bool :=
  if lossCriterion = 0 then j.markerError else j.markerError || j.checkError

/-- The window counts with one frame added (R36). -/
def LinkRec.countFrame (r : LinkRec) (j : FrameJudgement) : LinkRec :=
  { r with
    windowFrames := r.windowFrames + 1
    windowErrors := if j.checkError then r.windowErrors + 1 else r.windowErrors }

/-- The end-of-window test and the start of the next window (R38). -/
def LinkRec.endWindow (r : LinkRec) (errLimit : Nat) : LinkRec :=
  if 1000 ≤ r.windowFrames then
    { r with
      state := if r.state = .degraded ∧ r.windowErrors < errLimit then .aligned else r.state
      windowFrames := 0
      windowErrors := 0
      excess := false }
  else r

/-- The frame is handed on where it is good, and the station status is followed (R35, R40, R59). -/
def handOn (l : Link) (expected : BitVec 4) (j : FrameJudgement) (f : BitVec 80) (b : Blocks) : Blocks :=
  let r := b.links.get l
  let judged := if expected = lastNumber then setLink l (r.takeStatus j.good (frameCodeword f)) b else b
  if j.good then takeGoodFrame l f judged else starveTest l judged

/-- The work at one boundary of an aligned link (R32 to R38). -/
def alignedBoundary (l : Link) (f : BitVec 80) (b : Blocks) : Blocks :=
  let r := b.links.get l
  let expected := r.expected.getD 0#4 + 1#4
  let j := judgeFrame expected f
  let errors := if countsAsError b.par.lossCriterion j then r.errors + 1 else 0
  if 3 ≤ errors then leaveAlignment l .loss r b
  else
    let counted := { r with expected := some expected, errors := errors }.countFrame j
    if counted.excess = false ∧ b.par.errLimit ≤ counted.windowErrors then
      if b.par.rehuntOnExcess = 1 then leaveAlignment l .excessive { counted with excess := true } b
      else
        handOn l expected j f
          (setLink l ({ counted with excess := true, state := .degraded }.endWindow b.par.errLimit) b)
    else handOn l expected j f (setLink l (counted.endWindow b.par.errLimit) b)

/-- A candidate of 80 bits in HUNT (R30). -/
def huntCandidate (l : Link) (f : BitVec 80) (b : Blocks) : Blocks :=
  let r := b.links.get l
  if r.state = .hunt ∧ frameFound f = true then setLink l (r.found f) b else b

/-- The frame at the expected boundary in CONFIRM (R31). -/
def confirmCandidate (l : Link) (f : BitVec 80) (b : Blocks) : Blocks :=
  let r := b.links.get l
  if r.state = .confirm then
    if frameFound f = true ∧ r.expected = some (frameNumber f) then
      if 2 ≤ r.confirmations + 1 then setLastGood l (setLink l (r.align f) b)
      else
        setLink l { r with confirmations := r.confirmations + 1, expected := some (frameNumber f + 1#4) } b
    else setLink l r.confirmFailed b
  else b

/-- A frame boundary of an aligned link, in no other state (R32). -/
def boundaryFrame (l : Link) (f : BitVec 80) (b : Blocks) : Blocks :=
  if linkAligned (b.links.get l) then alignedBoundary l f b else b

/-! ## The transmit side (R43 to R46) -/

/-- The value a transmit position carries in OPERATE (R44). -/
def imageBit (b : Blocks) (l : Link) (p : Nat) : Bool :=
  match (b.cat.outputs.get l).toList[p]? with
  | some (some f) => outputValue b f
  | _ => false

/-- A channel octet of the output image: every position 0 outside OPERATE (R46). -/
def imageOctet (b : Blocks) (l : Link) (channel : Nat) : Octet :=
  if b.sil.mode = .operate then
    packOctet fun bit => decide (8 * channel + bit < 60) && imageBit b l (8 * channel + bit)
  else 0#8

def codewordOf (m : Mode) : Codeword :=
  match m with
  | .operate => .operate
  | .config => .hold
  | .adopt => .hold

/-- The codeword in the upper four bits of C8 (R46). -/
def codewordOctet : Codeword → Octet
  | .hold => 0x90#8
  | .operate => 0x60#8

/-- The nine octets before the check octet of a frame (R43). -/
def frameBody (b : Blocks) (l : Link) (number : BitVec 4) : List Octet :=
  (0xB0#8 ||| number.setWidth 8) ::
    ((List.range 7).map (imageOctet b l) ++ [imageOctet b l 7 ||| codewordOctet (codewordOf b.sil.mode)])

/-- The number of the next frame: 0 for the first after power-on (R43). -/
def nextNumber (r : LinkRec) : BitVec 4 := if r.txFrame = [] then 0#4 else r.txNumber + 1#4

/-- A frame start (R43, R44). -/
def startFrame (l : Link) (b : Blocks) : Blocks :=
  let r := b.links.get l
  let number := nextNumber r
  let body := frameBody b l number
  setLink l { r with
    txNumber := number
    txCodeword := codewordOf b.sil.mode
    txFrame := body ++ [crc8 body] } b

/-! ## RESTART and RECONFIGURE (R50) -/

/-- A link record at RESTART or RECONFIGURE: the receive side starts again, the transmitter carries on. -/
def LinkRec.restart (r : LinkRec) : LinkRec :=
  { txNumber := r.txNumber, txCodeword := r.txCodeword, txFrame := r.txFrame }

/-- All three links at RESTART or RECONFIGURE. -/
def resetLinks (b : Blocks) : Blocks :=
  { b with links := ⟨b.links.n.restart, b.links.s.restart, b.links.p.restart⟩ }

end Sys2Proof.Machine
end

