-- ==== Sys2Proof/Machine/Span.lean ====
section
/-! DEFINITION. The span interlock: the E-stop (R188, R189), holding and resuming (R20 to R23), the movements it directs
(R12, R13, R15), completions (R14, R16), console presence (R191 to R193), what an event's input changes set off, and
what follows by itself once an event is done. -/

namespace Sys2Proof.Machine

def setPhase (p : SpanPhase) (b : Blocks) : Blocks := { b with sil := { b.sil with phase := p } }

def setOrder (m : Option Movement) (b : Blocks) : Blocks := { b with sil := { b.sil with order := m } }

/-! ## E-stop (R188) -/

/-- The barriers that an E-stop stops (R100), which its ESTOP report lists (R188): those that take its STOP, an UNPROVEN one
with its travel timer running among them, although it keeps its state (DESIGN CHOICE: R188 does not say whether it counts as
stopped; assumption log 10). -/
def estopBarriers (b : Blocks) : List BarrierId :=
  BarrierId.all.filter fun i =>
    let r := b.barriers.get i
    barrierTravelling r || (r.state == .unproven && r.timer.isRunning)

/-- The E-stop latch is set, and everything that moves is stopped (R188). -/
def estopEvent (b : Blocks) : Blocks :=
  let leaves := LeafId.all.filter (leafInMotion b)
  let locks := LockId.all.filter fun k => lockTravelling (b.locks.get k)
  let barriers := estopBarriers b
  let latched := setHeld .estop { b with sil := { b.sil with latch := true } }
  let atRest := estopLeaf .south (estopLeaf .north latched)
  let braked := brakeSetRequest .south (brakeSetRequest .north atRest)
  note (.estop leaves locks barriers) (BarrierId.all.foldl (fun x i => barrierEstop i x) (interruptLocks braked))

/-! ## Holding (R20, R22) -/

/-- The lost one of the maintained conditions that locks and barriers give (R20). Where both are lost the hold cause names
the locks (DESIGN CHOICE: R20 does not say which; assumption log 35). -/
def maintainedFails (b : Blocks) : Option Cond :=
  if allLocks b .withdrawn = false then some .locksNotWithdrawn
  else if barriersClosed b = false then some .barrierNotProven
  else none

/-- Both leaves are sent to STOPPING and the HELD flag is set. -/
def stopAndHold (c : HoldCause) (b : Blocks) : Blocks := setHeld c (stopLeaves b)

/-- The maintained conditions while a leaf is RELEASING or MOVING (R20). Where the console-lost flag stands together with the
loss of a lock or a barrier, the cause names the lock or the barrier (DESIGN CHOICE, assumption log 35). -/
def maintainConditions (b : Blocks) : Blocks :=
  if anyLeaf (leafDriven b) then
    match maintainedFails b with
    | some c => stopAndHold (.maintained c) b
    | none => if b.sil.consoleLost then stopAndHold .consoleLost b else b
  else b

/-- A leaf off SEATED while a lock travels (R156). -/
def interruptUnseated (b : Blocks) : Blocks :=
  if bothSeated b = false ∧ (LockId.all.any fun k => lockTravelling (b.locks.get k)) = true then
    setHeld (.maintained .leafNotSeated) (interruptLocks b)
  else b

/-! ## The next movement (R144) -/

/-- The movement that waits. -/
def waitingMovement (b : Blocks) : Option Movement :=
  b.leaves.north.mot.next.orElse fun _ => b.leaves.south.mot.next

/-- The next movement is taken once no leaf is in motion and no brake is SETTING (R144). -/
def takeNextMovement (b : Blocks) : Blocks :=
  match waitingMovement b with
  | none => b
  | some m =>
    if movementMustWait b then b
    else
      let taken := setNext none b
      if b.sil.held then taken
      else if anyLeaf fun l => leafState b l == .fault then taken
      else
        match maintainedFails b with
        | some c => setHeld (.maintained c) taken
        | none => startMovement m taken

/-! ## Completions (R14, R15, R16) -/

/-- The re-derived phase (R16). -/
def derivedPhase (b : Blocks) : SpanPhase :=
  if bothSeated b && allLocks b .driven then .closed
  else if bothSeated b && allLocks b .withdrawn then .unlocked
  else .recovery

/-- Re-derivation in RECOVERY with the road closed (R16). -/
def rederive (b : Blocks) : Blocks :=
  if b.sil.phase = .recovery ∧ b.rsq.phase = .roadClosed then setPhase (derivedPhase b) b else b

/-- A RECOVERY_LOWER has completed (R15). -/
def completeRecovery (b : Blocks) : Blocks :=
  if b.sil.order = some .recoveryLower ∧ bothSeated b then rederive (setOrder none b) else b

/-- The work of a phase has completed (R14). -/
def phaseDone (b : Blocks) : SpanPhase → Bool
  | .closing => b.rsq.phase == .roadClosed
  | .reopening => b.rsq.phase == .roadOpen || b.rsq.phase == .alert
  | .unlocking => allLocks b .withdrawn
  | .locking => allLocks b .driven
  | .raising => bothArrived b
  | .lowering => bothSeated b
  | .traffic | .closed | .unlocked | .opened | .seated | .recovery => false

/-- The phase that follows (R14). -/
def nextPhase : SpanPhase → SpanPhase
  | .closing => .closed
  | .reopening => .traffic
  | .unlocking => .unlocked
  | .locking => .closed
  | .raising => .opened
  | .lowering => .seated
  | .traffic => .traffic
  | .closed => .closed
  | .unlocked => .unlocked
  | .opened => .opened
  | .seated => .seated
  | .recovery => .recovery

/-- The phase moves on at its completion; a completed raise or lowering ends its order (R14). The change posts a SPAN
report also where it takes the phase back to that of the event's start (R1). -/
def completePhase (b : Blocks) : Blocks :=
  if phaseDone b b.sil.phase then
    let moved := note .span (setPhase (nextPhase b.sil.phase) b)
    if b.sil.phase = .raising ∨ b.sil.phase = .lowering then setOrder none moved else moved
  else b

/-- A movement that can end short is in progress (R14, R15). -/
def movementPhase (b : Blocks) : Bool :=
  b.sil.phase == .raising || b.sil.phase == .lowering || b.sil.order == some .recoveryLower

/-- A movement ends short (R14). -/
def endShort (b : Blocks) : Blocks :=
  if movementPhase b && !(anyLeaf (leafInMotion b)) && (waitingMovement b).isNone && !b.sil.held then
    setHeld .movementShort b
  else b

/-- Whether a lock sequence completed in the event that began with `s0` (R16, R153): its status became COMPLETE, or all locks
came to the end state of its direction, WITHDRAWN for WITHDRAW and DRIVEN for DRIVE (assumption log 33). -/
def sequenceCompleted (s0 b : Blocks) : Bool :=
  let completed := b.seq.status == .complete && (s0.seq.status != .complete || b.notes.contains (.lock .centre))
  let reached := fun s => allLocks b s && !(allLocks s0 s)
  completed ||
    match b.seq.sequence with
    | .withdraw => reached .withdrawn
    | .drive => reached .driven
    | .none => false

/-- Whether the road was closed in the event that began with `s0` (R16). -/
def roadReachedClosed (s0 b : Blocks) : Bool := b.rsq.phase == .roadClosed && s0.rsq.phase != .roadClosed

/-- Re-derivation at its moments (R16). -/
def rederiveAt (s0 b : Blocks) : Blocks :=
  if roadReachedClosed s0 b || sequenceCompleted s0 b then rederive b else b

/-! ## Movements directed by requests (R12, R13, R15) -/

/-- The movement order of a raise, from the group NAV has formed (R12). -/
def raiseOrder (b : Blocks) : Movement :=
  match b.nav.target with
  | .passage cd => .raise (.angle cd)
  | .full => .raise .full
  | .none => .raise .full

/-- Both leaves stand at or beyond their targets for a movement (R12). -/
def bothBeyond (b : Blocks) (m : Movement) : Bool := bothLeaves fun l => alreadyArrived b l m

/-- A movement is directed unless the HELD flag is set (R21). -/
def directUnlessHeld (m : Movement) (b : Blocks) : Blocks := if b.sil.held then b else directMovement m b

/-- An accepted LEAVES_RAISE (R12). From OPEN with both leaves at or beyond their targets nothing is directed; a leaf that stands
there PARKED without arrived, as FAULT_CLEAR leaves it (R124), keeps arrived no, and the group stays AWAITING_OPEN (DESIGN CHOICE:
R12 takes arrived as set; assumption log 48). -/
def raiseLeaves (passage : Bool) (b : Blocks) : Blocks :=
  let formed := formGroup passage (b.sil.phase == .unlocked) b
  let m := raiseOrder formed
  if b.sil.phase = .opened ∧ bothBeyond formed m then formed
  else directUnlessHeld m (setPhase .raising (setOrder (some m) formed))

/-- An accepted LEAVES_LOWER (R13, R20): with the HELD flag clear, the locks and barriers are checked before the
movement is directed. -/
def lowerLeaves (b : Blocks) : Blocks :=
  let ordered := setPhase .lowering (setOrder (some .lower) (dissolveGroup b))
  if b.sil.held then ordered
  else
    let stopped := stopLeaves ordered
    match maintainedFails b with
    | some c => setHeld (.maintained c) stopped
    | none => directMovement .lower stopped

/-- An accepted RECOVERY_LOWER (R15). -/
def recoveryLowerLeaves (b : Blocks) : Blocks :=
  directUnlessHeld .recoveryLower (setOrder (some .recoveryLower) b)

/-- MOTION_HOLD (R22). -/
def holdMotion (b : Blocks) : Blocks := stopAndHold .holdRequest b

/-- A held leaf movement is directed again (R23). -/
def resumeMovement (b : Blocks) : Blocks :=
  match b.sil.order with
  | none => b
  | some m => if movementComplete b m then b else directMovement m b

/-- An accepted MOTION_RESUME (R23). -/
def resumeMotion (b : Blocks) : Blocks :=
  let cleared := note .span { b with sil := { b.sil with held := false, cause := .none } }
  resumeMovement (advanceSequence (resumeLocks (resumeRoad cleared)))

/-! ## Console presence (R191 to R193) -/

/-- A valid frame restarts the presence timer in OPERATE and clears the console-lost flag (R191, R193). -/
def presenceRestart (b : Blocks) : Blocks :=
  if b.sil.mode = .operate then
    let ms := b.pend.presenceMs.getD b.par.presenceMs
    let restarted : Blocks := { b with
      par := { b.par with presenceMs := ms }
      pend := { b.pend with presenceMs := none }
      presence := some ms }
    if b.sil.consoleLost then note .console { restarted with sil := { b.sil with consoleLost := false } }
    else restarted
  else b

/-- The presence timer expires (R192). -/
def presenceExpiry (b : Blocks) : Blocks :=
  if b.presence.isSome ∧ b.sil.mode = .operate then
    let lost : Blocks := { b with
      sil := { b.sil with consoleLost := true }
      presence := none
      presRanOut := b.par.presenceMs }
    note .console (stopAndHold .consoleLost lost)
  else b

/-! ## What the input changes of an event set off (R61) -/

/-- An input has come to be made. -/
def inputRises (s0 b : Blocks) (f : InputFn) : Bool := !(made s0 f) && made b f

/-- An input has ceased to be made. -/
def inputFalls (s0 b : Blocks) (f : InputFn) : Bool := made s0 f && !(made b f)

/-- Value or freshness of an input has changed. -/
def inputMoves (s0 b : Blocks) (f : InputFn) : Bool :=
  made s0 f != made b f || (inputRec s0 f).freshness != (inputRec b f).freshness

/-- The seat and open-limit inputs of a leaf (R111, R113, R127). Where both come to be made in one event the seat reference
is taken first, so the open-limit position is 0 (DESIGN CHOICE: R111 and R113 do not order them; assumption log 7). -/
def publishPosition (s0 : Blocks) (b : Blocks) (l : LeafId) : Blocks :=
  let b1 := if inputRises s0 b (.seated l) then seatReference l b else b
  let b2 := if inputFalls s0 b (.seated l) then seatLost l b1 else b1
  if inputRises s0 b (.openLimit l) then openLimitMade l b2 else b2

/-- The brake, drive and overtravel inputs of a leaf (R121, R122, R149). Findings that come together are all made: each is
judged on the motion of the leaf before them (R117). BRAKE_DROPPED is taken first, then DRIVE_NOT_READY, then OVERTRAVEL, so the
first of them that is made is the first fault kind (DESIGN CHOICE: R117 lets either come first; assumption log 7). -/
def publishDrive (s0 : Blocks) (b : Blocks) (l : LeafId) : Blocks :=
  let b1 := if inputRises s0 b (.brakeReleased l) then brakeShowsReleased l b else b
  let b2 := if inputFalls s0 b (.brakeReleased l) then brakeShowsSet l b1 else b1
  let b3 := if inputFalls s0 b (.driveReady l) && leafInMotion b l then leafFault l .driveNotReady b2 else b2
  if inputRises s0 b (.overtravel l) then leafFault l .overtravel b3 else b3

/-- The inputs of both leaves: positions first, then the skew that stands on them, then brakes and findings (R117,
R142). The skew is judged on the positions and taken after the other findings of its leaf (DESIGN CHOICE: R117 lets either come
first; assumption log 7). A lowering that finds its seat has arrived before the skew is judged, and a raise whose OPEN_LIMIT is
made arrives after the findings (`followLeaves`; DESIGN CHOICE: R131, R132 and R142 do not order them; assumption log 7). -/
def publishLeaves (s0 b : Blocks) : Blocks :=
  let placed := LeafId.all.foldl (publishPosition s0) b
  skewFinding placed (skewStands placed) (LeafId.all.foldl (publishDrive s0) placed)

/-- The switches of a lock (R152), in OPERATE. -/
def publishLock (s0 : Blocks) (b : Blocks) (k : LockId) : Blocks :=
  if inputMoves s0 b (.lockDriven k) || inputMoves s0 b (.lockWithdrawn k) then judgeLock k b else b

/-- The switches of a barrier (R101), in OPERATE. -/
def publishBarrier (s0 : Blocks) (b : Blocks) (i : BarrierId) : Blocks :=
  if inputMoves s0 b (upSwitch i) || inputMoves s0 b (downSwitch i) then judgeBarrier i b else b

/-- The current of a lamp group (R78 to R80). -/
def publishLamp (s0 : Blocks) (b : Blocks) (g : Lamp) : Blocks :=
  if inputRises s0 b (lampInput g) || inputFalls s0 b (lampInput g) then lampCurrent g b else b

/-- The ESTOP input (R188). -/
def publishEstop (s0 b : Blocks) : Blocks :=
  if inputFalls s0 b .estop && !b.sil.latch then estopEvent b else b

/-- The changes of one event, published as one set (R61): `s0` are the blocks before the inputs changed. -/
def publish (s0 b : Blocks) : Blocks :=
  let leaves := publishLeaves s0 b
  if b.sil.mode = .operate then
    let locks := LockId.all.foldl (publishLock s0) leaves
    let stopped := publishEstop s0 locks
    lampGroups.foldl (publishLamp s0) (BarrierId.all.foldl (publishBarrier s0) stopped)
  else leaves

/-! ## What follows by itself (assumption log 7) -/

/-- The leaves: arrival, rest, the start of the profile, skew. Arrival and rest come after the findings of the event's inputs or
count, where R122 lets either come first (DESIGN CHOICE; assumption log 7). -/
def followLeaves (b : Blocks) : Blocks :=
  superviseSkew (profileStart (leafRest .south (leafRest .north (judgeRaiseArrival .south (judgeRaiseArrival .north b)))))

/-- The changes of a leaf and its brake that post a LEAF report (R125, R127, R149), against the blocks `s0`. -/
def leafMoved (s0 b : Blocks) (l : LeafId) : Bool :=
  let x := s0.leaves.get l
  let y := b.leaves.get l
  let p := s0.brakes.get l
  let q := b.brakes.get l
  x.mot.state != y.mot.state || x.mot.arrived != y.mot.arrived || x.pos.certain != y.pos.certain ||
    x.pos.angleKnown != y.pos.angleKnown || x.flt.first != y.flt.first || x.flt.kinds != y.flt.kinds ||
    p.state != q.state || p.fault != q.fault || p.mismatch != q.mismatch

/-- A leaf that has changed since the event's start is noted, so that its report is posted also where a next movement takes
it back to its first state in the same event (R127, R145). -/
def noteLeaf (s0 b : Blocks) (l : LeafId) : Blocks :=
  if leafMoved s0 b l && !(b.notes.contains (.leaf l)) then note (.leaf l) b else b

/-- Both leaves, noted where they have changed. -/
def noteLeaves (s0 b : Blocks) : Blocks := LeafId.all.foldl (noteLeaf s0) b

/-- The span interlock's conditions, then the leaves' ceilings and their next movement. -/
def followConditions (b : Blocks) : Blocks :=
  takeNextMovement
    (applyCeiling .south (applyCeiling .north (interruptUnseated (maintainConditions (dropOverrides b)))))

/-- The completions of the span interlock. -/
def followSpan (s0 b : Blocks) : Blocks := endShort (rederiveAt s0 (completeRecovery (completePhase b)))

/-- One round over the blocks in OPERATE; `s0` are the blocks at the start of the event. -/
def settleRound (s0 b : Blocks) : Blocks :=
  followAspects
    (followPassage
      (followSpan s0 (roadAdvance (advanceSequence (followConditions (noteLeaves s0 (followLeaves b)))))))

/-- The rounds after which nothing more follows. -/
def settleOperate (s0 b : Blocks) : Blocks := iter (settleRound s0) 4 b

end Sys2Proof.Machine
end

