-- ==== Sys2Proof/Machine/Adopt.lean ====
section
/-! DEFINITION. Adoption (R194 to R196), the resets of RESTART and RECONFIGURE (R5, R6), power-on reset, and what follows
an event in each mode. -/

namespace Sys2Proof.Machine

/-! ## Adoption -/

/-- A leaf's records as adoption finds the leaf (R195). -/
def LeafRec.adopted (r : LeafRec) (seated openLimit : Bool) (fullCounts : Nat) : LeafRec :=
  if seated then
    { r with
      pos := { r.pos with position := 0, certain := true, angleKnown := true }
      mot := { r.mot with state := .seated, arrived := false } }
  else
    { r with
      pos := { r.pos with
        position := if openLimit then (fullCounts : Int) else 0
        certain := false
        angleKnown := openLimit }
      mot := { r.mot with state := .parked, arrived := false }
      win := r.win.start }

def adoptLeaf (l : LeafId) (b : Blocks) : Blocks :=
  setLeaf l ((b.leaves.get l).adopted (made b (.seated l)) (made b (.openLimit l)) (b.par.fullCounts.get l)) b

def allBarriers (b : Blocks) (s : BarrierState) : Bool := BarrierId.all.all fun i => (b.barriers.get i).state == s

/-- The span phase and the road phase of an adopted bridge (R196). -/
def adoptedPhases (b : Blocks) : SpanPhase × RoadPhase :=
  if bothSeated b && allLocks b .driven && allBarriers b .up then (.traffic, .roadOpen)
  else if bothSeated b && allLocks b .driven && allBarriers b .down then (.closed, .roadClosed)
  else if bothSeated b && allLocks b .withdrawn && allBarriers b .down then (.unlocked, .roadClosed)
  else (.recovery, .alert)

/-- The road sequencer set for its adopted phase, without starting any timer (R87). -/
def adoptRoad (p : RoadPhase) (b : Blocks) : Blocks :=
  if p = .alert then enterAlert .recovery b else showPhase p .none b

/-- Barriers, locks, brakes and leaves as adoption finds them (R195). -/
def adoptMachinery (b : Blocks) : Blocks :=
  let barriers := BarrierId.all.foldl (fun x i => adoptBarrier i x) b
  let locks := LockId.all.foldl (fun x k => adoptLock k x) barriers
  adoptLeaf .south (adoptLeaf .north (brakeSetRequest .south (brakeSetRequest .north locks)))

/-- The navigation unit at the end of adoption: the clearance table is kept (R195, R166). -/
def Nav.cleared (n : Nav) : Nav := { table := n.table, loaded := n.loaded }

/-- The SIL record and the adoption record at the decision (R194, R195). -/
def adoptedSil (b : Blocks) (o : AdoptOutcome) (p : SpanPhase) : Sil where
  mode := .operate
  phase := p
  held := false
  cause := .none
  latch := !(made b .estop)
  consoleLost := false
  order := none
  overrides := []
  adoptTimer := none
  adoptOutcome := o
  notFresh := (b.iq.recs.toList.filter fun r => r.freshness != .fresh).length

/-- A leaf whose OVERTRAVEL is made enters FAULT at the entry to OPERATE (R121). -/
def overtravelAtEntry (l : LeafId) (b : Blocks) : Blocks :=
  if made b (.overtravel l) then leafFault l .overtravel b else b

/-- The reports of the blocks set at the decision (R196), and that of a latch set there (R195). -/
def adoptionNotes (b : Blocks) : Blocks :=
  let posted := note (.leaf .south) (note (.leaf .north) (note .road b))
  if b.sil.latch then note (.estop [] [] []) posted else posted

/-- Adoption is decided: every block is set in one event (R194 to R196). -/
def adopt (o : AdoptOutcome) (b : Blocks) : Blocks :=
  let found := adoptMachinery b
  let phases := adoptedPhases found
  let set : Blocks := { found with
    nav := found.nav.cleared
    sil := adoptedSil found o phases.1
    presence := some found.par.presenceMs }
  let entered := overtravelAtEntry .south (overtravelAtEntry .north (adoptRoad phases.2 set))
  adoptionNotes (beginLamps (selectAspects entered))

/-- Every link is aligned and all inputs are FRESH (R194). -/
def adoptionReady (b : Blocks) : Bool :=
  Link.all.all (fun l => linkAligned (b.links.get l)) && allFresh b

/-- The adopt timer expires (R194). -/
def adoptExpiry (b : Blocks) : Blocks :=
  if b.sil.mode = .adopt ∧ b.sil.adoptTimer.isSome then adopt .timeout b else b

/-- Entry to ADOPT by CONFIG_DONE (R4, R194). -/
def enterAdopt (b : Blocks) : Blocks :=
  { b with sil := { b.sil with
      mode := .adopt
      adoptTimer := some b.par.adoptMs
      adoptOutcome := .none
      notFresh := 0 } }

/-! ## What follows an event, by mode -/

/-- What follows by itself at the end of an event that began with `s0`. -/
def settle (s0 b : Blocks) : Blocks :=
  match b.sil.mode with
  | .config => b
  | .adopt => if adoptionReady b then settleOperate s0 (adopt .allFresh b) else b
  | .operate => settleOperate s0 b

/-! ## Resets -/

/-- A leaf at RESTART and RECONFIGURE: every field at its reset value but the phase pair, which the encoder gives. -/
def LeafRec.restart (r : LeafRec) : LeafRec :=
  { pos := { phaseA := r.pos.phaseA, phaseB := r.pos.phaseB } }

/-- The LINK report of a link's reset, with the window counts just before they were abandoned (R47, R50). -/
def noteLinkReset (before : Blocks) (b : Blocks) (l : Link) : Blocks :=
  note (.link l (before.links.get l).windowFrames (before.links.get l).windowErrors) b

/-- RESTART and RECONFIGURE: the parameters, CAT and the clearance table are kept with every pending value active, and
every other record takes its reset value (R5, R6, R50, R52, R202). RQ is emptied first (R204), so postings made before
the taking are dropped with it. -/
def restartBlocks (b : Blocks) : Blocks :=
  let kept : Blocks := { Blocks.reset with
    links := b.links
    cat := b.cat
    nav := b.nav.cleared
    par := adoptPending b.par b.pend
    leaves := ⟨b.leaves.north.restart, b.leaves.south.restart⟩
    presRanOut := b.presRanOut
    now := b.now }
  Link.all.foldl (noteLinkReset b) (resetInputs (resetLinks kept))

/-- RESTART: the mode becomes ADOPT with the adopt timer running (R5, R194). -/
def restart (b : Blocks) : Blocks := enterAdopt (restartBlocks b)

/-- RECONFIGURE: the mode becomes CONFIG (R6). -/
def reconfigure (b : Blocks) : Blocks := restartBlocks b

/-- Power-on reset: every record at its power-on value; the phase pairs are those of the encoder lines (assumption
log 14). -/
def powerOn (b : Blocks) : Blocks :=
  { Blocks.reset with leaves := ⟨b.leaves.north.restart, b.leaves.south.restart⟩ }

end Sys2Proof.Machine
end

