-- ==== Sys2Proof/Machine/Operands.lean ====
section
/-! DEFINITION. The encodings of R206: numbers, optional fields, enumerations, timers, variants and lists, and the fields
of every reply and report. -/

namespace Sys2Proof.Machine

/-! ## Numbers -/

def u8 (n : Nat) : List Octet := [BitVec.ofNat 8 n]

def u16 (n : Nat) : List Octet := [BitVec.ofNat 8 (n / 256), BitVec.ofNat 8 n]

def u24 (n : Nat) : List Octet := BitVec.ofNat 8 (n / 65536) :: u16 n

def u32 (n : Nat) : List Octet := BitVec.ofNat 8 (n / 16777216) :: u24 n

/-- A signed number of three octets, in two's complement. -/
def s24 (i : Int) : List Octet := u24 (BitVec.ofInt 24 i).toNat

def flag (x : Bool) : List Octet := [if x then 1#8 else 0#8]

/-- Fields that may be none: none is every bit 1. -/
def opt8 (o : Option Nat) : List Octet := u8 (o.getD 0xFF)

def opt16 (o : Option Nat) : List Octet := u16 (o.getD 0xFFFF)

def opt24 (o : Option Nat) : List Octet := u24 (o.getD 0xFFFFFF)

def optS24 : Option Int → List Octet
  | none => u24 0xFFFFFF
  | some i => s24 i

def optFlag : Option Bool → List Octet
  | none => [0xFF#8]
  | some x => flag x

/-- A timer: its mode octet and a time of two octets. -/
def timer16 (mode time : Nat) : List Octet := u8 mode ++ u16 time

/-- A countdown that is STOPPED or IDLE (0), or RUNNING (1) with time remaining. -/
def optTimer : Option Nat → List Octet
  | none => timer16 0 0
  | some ms => timer16 1 ms

/-- A list: its count and its entries. -/
def listOf {α : Type} (f : α → List Octet) (l : List α) : List Octet := u8 l.length ++ (l.map f).flatten

/-! ## Reading a request body -/

/-- The number an octet holds. -/
def num (o : Octet) : Nat := o.toNat

/-- The number two octets hold. -/
def num16 (hi lo : Octet) : Nat := 256 * hi.toNat + lo.toNat

/-- The octets of a 16-bit operand. -/
def octets16 (v : BitVec 16) : List Octet := u16 v.toNat

/-- The octets of a 32-bit operand. -/
def octets32 (v : BitVec 32) : List Octet := u32 v.toNat

/-- The signed number that four octets hold. -/
def signed32 (a b c d : Octet) : Int :=
  (BitVec.ofNat 32 (16777216 * a.toNat + 65536 * b.toNat + 256 * c.toNat + d.toNat)).toInt

/-! ## Enumerations, in the order of the owning rule's table -/

def Mode.number : Mode → Nat
  | .config => 0
  | .adopt => 1
  | .operate => 2

def SpanPhase.number : SpanPhase → Nat
  | .traffic => 0
  | .closing => 1
  | .closed => 2
  | .unlocking => 3
  | .unlocked => 4
  | .raising => 5
  | .opened => 6
  | .lowering => 7
  | .seated => 8
  | .locking => 9
  | .reopening => 10
  | .recovery => 11

/-- The condition codes of section 12.6. -/
def Cond.number : Cond → Nat
  | .estopLatched => 1
  | .stationNotReady => 2
  | .roadNotClosed => 3
  | .barrierNotProven => 4
  | .locksNotWithdrawn => 5
  | .locksNotDriven => 6
  | .leafNotSeated => 7
  | .leafFault => 8
  | .driveNotReady => 9
  | .windStop => 10
  | .windSensor => 11
  | .positionUncertain => 12
  | .vesselUnderway => 13
  | .queueEmpty => 14
  | .motionInProgress => 15
  | .overrideNotApplicable => 16

def AdoptOutcome.number : AdoptOutcome → Nat
  | .none => 0
  | .allFresh => 1
  | .timeout => 2

def LinkState.number : LinkState → Nat
  | .hunt => 0
  | .confirm => 1
  | .aligned => 2
  | .degraded => 3

def HuntCause.number : HuntCause → Nat
  | .reset => 0
  | .confirmFailed => 1
  | .loss => 2
  | .excessive => 3

def StationStatus.number : StationStatus → Nat
  | .healthy => 0
  | .localKey => 1
  | .stationFault => 2
  | .undefined => 3

def Codeword.number : Codeword → Nat
  | .hold => 0
  | .operate => 1

def Freshness.number : Freshness → Nat
  | .fresh => 0
  | .held => 1
  | .failsafe => 2

def RoadAspect.number : RoadAspect → Nat
  | .dark => 0
  | .amber => 1
  | .redFlash => 2

def LampState.number : LampState → Nat
  | .untested => 0
  | .proven => 1
  | .failed => 2
  | .stuckOn => 3

def ProveMode.number : ProveMode → Nat
  | .idle => 0
  | .edge => 1
  | .present => 2
  | .absent => 3
  | .settle => 4

def RoadPhase.number : RoadPhase → Nat
  | .roadOpen => 0
  | .amber => 1
  | .redWarn => 2
  | .entryLowering => 3
  | .clearance => 4
  | .exitLowering => 5
  | .roadClosed => 6
  | .exitRaising => 7
  | .entryRaising => 8
  | .alert => 9

def ComplementWait.number : ComplementWait → Nat
  | .none => 0
  | .north => 1
  | .south => 2
  | .both => 3

def AlertCause.number : AlertCause → Nat
  | .none => 0
  | .seat => 1
  | .lock => 2
  | .seatAndLock => 3
  | .recovery => 4
  | .cleared => 5

/-- The pending steps, in the order of the table of R98. -/
def PendingStep.number : PendingStep → Nat
  | .none => 0
  | .enterRedWarn => 1
  | .enterEntryLowering => 2
  | .enterExitLowering => 3
  | .enterEntryRaising => 4

def BarrierCmd.number : BarrierCmd → Nat
  | .lower => 0
  | .raise => 1
  | .stop => 2

def BarrierState.number : BarrierState → Nat
  | .up => 0
  | .lowering => 1
  | .down => 2
  | .raising => 3
  | .stopped => 4
  | .unproven => 5
  | .fault => 6

def TravelFault.number : TravelFault → Nat
  | .none => 0
  | .travelTimeout => 1
  | .switchConflict => 2
  | .lostPosition => 3

def LeafFault.number : LeafFault → Nat
  | .overspeed => 0
  | .stall => 1
  | .wrongDirection => 2
  | .overtravel => 3
  | .driveNotReady => 4
  | .seatNotFound => 5
  | .skew => 6
  | .brakeNotReleased => 7
  | .brakeNotSet => 8
  | .brakeDropped => 9

def SpeedDir.number : SpeedDir → Nat
  | .raise => 0
  | .lower => 1
  | .none => 2

def LeafState.number : LeafState → Nat
  | .seated => 0
  | .parked => 1
  | .releasing => 2
  | .moving => 3
  | .stopping => 4
  | .fault => 5

def MoveKind.number : MoveKind → Nat
  | .none => 0
  | .raise => 1
  | .lower => 2
  | .recoveryLower => 3

def ArrivalRule.number : ArrivalRule → Nat
  | .none => 0
  | .byTarget => 1
  | .openLimitOnly => 2
  | .seatSearch => 3
  | .seatOnly => 4

def DriveDir.number : DriveDir → Nat
  | .raise => 0
  | .lower => 1

def LastStop.number : LastStop → Nat
  | .none => 0
  | .stoppedByEstop => 1

def BrakeCmd.number : BrakeCmd → Nat
  | .set => 0
  | .release => 1

def BrakeState.number : BrakeState → Nat
  | .set => 0
  | .releasing => 1
  | .released => 2
  | .setting => 3
  | .fault => 4

def BrakeFault.number : BrakeFault → Nat
  | .none => 0
  | .brakeNotReleased => 1
  | .brakeNotSet => 2
  | .brakeDropped => 3

def LockCmd.number : LockCmd → Nat
  | .off => 0
  | .drive => 1
  | .withdraw => 2

def LockState.number : LockState → Nat
  | .driven => 0
  | .withdrawing => 1
  | .withdrawn => 2
  | .driving => 3
  | .interrupted => 4
  | .fault => 5

def LockSequence.number : LockSequence → Nat
  | .none => 0
  | .withdraw => 1
  | .drive => 2

def SeqStep.number : SeqStep → Nat
  | .none => 0
  | .centre => 1
  | .tails => 2

def SeqStatus.number : SeqStatus → Nat
  | .none => 0
  | .running => 1
  | .complete => 2

def VesselClass.number : VesselClass → Nat
  | .emergency => 0
  | .scheduled => 1
  | .ordinary => 2

def VesselState.number : VesselState → Nat
  | .waiting => 0
  | .proceeding => 1
  | .cleared => 2
  | .withdrawn => 3

def GroupState.number : GroupState → Nat
  | .none => 0
  | .awaitingOpen => 1
  | .passing => 2
  | .complete => 3

def ProceedFall.number : ProceedFall → Nat
  | .none => 0
  | .clearanceLost => 1
  | .greenFailed => 2

/-- The blocked reasons, as R206 numbers them. -/
def Blocked.number : Blocked → Nat
  | .none => 0
  | .gap => 1
  | .pierNotReady => 2
  | .greenFailed => 3
  | .estopLatched => 4
  | .consoleLost => 5
  | .leafNotParked => 6
  | .positionUncertain => 7
  | .angleLow => 8

def ChannelAspect.number : ChannelAspect → Nat
  | .red => 0
  | .standby => 1
  | .proceed => 2
  | .outOfService => 3

def MeasureState.number : MeasureState → Nat
  | .firstEdge => 0
  | .timing => 1
  | .calm => 2

def WindLevel.number : WindLevel → Nat
  | .normal => 0
  | .high => 1
  | .stop => 2

/-! ## Variants and small records -/

/-- The hold cause: its enumeration octet and a condition code, 0 when none applies. -/
def encodeCause : HoldCause → List Octet
  | .none => u8 0 ++ u8 0
  | .holdRequest => u8 1 ++ u8 0
  | .estop => u8 2 ++ u8 0
  | .consoleLost => u8 3 ++ u8 0
  | .maintained c => u8 4 ++ u8 c.number
  | .movementShort => u8 5 ++ u8 0

/-- The target of a raise: FULL or an angle. -/
def encodeRaiseTarget : RaiseTarget → List Octet
  | .full => u8 0 ++ u16 0
  | .angle cd => u8 1 ++ u16 cd

/-- The movement order: NONE, RAISE with its target, LOWER, RECOVERY_LOWER (R1). A next movement, which R126 gives as NONE or a
movement kind with its target, is sent in the same four forms (DESIGN CHOICE, assumption log 10). -/
def encodeMovement : Option Movement → List Octet
  | none => u8 0 ++ [0#8, 0#8, 0#8]
  | some (.raise t) => u8 1 ++ encodeRaiseTarget t
  | some .lower => u8 2 ++ [0#8, 0#8, 0#8]
  | some .recoveryLower => u8 3 ++ [0#8, 0#8, 0#8]

/-- The target of a leaf (R126): none, FULL or an angle. -/
def encodeLeafTarget : Option RaiseTarget → List Octet
  | none => u8 0 ++ u16 0
  | some .full => u8 1 ++ u16 0
  | some (.angle cd) => u8 2 ++ u16 cd

def encodeOverride : Override → List Octet
  | .barrier i => u8 0 ++ u8 (barrierNumber i)
  | .complement a => u8 1 ++ u8 (approachNumber a)

def encodePhaseTimer : PhaseTimer → List Octet
  | .idle => timer16 0 0
  | .running ms => timer16 1 ms
  | .runOut => timer16 2 0

/-- A clearance timer: its mode, then its time: CLEAR_MS in FULL, where it is held at it, the time remaining in RUNNING and
otherwise 0 (R87, R206). -/
def encodeClearance (clearMs : Nat) : ClearanceTimer → List Octet
  | .idle => timer16 0 0
  | .full => timer16 1 clearMs
  | .running ms => timer16 2 ms
  | .runOut => timer16 3 0

def encodeTravel : TravelTimer → List Octet
  | .idle => timer16 0 0
  | .running ms => timer16 1 ms
  | .halted ms => timer16 2 ms

/-- A set of fault kinds: two octets, one bit per kind. -/
def encodeKinds (ks : List LeafFault) : List Octet := u16 ((ks.map fun k => 2 ^ k.number).foldl (· + ·) 0)

/-- The first fault kind: NONE, or a kind. -/
def encodeFirst : Option LeafFault → List Octet
  | none => u8 0
  | some k => u8 (k.number + 1)

/-- The certainty: CERTAIN or UNCERTAIN. -/
def encodeCertainty (certain : Bool) : List Octet := u8 (if certain then 0 else 1)

/-- The source of an input (R52). -/
def encodeSource (b : Blocks) (i : Fin 41) : List Octet :=
  if 24 ≤ i.val then u8 1 ++ [0#8, 0#8, 0#8]
  else
    match inputEntryAt b i, inputLink (inputAt i) with
    | some (.position p _ _ _), some l => u8 0 ++ u8 (linkNumber l) ++ u8 (positionChannel p) ++ u8 (positionBit p)
    | some .notFitted, _ => u8 2 ++ [0#8, 0#8, 0#8]
    | _, _ => u8 3 ++ [0#8, 0#8, 0#8]

def encodeVessel (v : Vessel) : List Octet :=
  u16 v.ident ++ u8 (dirNumber v.dir) ++ u16 v.airDraft ++ u8 v.cls.number ++ u16 v.required

/-- A group slot (R166, R206): the form, which is empty, or a vessel WAITING, PROCEEDING, CLEARED or WITHDRAWN, and then the
vessel (DEDUCED: so part 0 of GET_QUEUE fills the 64 octets of a body exactly; assumption log 11). -/
def encodeSlot : Option Slot → List Octet
  | none => u8 0 ++ List.replicate 8 0#8
  | some s => u8 (s.state.number + 1) ++ encodeVessel s.vessel

def encodeGroupTarget : GroupTarget → List Octet
  | .none => u8 0 ++ u16 0
  | .full => u8 1 ++ u16 0
  | .passage cd => u8 2 ++ u16 cd

def encodeOptDir (d : Option Dir) : List Octet := opt8 (d.map dirNumber)

/-- The gap timer: IDLE or RUNNING with an elapsed time of three octets. -/
def encodeGap : Option Nat → List Octet
  | none => u8 0 ++ u24 0
  | some ms => u8 1 ++ u24 ms

/-- The angle of a leaf, unknown while angle known is no (R112). -/
def encodeAngle (b : Blocks) (l : LeafId) : List Octet :=
  optS24 (if (b.leaves.get l).pos.angleKnown then some (leafAngle b l) else none)

/-! ## Records and the fields of replies and reports -/

/-- The SIL record of R1 and then the adoption record of R194: the data of GET_SPAN (R203) and of every SPAN report. R1 lists
the SIL fields for a SPAN report and R196 puts the adoption record in the one of adoption; an ordinary SPAN report carries it
too (DESIGN CHOICE, so that the report has one form: no rule says whether it does; assumption log 10). -/
def spanFields (b : Blocks) : List Octet :=
  let s := b.sil
  u8 s.mode.number ++ u8 s.phase.number ++ flag s.held ++ encodeCause s.cause ++ flag s.latch ++
    flag s.consoleLost ++ encodeMovement s.order ++ listOf encodeOverride s.overrides ++
    optTimer s.adoptTimer ++ u8 s.adoptOutcome.number ++ u8 s.notFresh

/-- The fields of the ROAD report (R87). -/
def roadFields (b : Blocks) : List Octet :=
  let r := b.rsq
  u8 r.phase.number ++ u8 b.slu.aspects.north.number ++ u8 b.slu.aspects.south.number ++ flag r.bells.north ++
    flag r.bells.south ++ u8 r.wait.number ++ u8 r.cause.number ++ u8 r.step.number ++
    encodePhaseTimer r.timer ++ encodeClearance b.par.clearMs r.clearance

/-- GET_ROAD part 0: the RSQ record, the aspects and the bells (R203): the fields of the ROAD report, which hold the approach
aspects and the bells, then exit paused, then the two channel aspects (DESIGN CHOICE of their order; R86, R203, assumption
log 10). -/
def roadPart (b : Blocks) : List Octet :=
  roadFields b ++ flag b.rsq.exitPaused ++ u8 b.nav.aspects.inbound.number ++ u8 b.nav.aspects.outbound.number

/-- A barrier record (R101). -/
def barrierRecord (b : Blocks) (i : BarrierId) : List Octet :=
  let r := b.barriers.get i
  u8 r.command.number ++ u8 r.state.number ++ encodeTravel r.timer ++ u8 r.fault.number

/-- The fields of a BARRIER report (R107): of each switch its value and then its freshness, UP before DOWN (DESIGN CHOICE of
their order; assumption log 10). -/
def barrierFields (b : Blocks) (i : BarrierId) : List Octet :=
  let r := b.barriers.get i
  let up := inputRec b (upSwitch i)
  let down := inputRec b (downSwitch i)
  u8 r.command.number ++ u8 r.state.number ++ u8 r.fault.number ++ encodeTravel r.timer ++ flag up.qualified ++
    u8 up.freshness.number ++ flag down.qualified ++ u8 down.freshness.number ++ flag (barrierOverridden b i)

/-- The generator record (R70, R86). -/
def generatorFields (b : Blocks) : List Octet :=
  flag b.slu.running ++ flag b.slu.phaseB ++ u8 b.slu.residue ++ u16 b.slu.remaining ++ u8 b.par.flashFpm ++
    opt8 b.pend.flashFpm

/-- A lamp command, on or off: R77 lists on first (R206). -/
def encodeLampCommand (on : Bool) : List Octet := u8 (if on then 0 else 1)

/-- A lamp group record (R77, R86). -/
def lampRecord (b : Blocks) (g : Lamp) : List Octet :=
  let r := lampRec b g
  flag r.fitted ++ encodeLampCommand r.command ++ u8 r.state.number ++ u8 r.proofs ++ timer16 r.timer.number r.remaining ++
    flag r.absentSeen

/-- The approach of a red road group. -/
def redApproach : Lamp → Option Approach
  | .redA a => some a
  | .redB a => some a
  | .amber _ => none
  | .red1 _ => none
  | .red2 _ => none
  | .green _ => none

/-- The fields of a LAMP report (R85) after its subject octet, which is the group: the group is not sent twice, and the
current, where present is 1 (DEDUCED; assumption log 10). -/
def lampFields (b : Blocks) (g : Lamp) : List Octet :=
  let r := lampRec b g
  let current := inputRec b (lampInput g)
  u8 r.state.number ++ u8 r.proofs ++ encodeLampCommand r.command ++ flag current.qualified ++ u8 current.freshness.number ++
    (match redApproach g with
     | some a => flag (holdsComplement b a)
     | none => [])

/-- A brake record (R146). -/
def brakeFields (b : Blocks) (l : LeafId) : List Octet :=
  let r := b.brakes.get l
  u8 r.command.number ++ u8 r.state.number ++ optTimer r.timer ++ u8 r.fault.number ++ u8 r.lastFault.number ++
    flag r.mismatch

/-- The fields of a LEAF report: those of R125 in its order, then those of R145 that R125 does not name, then the brake
record of R149, in every LEAF report (DESIGN CHOICE: no rule orders the three lists together; assumption log 10). -/
def leafFields (b : Blocks) (l : LeafId) : List Octet :=
  let r := b.leaves.get l
  u8 r.mot.state.number ++ encodeCertainty r.pos.certain ++ flag r.pos.angleKnown ++ s24 r.pos.position ++
    encodeAngle b l ++ u16 r.win.speed ++ u8 r.win.dir.number ++ encodeFirst r.flt.first ++
    encodeKinds r.flt.kinds ++ u8 r.pos.errorCount ++ u16 r.flt.wrongDir ++ optS24 r.pos.seatCorrection ++
    optS24 r.pos.openLimitPos ++ u8 r.mot.lastStop.number ++ flag r.mot.arrived ++ u8 r.mot.kind.number ++
    encodeLeafTarget r.mot.target ++ u16 r.mot.command ++ brakeFields b l

/-- GET_LEAF part 0: the position, speed window and fault records (R203). The last phase pair, two levels that R206 gives no
form, goes as two flag octets, A and then B, a high level being 1 (DESIGN CHOICE; R108, R125, assumption log 10). -/
def leafPart0 (b : Blocks) (l : LeafId) : List Octet :=
  let r := b.leaves.get l
  s24 r.pos.position ++ encodeCertainty r.pos.certain ++ encodeAngle b l ++ flag r.pos.angleKnown ++
    flag r.pos.phaseA ++ flag r.pos.phaseB ++ u8 r.pos.errorCount ++ optS24 r.pos.seatCorrection ++
    optS24 r.pos.openLimitPos ++
    flag r.win.running ++ u8 r.win.elapsed ++ s24 r.win.net ++ u24 r.win.gross ++ u16 r.win.speed ++
    u8 r.win.dir.number ++ optFlag r.win.stationary ++
    encodeFirst r.flt.first ++ encodeKinds r.flt.kinds ++ optTimer r.flt.stall ++ u16 r.flt.wrongDir

/-- The last update: none, or its five values (R145). -/
def encodeUpdate : Option UpdateRec → List Octet
  | none => u8 0 ++ List.replicate 11 0#8
  | some u => u8 1 ++ s24 u.distance ++ u16 u.zone ++ u16 u.cap ++ u24 u.lead.toNat ++ flag u.trimmed

/-- GET_LEAF part 1: the motion record, the last update, V_CRUISE and ACCEL (R145), of each parameter its active and then its
pending value (DESIGN CHOICE: R145 does not order them; assumption log 10). -/
def leafPart1 (b : Blocks) (l : LeafId) : List Octet :=
  let m := (b.leaves.get l).mot
  u8 m.state.number ++ flag m.arrived ++ u8 m.kind.number ++ encodeLeafTarget m.target ++ optS24 m.targetCounts ++
    u8 m.rule.number ++ flag m.takingPart ++ flag m.arrivalReached ++ encodeMovement m.next ++ u16 m.command ++
    u16 (driveDuty b l) ++ u8 m.driveDir.number ++ flag m.brakeSetAsked ++ u8 m.lastStop.number ++
    encodeUpdate m.lastUpdate ++ u16 b.par.vCruise ++ opt16 b.pend.vCruise ++ u8 b.par.accel ++ opt8 b.pend.accel

/-- A lock record (R150). -/
def lockRecord (b : Blocks) (k : LockId) : List Octet :=
  let r := b.locks.get k
  u8 r.command.number ++ u8 r.state.number ++ encodeTravel r.timer ++ u8 r.fault.number

/-- The sequence record (R150). -/
def sequenceFields (b : Blocks) : List Octet :=
  u8 b.seq.sequence.number ++ u8 b.seq.step.number ++ u8 b.seq.status.number

/-- The fields of a LOCK report (R159). -/
def lockFields (b : Blocks) (k : LockId) : List Octet :=
  let r := b.locks.get k
  u8 r.command.number ++ u8 r.state.number ++ u8 r.fault.number ++ encodeTravel r.timer ++
    flag (made b (.lockDriven k)) ++ flag (made b (.lockWithdrawn k)) ++ sequenceFields b

/-- GET_LOCKS (R159). -/
def locksPart (b : Blocks) : List Octet :=
  (LockId.all.map (lockRecord b)).flatten ++ sequenceFields b ++ (LeafId.all.map (brakeFields b)).flatten

/-- GET_LINK (R49). -/
def linkPart (b : Blocks) (l : Link) : List Octet :=
  let r := b.links.get l
  u8 r.state.number ++ opt8 (r.expected.map BitVec.toNat) ++ u8 r.confirmations ++ u8 r.errors ++
    u16 r.windowFrames ++ u16 r.windowErrors ++ flag r.excess ++ u8 r.huntCause.number ++
    opt8 (r.prevStatus.map BitVec.toNat) ++ u8 r.status.number ++ flag (stationReady b l) ++ u8 r.txNumber.toNat ++
    u8 r.txCodeword.number

/-- The fields of a LINK report, with the window counts it shows (R47). -/
def linkFields (b : Blocks) (l : Link) (frames errors : Nat) : List Octet :=
  let r := b.links.get l
  u8 r.state.number ++ u8 r.huntCause.number ++ u16 frames ++ u16 errors ++ flag r.excess ++ u8 r.status.number

/-- The fields of a STATION report (R48). -/
def stationFields (b : Blocks) (l : Link) : List Octet :=
  u8 (b.links.get l).status.number ++ u8 (b.links.get l).state.number

/-- GET_INPUT (R62). A qualified or candidate value is 1 for occupied and for present, as for made (DEDUCED: R206 names yes, set
and made, and by R51 a bit of 1 stands for each of the three; assumption log 10). -/
def inputPart (b : Blocks) (i : Fin 41) : List Octet :=
  let r := b.iq.recs.get i
  encodeSource b i ++ u8 (debounceCount b i) ++ flag (invertFlag b i) ++ flag (reportFlag b i) ++ flag r.qualified ++
    optFlag r.candidate ++ u8 r.agreement ++ u8 r.freshness.number ++ flag r.pendingFirst ++
    opt16 (r.heldSince.map fun t => b.now - t)

/-- The fields of an INPUT report (R62); occupied and present are 1 (DEDUCED; assumption log 10). -/
def inputFields (b : Blocks) (i : Fin 41) : List Octet :=
  let r := b.iq.recs.get i
  flag r.qualified ++ u8 r.freshness.number ++ encodeSource b i

/-- The fields of a WIND report (R187). -/
def windFields (b : Blocks) : List Octet :=
  let w := b.wmn
  u8 w.measure.number ++ opt24 w.lastPeriod ++ u16 w.wind ++ u16 w.gust ++ u8 w.age ++ u8 w.gustLevel.number ++
    u8 w.alarm.number ++ u8 (if w.sound then 0 else 1) ++ u8 w.run ++ u8 w.implausible

/-- GET_WIND (R187). The period timer, which R180 gives no modes, goes as its time alone, without a mode octet (DESIGN CHOICE:
R206 puts a timer's mode octet before its time; assumption log 10). -/
def windPart (b : Blocks) : List Octet := windFields b ++ u24 b.wmn.period ++ u16 (windCap b)

/-- The effective lower angle and the reported clearance (R162). -/
def clearanceFields (b : Blocks) : List Octet :=
  s24 (effectiveLower b) ++ u16 (reportedClearance b).toNat

/-- The fields of a NAV report (R178). The vessel PROCEEDING in the direction goes as its id alone (DESIGN CHOICE: R178 names
the vessel and R206 not its fields; assumption log 10). -/
def navFields (b : Blocks) (d : Dir) : List Octet :=
  let vessel := (proceedingVessel b.nav).filter fun v => v.dir == d
  u8 (b.nav.aspects.get d).number ++ u8 b.nav.fall.number ++ opt24 (vessel.map Vessel.ident) ++ clearanceFields b

/-- The fields of a PASSAGE report (R178); the slot carries its vessel and the vessel state (R206; assumption log 11). -/
def passageFields (b : Blocks) (slot : Nat) : List Octet :=
  encodeSlot b.nav.slots[slot]? ++ u8 b.nav.group.number ++ encodeGroupTarget b.nav.target ++ u16 b.nav.targetAngle

/-- The fields of a CLEARANCE_LOST report (R178): both leaf states, then both certainties (DESIGN CHOICE: R178 does not order
them; assumption log 10). -/
def clearanceLostFields (b : Blocks) (v : Vessel) (angleLow : Bool) : List Octet :=
  u16 v.ident ++ u8 (dirNumber v.dir) ++ u16 v.required ++ s24 (effectiveLower b) ++
    u8 (leafState b .north).number ++ u8 (leafState b .south).number ++
    encodeCertainty b.leaves.north.pos.certain ++ encodeCertainty b.leaves.south.pos.certain ++
    u8 (if angleLow then 1 else 0)

/-- The gap required by the present candidate, 0 without one (R170, R179). -/
def candidateGap (b : Blocks) : Nat :=
  match candidate b.nav with
  | some v => gapRequired b v.dir
  | none => 0

/-- GET_QUEUE part 0 (R203, R179). -/
def queuePart0 (b : Blocks) : List Octet :=
  let n := b.nav
  u8 (placesInUse n) ++ u8 n.group.number ++ encodeGroupTarget n.target ++ u16 n.targetAngle ++
    ((List.range 4).map fun k => encodeSlot n.slots[k]?).flatten ++ encodeOptDir n.proceedShown ++
    u8 n.fall.number ++ u8 n.blocked.number ++ encodeGap n.gap ++ encodeOptDir n.lastCleared ++
    u24 (candidateGap b) ++ u8 n.aspects.inbound.number ++ u8 n.aspects.outbound.number ++ clearanceFields b

/-- GET_QUEUE part 3 (R203), of each parameter its active and then its pending value (DESIGN CHOICE: R179 and R203 do not order
them; assumption log 10). -/
def queuePart3 (b : Blocks) : List Octet :=
  listOf (fun p => u16 p.1 ++ u16 p.2) b.nav.table ++ flag b.nav.loaded ++ u16 b.par.angleMarginCd ++
    opt16 b.pend.angleMarginCd ++ u24 b.par.followMs ++ opt24 b.pend.followMs ++ u24 b.par.reverseMs ++
    opt24 b.pend.reverseMs

/-- The fields of an ESTOP report (R188). -/
def estopFields (b : Blocks) (leaves : List LeafId) (locks : List LockId) (barriers : List BarrierId) : List Octet :=
  flag b.sil.latch ++ flag (made b .estop) ++ listOf (fun l => u8 (leafNumber l)) leaves ++
    listOf (fun k => u8 (lockNumber k)) locks ++ listOf (fun i => u8 (barrierNumber i)) barriers

/-- The fields of a CONSOLE report (R192). -/
def consoleFields (b : Blocks) : List Octet := flag b.sil.consoleLost ++ u16 b.presRanOut

end Sys2Proof.Machine
end

