-- ==== Sys2Proof/Machine/Requests.lean ====
section
/-! DEFINITION. The requests of the console: the judging of each one when it is taken (R199, R7), its effect and its reply
(R201 to R203, section 12.6). -/

namespace Sys2Proof.Machine

/-! ## Replies -/

/-- The result codes of section 12.6, with the data or the code that follows. -/
inductive Result where
  | ok (data : List Octet)
  | malformed
  | unknownKind
  | wrongMode
  | wrongPhase
  | range
  | notPermitted (c : Cond)
  | queueFull
  | duplicate
  | notFound
  | notRequired
  | airDraftExceeds
  | conflict
  | incomplete (cls number : Nat)
  | notProceeding
  | vesselUnderway
deriving DecidableEq, Repr

/-- A reply body: the result code, then what follows it (R199, R206). -/
def encodeResult : Result → List Octet
  | .ok data => u8 0 ++ data
  | .malformed => u8 1
  | .unknownKind => u8 2
  | .wrongMode => u8 3
  | .wrongPhase => u8 4
  | .range => u8 5
  | .notPermitted c => u8 6 ++ u8 c.number
  | .queueFull => u8 7
  | .duplicate => u8 8
  | .notFound => u8 9
  | .notRequired => u8 10
  | .airDraftExceeds => u8 11
  | .conflict => u8 12
  | .incomplete cls number => u8 13 ++ u8 cls ++ u8 number
  | .notProceeding => u8 14
  | .vesselUnderway => u8 15

/-- What a taking leaves: the blocks, the result, and whether RQ and the overrun count are reset (RESTART and
RECONFIGURE, R199, R204). -/
structure Taken where
  blocks : Blocks
  result : Result
  resets : Bool := false
deriving DecidableEq, Repr

/-- A request that is refused changes nothing. -/
def refuse (r : Result) (b : Blocks) : Taken := { blocks := b, result := r }

/-- A request that is accepted with no data. -/
def accept (b : Blocks) : Taken := { blocks := b, result := .ok [] }

/-- A request taken in one mode only (R2). -/
def inMode (m : Mode) (b : Blocks) (t : Taken) : Taken := if b.sil.mode = m then t else refuse .wrongMode b

/-- An operating request without a body: mode, phase, permit, effect (R7). -/
def operate (body : List Octet) (phase : Bool) (permit : List Cond) (effect : Blocks → Blocks) (b : Blocks) : Taken :=
  if body.length ≠ 0 then refuse .malformed b
  else
    inMode .operate b
      (if phase = false then refuse .wrongPhase b
       else
         match permitFails b permit with
         | some c => refuse (.notPermitted c) b
         | none => accept (effect b))

/-! ## Configuration and information -/

/-- IDENTIFY (R203). -/
def takeIdentify (body : List Octet) (b : Blocks) : Taken :=
  if body.length ≠ 0 then refuse .malformed b
  else
    { blocks := b
      result := .ok (u16 Config.partNumber ++ u8 Config.designRevision ++ u8 b.sil.mode.number ++
        u8 b.sil.phase.number) }

/-- What an accepted write of a parameter does beside storing it (R63, R185). -/
def afterWrite (ident : Nat) (b : Blocks) : Blocks :=
  match ident with
  | 6 => holdWritten b
  | 34 => onWind judgeLevels b
  | 35 => onWind judgeLevels b
  | 36 => onWind judgeLevels b
  | _ => b

/-- An accepted write by class and mode (R202). -/
def writeParam (ident subject v : Nat) (b : Blocks) : Blocks :=
  if paramClass ident = .staged ∧ b.sil.mode = .operate then
    { b with pend := pendingSet b.pend ident (some v) }
  else
    afterWrite ident { b with par := paramSet b.par ident subject v, pend := pendingSet b.pend ident none }

/-- SET_PARAM is refused for its mode (R202, step 2). -/
def paramModeFails (ident : Nat) (m : Mode) : Bool :=
  match m with
  | .config => false
  | .adopt => true
  | .operate => paramClass ident == .configOnly

/-- SET_PARAM with its fields read (R202). -/
def setParam (ident subject : Nat) (v : Int) (b : Blocks) : Taken :=
  if paramNamed ident subject = false then refuse .range b
  else if paramModeFails ident b.sil.mode then refuse .wrongMode b
  else if paramInRange ident v = false then refuse .range b
  else if ident = 18 ∧ b.sil.mode = .operate ∧ v < (b.par.vCreep : Int) then refuse .range b
  else accept (writeParam ident subject v.toNat b)

/-- SET_PARAM (R202). -/
def takeSetParam (body : List Octet) (b : Blocks) : Taken :=
  match body with
  | [ident, subject, v3, v2, v1, v0] => setParam (num ident) (num subject) (signed32 v3 v2 v1 v0) b
  | _ => refuse .malformed b

/-- The data of a GET_PARAM reply: active value, pending flag, pending value. -/
def paramData (ident subject : Nat) (b : Blocks) : List Octet :=
  let p := pendingGet b.pend ident
  u32 (paramGet b.par ident subject) ++ flag p.isSome ++ u32 (p.getD 0)

/-- GET_PARAM (R202). -/
def takeGetParam (body : List Octet) (b : Blocks) : Taken :=
  match body with
  | [ident, subject] =>
    if paramNamed (num ident) (num subject) then
      { blocks := b, result := .ok (paramData (num ident) (num subject) b) }
    else refuse .range b
  | _ => refuse .malformed b

/-- The field input function of a number 1 to 24, as its place in CAT. -/
def fieldIndex (number : Nat) : Option (Fin 24) :=
  if h : 1 ≤ number ∧ number ≤ 24 then some ⟨number - 1, by omega⟩ else none

/-- The function at a place in CAT. -/
def fieldFn (i : Fin 24) : InputFn := inputAt ⟨i.val, by omega⟩

/-- The record of a field input among the 41. -/
def fieldRec (i : Fin 24) : Fin 41 := ⟨i.val, by omega⟩

/-- A receive position is held by the input entry of another function of the link (R65, check 4). -/
def receiveHeld (b : Blocks) (i : Fin 24) (l : Link) (p : Position) : Bool :=
  (List.finRange 24).any fun j =>
    j != i && inputLink (fieldFn j) == some l &&
      (match b.cat.inputs.get j with
       | some (.position q _ _ _) => q == p
       | _ => false)

/-- An accepted assignment or clearing of an input: the record restarts and its report is posted where its flag is set
(R65, R67). -/
def assignEntry (i : Fin 24) (e : Option InputEntry) (b : Blocks) : Blocks :=
  let set := setEntry i e b
  if reportFlag set (fieldRec i) then note (.input (fieldRec i)) set else set

/-- ASSIGN_INPUT in its position form, function read (R65). -/
def assignPosition (i : Fin 24) (link channel bit n flags : Nat) (b : Blocks) : Taken :=
  match linkOf link, positionOf channel bit with
  | some l, some p =>
    if ¬ (1 ≤ n ∧ n ≤ 15) then refuse .range b
    else if inputLink (fieldFn i) ≠ some l then refuse .range b
    else if receiveHeld b i l p then refuse .conflict b
    else accept (assignEntry i (some (.position p n (flags.testBit 0) (flags.testBit 1))) b)
  | _, _ => refuse .range b

/-- ASSIGN_INPUT (R65). -/
def takeAssignInput (body : List Octet) (b : Blocks) : Taken :=
  match body with
  | [fn, form, link, channel, bit, n, flags] =>
    inMode .config b
      (match fieldIndex (num fn), num form with
       | some i, 0 => assignPosition i (num link) (num channel) (num bit) (num n) (num flags) b
       | some i, 1 =>
         if isOptional (fieldFn i) then accept (assignEntry i (some .notFitted) b) else refuse .range b
       | _, _ => refuse .range b)
  | _ => refuse .malformed b

/-- The number of output entries a function holds (R64). -/
def outputCount (b : Blocks) (f : OutputFn) : Nat :=
  (Link.all.map fun l => (b.cat.outputs.get l).toList.countP fun e => e == some f).sum

/-- The table of outputs with one position written. -/
def setOutput (l : Link) (p : Position) (f : Option OutputFn) (b : Blocks) : Blocks :=
  { b with cat := { b.cat with
      outputs := b.cat.outputs.set l ((b.cat.outputs.get l).set p.val f p.isLt) } }

/-- The link a function must lie on allows this one (R66, check 2). -/
def outputLinkAllows (f : OutputFn) (l : Link) : Bool :=
  match outputLink f with
  | none => true
  | some own => own == l

/-- ASSIGN_OUTPUT with its fields read (R66). -/
def assignOutput (f : OutputFn) (l : Link) (p : Position) (b : Blocks) : Taken :=
  if outputLinkAllows f l = false then refuse .range b
  else
    match (b.cat.outputs.get l).get p with
    | some g => if g = f then accept b else refuse .conflict b
    | none => if 4 ≤ outputCount b f then refuse .range b else accept (setOutput l p (some f) b)

/-- ASSIGN_OUTPUT (R66). -/
def takeAssignOutput (body : List Octet) (b : Blocks) : Taken :=
  match body with
  | [fn, link, channel, bit] =>
    inMode .config b
      (match outputOf (num fn), linkOf (num link), positionOf (num channel) (num bit) with
       | some f, some l, some p => assignOutput f l p b
       | _, _, _ => refuse .range b)
  | _ => refuse .malformed b

/-- CLEAR_ASSIGNMENT of an input (R67). -/
def clearInput (number : Nat) (b : Blocks) : Taken :=
  match fieldIndex number with
  | none => refuse .range b
  | some i => if (b.cat.inputs.get i).isNone then refuse .notFound b else accept (assignEntry i none b)

/-- CLEAR_ASSIGNMENT of an output position (R67). -/
def clearOutput (link channel bit : Nat) (b : Blocks) : Taken :=
  match linkOf link, positionOf channel bit with
  | some l, some p =>
    if ((b.cat.outputs.get l).get p).isNone then refuse .notFound b else accept (setOutput l p none b)
  | _, _ => refuse .range b

/-- CLEAR_ASSIGNMENT of the whole table (R67). -/
def clearTable (b : Blocks) : Blocks :=
  let inputs := (List.finRange 24).foldl (fun x i => assignEntry i none x) b
  { inputs with cat := { inputs.cat with
      outputs := ⟨Vector.replicate 60 none, Vector.replicate 60 none, Vector.replicate 60 none⟩ } }

/-- CLEAR_ASSIGNMENT (R67). An octet that its form does not use is ignored, whatever its value (DESIGN CHOICE: section 12.6
gives it as 0 and no rule says what another value does; assumption log 24). -/
def takeClearAssignment (body : List Octet) (b : Blocks) : Taken :=
  match body with
  | [form, x, y, z] =>
    inMode .config b
      (match num form with
       | 0 => clearInput (num x) b
       | 1 => clearOutput (num x) (num y) (num z) b
       | 2 => accept (clearTable b)
       | _ => refuse .range b)
  | _ => refuse .malformed b

/-- The points of a LOAD_CLEARANCE body. -/
def readPoints : List Octet → List (Nat × Nat)
  | a1 :: a0 :: c1 :: c0 :: rest => (num16 a1 a0, num16 c1 c0) :: readPoints rest
  | _ => []

/-- LOAD_CLEARANCE (R160). -/
def takeLoadClearance (body : List Octet) (b : Blocks) : Taken :=
  match body with
  | [] => refuse .malformed b
  | count :: rest =>
    if rest.length ≠ 4 * num count then refuse .malformed b
    else
      inMode .config b
        (if tableAccepted b (readPoints rest) then
           accept { b with nav := { b.nav with table := readPoints rest, loaded := true } }
         else refuse .range b)

/-- A mandatory field input without a position, by number (R68, check 1). -/
def inputMissing (b : Blocks) (i : Fin 24) : Bool :=
  !(isOptional (fieldFn i)) &&
    (match b.cat.inputs.get i with
     | some (.position _ _ _ _) => false
     | some .notFitted => true
     | none => true)

/-- An output function that is mandatory and has no entry (R68, check 2). -/
def outputMissing (b : Blocks) (f : OutputFn) : Bool := outputMandatory f && !(outputFitted b f)

/-- A lamp group whose output and current input do not agree (R68, check 3). -/
def lampInconsistent (b : Blocks) (g : Lamp) : Bool :=
  outputFitted b (lampOutput g) != (sourcePosition b (inputIndex (lampInput g))).isSome

/-- The parameter cross-checks of R4 that fail, by number. -/
def crossCheckFails (p : Params) (number : Nat) : Bool :=
  match number with
  | 1 => decide (p.vCruise < p.vCreep)
  | 2 => decide (p.skewLimitCd ≤ p.skewTrimCd)
  | 3 => decide (p.wStopDms ≤ p.wKneeDms)
  | 4 => decide (p.wKneeDms ≤ p.wHystDms)
  | _ => false

/-- The first failing item of CONFIG_DONE: its class and number (R4, R68, R201). -/
def firstIncomplete (b : Blocks) : Option (Nat × Nat) :=
  let inputs := ((List.finRange 24).find? (inputMissing b)).map fun i => (0, i.val + 1)
  let outputs := ((List.range 22).find? fun k => (outputOf (k + 1)).any (outputMissing b)).map fun k => (1, k + 1)
  let lamps := (lampGroups.find? (lampInconsistent b)).map fun g => (2, (lampIndex g).val)
  let table := if tableFits b then none else some (3, 0)
  let checks := ([1, 2, 3, 4].find? (crossCheckFails b.par)).map fun k => (4, k)
  inputs.or (outputs.or (lamps.or (table.or checks)))

/-- CONFIG_DONE (R4). -/
def takeConfigDone (body : List Octet) (b : Blocks) : Taken :=
  if body.length ≠ 0 then refuse .malformed b
  else
    inMode .config b
      (match firstIncomplete b with
       | some (cls, number) => refuse (.incomplete cls number) b
       | none => accept (enterAdopt b))

/-- RECONFIGURE (R6). -/
def takeReconfigure (body : List Octet) (b : Blocks) : Taken :=
  if body.length ≠ 0 then refuse .malformed b
  else
    inMode .operate b
      (if b.sil.phase ≠ .traffic then refuse .wrongPhase b
       else if motionInProgress b then refuse (.notPermitted .motionInProgress) b
       else { blocks := reconfigure b, result := .ok [], resets := true })

/-- RESTART (R5). -/
def takeRestart (body : List Octet) (b : Blocks) : Taken :=
  if body.length ≠ 0 then refuse .malformed b
  else
    inMode .operate b
      (if motionInProgress b then refuse (.notPermitted .motionInProgress) b
       else { blocks := restart b, result := .ok [], resets := true })

/-! ## Operation -/

/-- ROAD_CLOSE's phases (R8). -/
def closePhase (b : Blocks) : Bool :=
  match b.sil.phase with
  | .traffic => true
  | .recovery => !(closureRunning b.rsq.phase) && b.rsq.phase != .roadClosed
  | _ => false

/-- An accepted ROAD_CLOSE (R9). -/
def closeRoad (b : Blocks) : Blocks :=
  if b.sil.phase = .recovery then closeFromAlert b
  else if b.rsq.phase = .roadOpen then enterAmber (setPhase .closing b)
  else closeFromAlert (setPhase .closing b)

/-- ROAD_CLOSE (R9). -/
def takeRoadClose (body : List Octet) (b : Blocks) : Taken := operate body (closePhase b) permitClose closeRoad b

/-- ROAD_OPEN's phases (R8). -/
def openPhase (b : Blocks) : Bool :=
  match b.sil.phase with
  | .closing => true
  | .closed => true
  | .traffic => b.rsq.phase == .alert
  | _ => false

/-- The road returns from ALERT to ROAD_OPEN; no barrier command is issued (R97), and the overrides go (R25). -/
def leaveAlert (b : Blocks) : Blocks :=
  showPhase .roadOpen .none { b with sil := { b.sil with overrides := [] } }

/-- An accepted ROAD_OPEN (R10). -/
def openRoad (b : Blocks) : Blocks :=
  if b.sil.phase = .traffic then leaveAlert b
  else if b.sil.phase = .closing then abandonClosure (setPhase .reopening b)
  else enterPhase .exitRaising (setPhase .reopening b)

/-- ROAD_OPEN (R10). -/
def takeRoadOpen (body : List Octet) (b : Blocks) : Taken := operate body (openPhase b) permitRoadOpen openRoad b

/-- An accepted LOCKS_WITHDRAW (R11). -/
def withdrawLocks (b : Blocks) : Blocks :=
  advanceSequence (startSequence .withdraw (if b.sil.phase = .closed then setPhase .unlocking b else b))

/-- LOCKS_WITHDRAW (R11). -/
def takeLocksWithdraw (body : List Octet) (b : Blocks) : Taken :=
  operate body (b.sil.phase == .closed || b.sil.phase == .recovery) permitUnlock withdrawLocks b

/-- LOCKS_DRIVE's phases (R8). -/
def drivePhase (p : SpanPhase) : Bool :=
  match p with
  | .unlocking | .unlocked | .seated | .recovery => true
  | .traffic | .closing | .closed | .raising | .opened | .lowering | .locking | .reopening => false

/-- An accepted LOCKS_DRIVE (R11). -/
def driveLocks (b : Blocks) : Blocks :=
  advanceSequence
    (if b.sil.phase = .unlocking then reverseSequence (setPhase .locking b)
     else if b.sil.phase = .recovery then startSequence .drive b
     else startSequence .drive (setPhase .locking b))

/-- LOCKS_DRIVE (R11). -/
def takeLocksDrive (body : List Octet) (b : Blocks) : Taken :=
  operate body (drivePhase b.sil.phase) (permitLock b) driveLocks b

/-- LEAVES_RAISE's phases (R8). -/
def raisePhase (b : Blocks) : Bool :=
  match b.sil.phase with
  | .unlocked => true
  | .opened => b.nav.group == .complete
  | _ => false

/-- LEAVES_RAISE with its target read (R12). -/
def raiseTo (target : Nat) (b : Blocks) : Taken :=
  if 2 ≤ target then refuse .range b
  else
    match permitFails b (permitRaise (target == 1)) with
    | some c => refuse (.notPermitted c) b
    | none => accept (raiseLeaves (target == 1) b)

/-- LEAVES_RAISE (R12). -/
def takeLeavesRaise (body : List Octet) (b : Blocks) : Taken :=
  match body with
  | [target] =>
    inMode .operate b (if raisePhase b = false then refuse .wrongPhase b else raiseTo (num target) b)
  | _ => refuse .malformed b

/-- LEAVES_LOWER (R13). -/
def takeLeavesLower (body : List Octet) (b : Blocks) : Taken :=
  operate body (b.sil.phase == .raising || b.sil.phase == .opened) permitLower lowerLeaves b

/-- A leaf is UNCERTAIN and not SEATED (R8). -/
def recoveryNeeded (b : Blocks) : Bool :=
  anyLeaf fun l => !(b.leaves.get l).pos.certain && leafState b l != .seated

/-- RECOVERY_LOWER (R15). -/
def takeRecoveryLower (body : List Octet) (b : Blocks) : Taken :=
  operate body ((b.sil.phase == .recovery || b.sil.phase == .unlocked) && recoveryNeeded b) permitRecovery
    recoveryLowerLeaves b

/-- MOTION_HOLD (R22). -/
def takeMotionHold (body : List Octet) (b : Blocks) : Taken :=
  operate body (motionRunning b || b.sil.held) [] holdMotion b

/-- MOTION_RESUME (R23). -/
def takeMotionResume (body : List Octet) (b : Blocks) : Taken :=
  operate body b.sil.held (permitResume b) resumeMotion b

/-- ESTOP_RESET (R190). The ESTOP report of the clearing lists no leaves, locks or barriers (DESIGN CHOICE: R188 lists those that
a setting stopped, and no rule says what the report of a clearing lists; assumption log 10). -/
def takeEstopReset (body : List Octet) (b : Blocks) : Taken :=
  if body.length ≠ 0 then refuse .malformed b
  else
    inMode .operate b
      (if b.sil.latch then
         if made b .estop then accept (note (.estop [] [] []) { b with sil := { b.sil with latch := false } })
         else refuse (.notPermitted .estopLatched) b
       else accept b)

/-! ## FAULT_CLEAR -/

/-- A leaf leaves FAULT (R124). A leaf that becomes SEATED keeps its arrived flag (DESIGN CHOICE: R124 unsets arrived for PARKED
alone; assumption log 42). -/
def clearLeaf (l : LeafId) (b : Blocks) : Blocks :=
  let r := b.leaves.get l
  let cleared : LeafRec := { r with flt := { r.flt with first := none, kinds := [] } }
  if made b (.seated l) then
    setLeaf l { cleared with mot := { r.mot with state := .seated }, win := r.win.abandon } b
  else setLeaf l { cleared with mot := { r.mot with state := .parked, arrived := false } } b

/-- The first failing check of FAULT_CLEAR on a leaf in FAULT (R124, checks 3 to 5). -/
def leafClearFails (b : Blocks) (l : LeafId) : Option Cond :=
  let r := b.leaves.get l
  if r.flt.kinds.contains .driveNotReady ∧ made b (.driveReady l) = false then some .driveNotReady
  else if r.flt.kinds.contains .overtravel ∧ made b (.overtravel l) = true then some .leafFault
  else if r.win.stationary ≠ some true ∨ (b.brakes.get l).state ≠ .set then some .leafFault
  else none

/-- FAULT_CLEAR with a leaf subject (R124). -/
def faultClearLeaf (subject : Nat) (b : Blocks) : Taken :=
  match leafOf subject with
  | none => refuse .range b
  | some l =>
    if leafState b l ≠ .fault then refuse .notFound b
    else
      match leafClearFails b l with
      | some c => refuse (.notPermitted c) b
      | none => accept (clearLeaf l b)

/-- FAULT_CLEAR with a lock subject (R158). -/
def faultClearLock (subject : Nat) (b : Blocks) : Taken :=
  match lockOf subject with
  | none => refuse .range b
  | some k =>
    if b.sil.latch then refuse (.notPermitted .estopLatched) b
    else if (b.locks.get k).state ≠ .fault then refuse .notFound b
    else if lockShows b k = .conflict then
      refuse (.notPermitted (if (b.locks.get k).command = .withdraw then .locksNotWithdrawn else .locksNotDriven)) b
    else accept (advanceSequence (clearLock k b))

/-- FAULT_CLEAR with a barrier subject (R106). -/
def faultClearBarrier (subject : Nat) (b : Blocks) : Taken :=
  match barrierOf subject with
  | none => refuse .range b
  | some i =>
    if b.sil.latch then refuse (.notPermitted .estopLatched) b
    else if (b.barriers.get i).state ≠ .fault then refuse .notFound b
    else if barrierConsistent b i = false then refuse (.notPermitted .barrierNotProven) b
    else accept (clearBarrier i b)

/-- FAULT_CLEAR, by its subject class (section 12.6). -/
def takeFaultClear (body : List Octet) (b : Blocks) : Taken :=
  match body with
  | [cls, subject] =>
    inMode .operate b
      (match num cls with
       | 0 => faultClearLeaf (num subject) b
       | 1 => faultClearLock (num subject) b
       | 2 => faultClearBarrier (num subject) b
       | _ => refuse .range b)
  | _ => refuse .malformed b

/-! ## Overrides (R24, R25) -/

/-- The override entry that a kind and a subject name. -/
def overrideOf (kind subject : Nat) : Option Override :=
  match kind with
  | 0 => (barrierOf subject).map Override.barrier
  | 1 => (approachOf subject).map Override.complement
  | _ => none

/-- The requirement of a grant (R24, check 3). -/
def overrideApplies (b : Blocks) : Override → Bool
  | .barrier i =>
    b.rsq.phase != .roadOpen && ((b.barriers.get i).state == .fault || (b.barriers.get i).state == .unproven)
  | .complement a => !(holdsComplement b a)

def setOverrides (os : List Override) (b : Blocks) : Blocks := { b with sil := { b.sil with overrides := os } }

/-- A grant or a revocation writes the table and posts a SPAN report (R1, R24, R25). It is noted here, so the report is
posted too where `dropOverrides` removes the granted entry again in the same event. -/
def changeOverrides (os : List Override) (b : Blocks) : Blocks := note .span (setOverrides os b)

/-- OVERRIDE_GRANT (R24). -/
def takeOverrideGrant (body : List Octet) (b : Blocks) : Taken :=
  match body with
  | [kind, subject] =>
    inMode .operate b
      (match overrideOf (num kind) (num subject) with
       | none => refuse .range b
       | some o =>
         if b.sil.overrides.contains o then refuse .duplicate b
         else if overrideApplies b o = false then refuse (.notPermitted .overrideNotApplicable) b
         else accept (changeOverrides (b.sil.overrides ++ [o]) b))
  | _ => refuse .malformed b

/-- OVERRIDE_REVOKE (R25). -/
def takeOverrideRevoke (body : List Octet) (b : Blocks) : Taken :=
  match body with
  | [kind, subject] =>
    inMode .operate b
      (match overrideOf (num kind) (num subject) with
       | none => refuse .range b
       | some o =>
         if b.sil.overrides.contains o then accept (changeOverrides (b.sil.overrides.filter fun x => x != o) b)
         else refuse .notFound b)
  | _ => refuse .malformed b

/-! ## Passage -/

def classOf : Nat → Option VesselClass
  | 0 => some .emergency
  | 1 => some .scheduled
  | 2 => some .ordinary
  | _ => none

/-- The vessel ids that NAV holds (R164, check 2). -/
def vesselHeld (n : Nav) (id : Nat) : Bool :=
  (n.queue.any fun v => v.ident == id) || n.slots.any fun s => s.vessel.ident == id

/-- The data of the reply to an accepted VESSEL_ADD: required angle, destination and position. -/
def addData (required destination position : Nat) : List Octet := u16 required ++ u8 destination ++ u8 position

/-- The place of a vessel in queue order, counted from 1. -/
def queuePlace (id : Nat) : List Vessel → Nat
  | [] => 0
  | v :: rest => if v.ident = id then 1 else queuePlace id rest + 1

/-- An accepted VESSEL_ADD (R164, R169). -/
def addVessel (v : Vessel) (b : Blocks) : Taken :=
  if joinsLate b v.required then
    { blocks := { b with nav := { b.nav with slots := b.nav.slots ++ [{ vessel := v, state := .waiting }] } }
      result := .ok (addData v.required 1 b.nav.slots.length) }
  else
    let queue := insertVessel v b.nav.queue
    { blocks := { b with nav := { b.nav with queue := queue } }
      result := .ok (addData v.required 0 (queuePlace v.ident queue)) }

/-- VESSEL_ADD with its direction and class read (R164, checks 2 to 5). -/
def judgeVessel (id : Nat) (d : Dir) (draft : Nat) (c : VesselClass) (b : Blocks) : Taken :=
  if vesselHeld b.nav id then refuse .duplicate b
  else if draft ≤ closedClearance b.nav.table then refuse .notRequired b
  else if fullClearance b.nav.table < draft then refuse .airDraftExceeds b
  else if 12 ≤ placesInUse b.nav then refuse .queueFull b
  else
    addVessel { ident := id, dir := d, airDraft := draft, cls := c, required := requiredAngle b.nav.table draft } b

/-- VESSEL_ADD (R164). -/
def takeVesselAdd (body : List Octet) (b : Blocks) : Taken :=
  match body with
  | [i1, i0, d, h1, h0, c] =>
    inMode .operate b
      (match dirOf (num d), classOf (num c) with
       | some dir, some cls =>
         if num16 i1 i0 = 0 ∨ 6000 < num16 h1 h0 then refuse .range b
         else judgeVessel (num16 i1 i0) dir (num16 h1 h0) cls b
       | _, _ => refuse .range b)
  | _ => refuse .malformed b

/-- The state of the group vessel with an id. -/
def slotState (n : Nav) (id : Nat) : Option VesselState := (n.slots.find? fun s => s.vessel.ident == id).map Slot.state

/-- VESSEL_WITHDRAW with its id read (R165). -/
def withdrawVessel (id : Nat) (b : Blocks) : Taken :=
  if id = 0 then refuse .range b
  else if b.nav.queue.any fun v => v.ident == id then
    accept { b with nav := { b.nav with queue := b.nav.queue.filter fun v => v.ident != id } }
  else
    match slotState b.nav id with
    | some .waiting => accept { b with nav := setVessel id .withdrawn b.nav }
    | some .proceeding => refuse .vesselUnderway b
    | some .cleared => refuse .notFound b
    | some .withdrawn => refuse .notFound b
    | none => refuse .notFound b

/-- VESSEL_WITHDRAW (R165). -/
def takeVesselWithdraw (body : List Octet) (b : Blocks) : Taken :=
  match body with
  | [i1, i0] => inMode .operate b (withdrawVessel (num16 i1 i0) b)
  | _ => refuse .malformed b

/-- VESSEL_CLEARED with its id read (R172). -/
def vesselPassed (id : Nat) (b : Blocks) : Taken :=
  if id = 0 then refuse .range b
  else
    match proceedingVessel b.nav with
    | some v => if v.ident = id then accept (clearVessel v b) else refuse .notProceeding b
    | none => refuse .notProceeding b

/-- VESSEL_CLEARED (R172). -/
def takeVesselCleared (body : List Octet) (b : Blocks) : Taken :=
  match body with
  | [i1, i0] => inMode .operate b (vesselPassed (num16 i1 i0) b)
  | _ => refuse .malformed b

/-! ## Queries (R203) -/

/-- The data of a query reply: part number, part count, fields. -/
def queryData (part count : Nat) (fields : List Octet) : List Octet := u8 part ++ u8 count ++ fields

/-- A query judged by its subject and its part; `parts` lists the fields of each part. -/
def answerQuery (body : List Octet) (parts : Nat → Option (List (List Octet))) (b : Blocks) : Taken :=
  match body with
  | [subject, part] =>
    match parts (num subject) with
    | none => refuse .range b
    | some ps =>
      match ps[num part]? with
      | none => refuse .range b
      | some fields => { blocks := b, result := .ok (queryData (num part) ps.length fields) }
  | _ => refuse .malformed b

/-- The parts of a query whose only subject is 0. -/
def onlyZero (ps : List (List Octet)) (subject : Nat) : Option (List (List Octet)) :=
  if subject = 0 then some ps else none

/-- GET_SPAN. -/
def takeGetSpan (body : List Octet) (b : Blocks) : Taken := answerQuery body (onlyZero [spanFields b]) b

/-- GET_ROAD. -/
def takeGetRoad (body : List Octet) (b : Blocks) : Taken :=
  answerQuery body
    (onlyZero
      [roadPart b, (BarrierId.all.map (barrierRecord b)).flatten,
       generatorFields b ++ ((lampGroups.take 6).map (lampRecord b)).flatten,
       ((lampGroups.drop 6).map (lampRecord b)).flatten]) b

/-- GET_LEAF. -/
def takeGetLeaf (body : List Octet) (b : Blocks) : Taken :=
  answerQuery body (fun s => (leafOf s).map fun l => [leafPart0 b l, leafPart1 b l]) b

/-- GET_LOCKS. -/
def takeGetLocks (body : List Octet) (b : Blocks) : Taken := answerQuery body (onlyZero [locksPart b]) b

/-- GET_LINK. -/
def takeGetLink (body : List Octet) (b : Blocks) : Taken :=
  answerQuery body (fun s => (linkOf s).map fun l => [linkPart b l]) b

/-- The record of an input function number 1 to 41. -/
def inputNumbered (number : Nat) : Option (Fin 41) :=
  if h : 1 ≤ number ∧ number ≤ 41 then some ⟨number - 1, by omega⟩ else none

/-- GET_INPUT. -/
def takeGetInput (body : List Octet) (b : Blocks) : Taken :=
  answerQuery body (fun s => (inputNumbered s).map fun i => [inputPart b i]) b

/-- GET_QUEUE. -/
def takeGetQueue (body : List Octet) (b : Blocks) : Taken :=
  answerQuery body
    (onlyZero
      [queuePart0 b, listOf encodeVessel (b.nav.queue.take 6), listOf encodeVessel ((b.nav.queue.drop 6).take 6),
       queuePart3 b]) b

/-- GET_WIND. -/
def takeGetWind (body : List Octet) (b : Blocks) : Taken := answerQuery body (onlyZero [windPart b]) b

/-- PRESENCE: OK with no data (R203). -/
def takePresence (body : List Octet) (b : Blocks) : Taken :=
  match body with
  | [subject, part] => if num subject = 0 ∧ num part = 0 then accept b else refuse .range b
  | _ => refuse .malformed b

/-! ## Every kind -/

/-- The taking of a valid frame, by its kind (R199, section 12.6). -/
def takeRequest (f : Frame) (b : Blocks) : Taken :=
  match f.kind.toNat with
  | 0x01 => takeIdentify f.body b
  | 0x02 => takeSetParam f.body b
  | 0x03 => takeGetParam f.body b
  | 0x04 => takeAssignInput f.body b
  | 0x05 => takeAssignOutput f.body b
  | 0x06 => takeClearAssignment f.body b
  | 0x07 => takeLoadClearance f.body b
  | 0x08 => takeConfigDone f.body b
  | 0x09 => takeReconfigure f.body b
  | 0x0A => takeRestart f.body b
  | 0x10 => takeRoadClose f.body b
  | 0x11 => takeRoadOpen f.body b
  | 0x12 => takeLocksWithdraw f.body b
  | 0x13 => takeLocksDrive f.body b
  | 0x14 => takeLeavesRaise f.body b
  | 0x15 => takeLeavesLower f.body b
  | 0x16 => takeRecoveryLower f.body b
  | 0x17 => takeMotionHold f.body b
  | 0x18 => takeMotionResume f.body b
  | 0x19 => takeEstopReset f.body b
  | 0x1A => takeFaultClear f.body b
  | 0x1B => takeOverrideGrant f.body b
  | 0x1C => takeOverrideRevoke f.body b
  | 0x20 => takeVesselAdd f.body b
  | 0x21 => takeVesselWithdraw f.body b
  | 0x22 => takeVesselCleared f.body b
  | 0x30 => takeGetSpan f.body b
  | 0x31 => takeGetRoad f.body b
  | 0x32 => takeGetLeaf f.body b
  | 0x33 => takeGetLocks f.body b
  | 0x34 => takeGetLink f.body b
  | 0x35 => takeGetInput f.body b
  | 0x36 => takeGetQueue f.body b
  | 0x37 => takeGetWind f.body b
  | 0x38 => takePresence f.body b
  | _ => refuse .unknownKind b

/-- The kind of a reply: the request kind + 0x80, or 0xFF for an unknown kind (R199). -/
def replyKind (kind : Octet) : Result → Octet
  | .unknownKind => 0xFF#8
  | _ => kind + 0x80#8

/-- The reply frame of a request (R199). -/
def replyFrame (f : Frame) (r : Result) : Frame := { kind := replyKind f.kind r, tag := f.tag, body := encodeResult r }

end Sys2Proof.Machine
end

