-- ==== Sys2Proof/Machine/Console.lean ====
section
/-! DEFINITION. The console port and the report queue: reception (R198), taking (R199), the transmitter (R200), the reports
an event posts (R204) and the running of one event. -/

namespace Sys2Proof.Machine

/-! ## Report kinds (R204) -/

def ReportKind.number : ReportKind → Nat
  | .estop => 0
  | .clearanceLost => 1
  | .leaf => 2
  | .span => 3
  | .road => 4
  | .barrier => 5
  | .lock => 6
  | .nav => 7
  | .passage => 8
  | .console => 9
  | .link => 10
  | .station => 11
  | .lamp => 12
  | .wind => 13
  | .input => 14
  | .port => 15

/-- The priority of a report kind (R204). -/
def reportPriority : ReportKind → Nat
  | .estop => 0
  | .clearanceLost => 0
  | .leaf => 0
  | .span => 1
  | .road => 1
  | .barrier => 1
  | .lock => 1
  | .nav => 1
  | .passage => 1
  | .console => 2
  | .link => 2
  | .station => 2
  | .lamp => 2
  | .wind => 2
  | .input => 3
  | .port => 3

/-- A posting: its key and its content. -/
structure Posting where
  kind : ReportKind
  subject : Nat
  body : List Octet
deriving DecidableEq, Repr

/-- Whether an entry stands under a key. -/
def Entry.hasKey (e : Entry) (kind : ReportKind) (subject : Nat) : Bool := e.kind == kind && e.subject == subject

/-- An entry posted again: new content, count saturating at 255. -/
def Entry.again (e : Entry) (body : List Octet) : Entry := { e with body := body, count := min (e.count + 1) 255 }

/-- One posting (R204). -/
def post (rq : List Entry) (p : Posting) : List Entry :=
  if rq.any fun e => e.hasKey p.kind p.subject then
    rq.map fun e => if e.hasKey p.kind p.subject then e.again p.body else e
  else rq ++ [{ kind := p.kind, subject := p.subject, count := 1, body := p.body }]

/-! ## What an event posts -/

/-- A posting made on a condition. -/
def postIf (c : Bool) (p : Posting) : List Posting := if c then [p] else []

/-- The ESTOP posting of the event's notes: the last one stands. -/
def estopPosting (b : Blocks) : List Posting :=
  (b.notes.filterMap fun n =>
    match n with
    | .estop leaves locks barriers =>
      some ({ kind := .estop, subject := 0, body := estopFields b leaves locks barriers } : Posting)
    | _ => none).getLast?.toList

/-- The CLEARANCE_LOST posting of the event's notes. -/
def clearanceLostPosting (b : Blocks) : List Posting :=
  (b.notes.filterMap fun n =>
    match n with
    | .clearanceLost v low =>
      some ({ kind := .clearanceLost, subject := 0, body := clearanceLostFields b v low } : Posting)
    | _ => none).getLast?.toList

/-- The events of R125, R127 and R149 for a leaf. -/
def leafChanged (s0 b : Blocks) (l : LeafId) : Bool := leafMoved s0 b l || b.notes.contains (.leaf l)

def leafPosting (s0 b : Blocks) (l : LeafId) : List Posting :=
  postIf (leafChanged s0 b l) { kind := .leaf, subject := leafNumber l, body := leafFields b l }

/-- The changes that post a SPAN report (R1, R188 to R193); a completion, MOTION_RESUME and a grant or
revocation of an override are noted, whatever the event goes on to change back (R14, R23, R24, R25; assumption log 9). -/
def spanChanged (s0 b : Blocks) : Bool :=
  let x := s0.sil
  let y := b.sil
  x.mode != y.mode || x.phase != y.phase || x.held != y.held || x.cause != y.cause ||
    x.overrides != y.overrides || x.latch != y.latch || x.consoleLost != y.consoleLost || b.notes.contains .span

def spanPosting (s0 b : Blocks) : List Posting :=
  postIf (spanChanged s0 b) { kind := .span, subject := 0, body := spanFields b }

/-- The changes that post a ROAD report (R87). -/
def roadChanged (s0 b : Blocks) : Bool :=
  s0.rsq.phase != b.rsq.phase || s0.rsq.wait != b.rsq.wait || s0.rsq.cause != b.rsq.cause || b.notes.contains .road

def roadPosting (s0 b : Blocks) : List Posting :=
  postIf (roadChanged s0 b) { kind := .road, subject := 0, body := roadFields b }

/-- The changes that post a BARRIER report (R107). -/
def barrierPosting (s0 b : Blocks) (i : BarrierId) : List Posting :=
  postIf ((s0.barriers.get i).state != (b.barriers.get i).state || (s0.barriers.get i).fault != (b.barriers.get i).fault)
    { kind := .barrier, subject := barrierNumber i, body := barrierFields b i }

/-- A change of a lock's state, command or fault kind (R159). -/
def lockRecordChanged (s0 b : Blocks) (k : LockId) : Bool :=
  let x := s0.locks.get k
  let y := b.locks.get k
  x.state != y.state || x.command != y.command || x.fault != y.fault

/-- A change of the sequence record alone: no lock record changed in the event (R159). -/
def sequenceChangedAlone (s0 b : Blocks) : Bool :=
  (s0.seq != b.seq || b.notes.contains (.lock .centre)) && LockId.all.all fun k => !lockRecordChanged s0 b k

/-- The changes that post a LOCK report: the CENTRE key also stands for the sequence record alone (R159). -/
def lockChanged (s0 b : Blocks) (k : LockId) : Bool :=
  lockRecordChanged s0 b k || (k == .centre && sequenceChangedAlone s0 b)

def lockPosting (s0 b : Blocks) (k : LockId) : List Posting :=
  postIf (lockChanged s0 b k) { kind := .lock, subject := lockNumber k, body := lockFields b k }

/-- The changes that post a NAV report (R178). -/
def navPosting (s0 b : Blocks) (d : Dir) : List Posting :=
  postIf (s0.nav.aspects.get d != b.nav.aspects.get d || b.notes.contains (.nav d))
    { kind := .nav, subject := dirNumber d, body := navFields b d }

/-- The changes that post a PASSAGE report (R178): slot 0 also stands for the group state. -/
def passagePosting (s0 b : Blocks) (k : Nat) : List Posting :=
  postIf (s0.nav.slots[k]? != b.nav.slots[k]? || (k == 0 && s0.nav.group != b.nav.group) ||
      b.notes.contains (.passage k))
    { kind := .passage, subject := k, body := passageFields b k }

/-- The events that post a CONSOLE report (R192, R193). -/
def consolePosting (b : Blocks) : List Posting :=
  postIf (b.notes.contains .console) { kind := .console, subject := 0, body := consoleFields b }

/-- The window counts that a link's note carries. -/
def linkNote (b : Blocks) (l : Link) : Option (Nat × Nat) :=
  (b.notes.filterMap fun n =>
    match n with
    | .link k frames errors => if k = l then some (frames, errors) else none
    | _ => none).getLast?

/-- The events that post a LINK report (R47, R50). -/
def linkPosting (s0 b : Blocks) (l : Link) : List Posting :=
  match linkNote b l with
  | some (frames, errors) => [{ kind := .link, subject := linkNumber l, body := linkFields b l frames errors }]
  | none =>
    let r := b.links.get l
    postIf ((s0.links.get l).state != r.state)
      { kind := .link, subject := linkNumber l, body := linkFields b l r.windowFrames r.windowErrors }

/-- The changes that post a STATION report (R48). -/
def stationPosting (s0 b : Blocks) (l : Link) : List Posting :=
  postIf ((s0.links.get l).status != (b.links.get l).status)
    { kind := .station, subject := linkNumber l, body := stationFields b l }

/-- The changes that post a LAMP report (R85). A group's return to UNTESTED at RESTART or RECONFIGURE posts none, since the
same reset leaves the group unfitted (DESIGN CHOICE: R77 and R85 do not say which comes first; assumption log 9). -/
def lampPosting (s0 b : Blocks) (g : Lamp) : List Posting :=
  postIf ((lampRec b g).fitted && (lampRec s0 g).state != (lampRec b g).state)
    { kind := .lamp, subject := (lampIndex g).val, body := lampFields b g }

/-- The changes that post a WIND report (R187). -/
def windPosting (s0 b : Blocks) : List Posting :=
  postIf (s0.wmn.alarm != b.wmn.alarm || s0.wmn.sound != b.wmn.sound)
    { kind := .wind, subject := 0, body := windFields b }

/-- The changes that post an INPUT report (R62), and the restarts of R65 and R67. -/
def inputChanged (s0 b : Blocks) (i : Fin 41) : Bool :=
  let x := s0.iq.recs.get i
  let y := b.iq.recs.get i
  ((x.qualified != y.qualified || x.freshness != y.freshness) && reportFlag b i) || b.notes.contains (.input i)

def inputPosting (s0 b : Blocks) (i : Fin 41) : List Posting :=
  postIf (inputChanged s0 b i) { kind := .input, subject := i.val + 1, body := inputFields b i }

/-- The postings of an event that began with `s0` and ends with `b`, each key once. The rule that posts both the PASSAGE and
the NAV reports posts them in this order (R172, R174, R178); for the reports of different blocks R204 leaves the order
open, and the model takes its table's (assumption log 8). -/
def eventPostings (s0 b : Blocks) : List Posting :=
  List.flatten
    [estopPosting b, clearanceLostPosting b, (LeafId.all.map (leafPosting s0 b)).flatten, spanPosting s0 b,
     roadPosting s0 b, (BarrierId.all.map (barrierPosting s0 b)).flatten, (LockId.all.map (lockPosting s0 b)).flatten,
     ((List.range 4).map (passagePosting s0 b)).flatten, (Dir.all.map (navPosting s0 b)).flatten, consolePosting b,
     (Link.all.map (linkPosting s0 b)).flatten, (Link.all.map (stationPosting s0 b)).flatten,
     (lampGroups.map (lampPosting s0 b)).flatten, windPosting s0 b,
     ((List.finRange 41).map (inputPosting s0 b)).flatten]

/-! ## One event -/

/-- An event under way: the blocks it began with, the blocks, port and queue as they stand, and whether a frame was
discarded for overrun. -/
structure Event where
  base : Blocks
  blocks : Blocks
  cpt : Cpt
  rq : List Entry
  port : Bool
deriving DecidableEq, Repr

/-- An event begins, with the port as it stands. -/
def beginEvent (s : State) (cpt : Cpt) : Event :=
  { base := s.blocks, blocks := s.blocks, cpt := cpt, rq := s.rq, port := false }

/-- What follows by itself in the blocks. -/
def Event.settled (e : Event) : Event := { e with blocks := settle e.base e.blocks }

/-- The request at the head of the receive buffer is taken, where the reply list has room (R199). RESTART and RECONFIGURE
empty RQ and reset the overrun count, and reports follow from the change of the records at that taking; the input records
are set without a publication (R52). -/
def takeHead (e : Event) : Event :=
  match e.cpt.buffer with
  | [] => e
  | f :: rest =>
    if e.cpt.replies.length < Config.replyCapacity then
      let t := takeRequest f e.blocks
      let cpt := { e.cpt with buffer := rest, replies := e.cpt.replies ++ [replyFrame f t.result] }
      if t.resets then
        ({ base := { e.blocks with iq := t.blocks.iq, notes := [] }
           blocks := t.blocks
           cpt := { cpt with overrun := 0 }
           rq := []
           port := false } : Event).settled
      else ({ e with blocks := t.blocks, cpt := cpt }).settled
    else e

/-- Requests are taken while both conditions of R199 hold. -/
def takeWaiting (e : Event) : Event := iter takeHead Config.replyCapacity e

/-- The oldest reply starts where the transmitter is IDLE (R200). -/
def startReply (e : Event) : Event :=
  match e.cpt.tx, e.cpt.replies with
  | none, r :: rest => { e with cpt := { e.cpt with tx := some r, replies := rest } }
  | _, _ => e

/-- The reports of the event are posted, each key once (R204). -/
def postReports (e : Event) : Event :=
  let ports := postIf e.port { kind := .port, subject := 0, body := u8 e.cpt.overrun }
  { e with
    rq := (eventPostings e.base e.blocks ++ ports).foldl post e.rq
    blocks := { e.blocks with notes := [] } }

/-- The first eligible entry of one priority (R205). -/
def eligibleAt (floor : Nat) (rq : List Entry) (p : Nat) : Option Entry :=
  if p ≤ floor then rq.find? fun e => reportPriority e.kind == p else none

/-- The first eligible entry in RQ order (R200, R204). -/
def firstEligible (floor : Nat) (rq : List Entry) : Option Entry := [0, 1, 2, 3].findSome? (eligibleAt floor rq)

/-- The frame of an entry (R205). The subject octet of a kind with one key is 0 (DESIGN CHOICE: R204 says 'one' and R206 gives it
no value; assumption log 10). -/
def reportFrame (e : Entry) : Frame :=
  { kind := BitVec.ofNat 8 (0x40 + e.kind.number)
    tag := BitVec.ofNat 8 e.count
    body := BitVec.ofNat 8 e.subject :: e.body }

/-- The first eligible entry starts where the transmitter is IDLE (R200). -/
def startReport (e : Event) : Event :=
  match e.cpt.tx with
  | some _ => e
  | none =>
    match firstEligible e.blocks.par.reportFloor e.rq with
    | none => e
    | some x =>
      { e with
        cpt := { e.cpt with tx := some (reportFrame x) }
        rq := e.rq.filter fun y => !(y.hasKey x.kind x.subject) }

/-- The end of an event: what follows by itself, the requests that can be taken, and the transmitter's choice. -/
def finishEvent (e : Event) : Event :=
  startReport (postReports (takeWaiting (startReply (takeWaiting e.settled))))

/-- The state after an event. -/
def Event.toState (e : Event) (pending : List Instr) : State :=
  { pending := pending, blocks := e.blocks, cpt := e.cpt, rq := e.rq }

/-- An event of the blocks alone. -/
def runEvent (f : Blocks → Blocks) (s : State) : State :=
  (finishEvent { beginEvent s s.cpt with blocks := f s.blocks }).toState s.pending

/-- An event of the input records, whose changes are published as one set (R61). -/
def inputEvent (f : Blocks → Blocks) (s : State) : State := runEvent (fun b => publish b (f b)) s

/-! ## Reception (R198) -/

/-- A valid frame in the event that completes it: presence, then the receive buffer or the overrun count. -/
def receive (f : Frame) (e : Event) : Event :=
  let heard := { e with blocks := presenceRestart e.blocks }
  if e.cpt.buffer.length < Config.receiveCapacity then
    { heard with cpt := { e.cpt with buffer := e.cpt.buffer ++ [f] } }
  else { heard with cpt := { e.cpt with overrun := min (e.cpt.overrun + 1) 255 }, port := true }

/-- A valid frame arrives; the receiver is HUNTING after it. -/
def validFrame (f : Frame) (s : State) : State :=
  (finishEvent (receive f (beginEvent s { s.cpt with receiver := .hunting }))).toState s.pending

/-- The frame under way is abandoned (R198). -/
def abandonFrame (s : State) : State := { s with cpt := { s.cpt with receiver := .hunting } }

/-- The octets over which the CRC of a frame is computed: LEN, KIND, TAG and BODY (R197). -/
def crcOctets (kind tag : Octet) (body : List Octet) : List Octet :=
  BitVec.ofNat 8 (body.length + 2) :: kind :: tag :: body

/-- A frame complete to its last CRC octet (R198). A body of more than 64 octets has no LEN, so that frame is abandoned. -/
def completeFrame (kind tag : Octet) (body : List Octet) (crc : BitVec 16) (s : State) : State :=
  if 64 < body.length then abandonFrame s
  else if crc = crc16 (crcOctets kind tag body) then validFrame { kind := kind, tag := tag, body := body } s
  else abandonFrame s

/-- The octets of a frame on the line: START, LEN, KIND, TAG, BODY and CRC, high octet first (R197). -/
def Frame.line (f : Frame) : List Octet :=
  let crc := crc16 (crcOctets f.kind f.tag f.body)
  0xC5#8 :: (crcOctets f.kind f.tag f.body ++ [crc.extractLsb' 8 8, crc.extractLsb' 0 8])

/-- The octets of the frame that is being sent, back to back; none while the transmitter is IDLE (R197, R200). -/
def Cpt.sending (c : Cpt) : List Octet := (c.tx.map Frame.line).getD []

/-- A request of the console: the arrival of the valid frame that carries it (assumption log 1). -/
def consoleRequest (kind tag : Octet) (body : List Octet) (s : State) : State :=
  completeFrame kind tag body (crc16 (crcOctets kind tag body)) s

/-- The two octets of a CRC, high octet first. -/
def crcOf (hi lo : Octet) : BitVec 16 := hi ++ lo

/-- The receiver's time between octets (R198), in milliseconds. -/
def octetGapMs : Nat := 5

/-- The octets of a complete frame after START: LEN, KIND, TAG, BODY and CRC. -/
def completeOctets (os : List Octet) (s : State) : State :=
  match os with
  | _ :: kind :: tag :: rest =>
    match rest.reverse with
    | lo :: hi :: body => completeFrame kind tag body.reverse (crcOf hi lo) s
    | _ => abandonFrame s
  | _ => abandonFrame s

/-- An octet taken inside a frame (R198). -/
def frameOctetTaken (os : List Octet) (o : Octet) (s : State) : State :=
  let taken := os ++ [o]
  let len := (taken.headD 0#8).toNat
  if len < 2 ∨ 66 < len then abandonFrame s
  else if taken.length = len + 3 then completeOctets taken s
  else { s with cpt := { s.cpt with receiver := .inFrame taken octetGapMs } }

/-- One octet from the line (R198). -/
def receiveOctet (o : Octet) (stopBit : Bool) (s : State) : State :=
  match s.cpt.receiver with
  | .hunting =>
    if stopBit ∧ o = 0xC5#8 then { s with cpt := { s.cpt with receiver := .inFrame [] octetGapMs } } else s
  | .inFrame os _ => if stopBit then frameOctetTaken os o s else abandonFrame s

/-- A millisecond for the receiver's gap. -/
def Receiver.tick : Receiver → Receiver
  | .hunting => .hunting
  | .inFrame os ms => .inFrame os (ms - 1)

/-- The last octet of the frame being sent has gone (R200). -/
def endTransmission (s : State) : State :=
  (finishEvent (beginEvent s { s.cpt with tx := none })).toState s.pending

end Sys2Proof.Machine
end

