-- ==== Sys2Proof/Machine/RequestCommands.lean ====
section
/-! DEFINITION. The requests of the console as commands: each is the arrival of the valid frame that carries it (R198), which is then
taken by its own rule (R199). The kinds and bodies are those of section 12.6. -/

namespace Sys2Proof.Machine

/-- The outcome of every command of this block. -/
abbrev Outcome : Type := Host.Outcome State Fault Refusal

/-! ## Configuration and information -/

/-- IDENTIFY (R203). -/
def execIdentify (tag : Octet) (s : State) : Outcome :=
  .next (consoleRequest 0x01#8 tag [] s)

/-- SET_PARAM (R202). -/
def execSetParam (tag ident subject : Octet) (value : BitVec 32) (s : State) : Outcome :=
  .next (consoleRequest 0x02#8 tag (ident :: subject :: octets32 value) s)

/-- GET_PARAM (R202). -/
def execGetParam (tag ident subject : Octet) (s : State) : Outcome :=
  .next (consoleRequest 0x03#8 tag [ident, subject] s)

/-- ASSIGN_INPUT (R65). -/
def execAssignInput (tag fn form link channel bit n flags : Octet) (s : State) : Outcome :=
  .next (consoleRequest 0x04#8 tag [fn, form, link, channel, bit, n, flags] s)

/-- ASSIGN_OUTPUT (R66). -/
def execAssignOutput (tag fn link channel bit : Octet) (s : State) : Outcome :=
  .next (consoleRequest 0x05#8 tag [fn, link, channel, bit] s)

/-- CLEAR_ASSIGNMENT (R67). -/
def execClearAssignment (tag form arg1 arg2 arg3 : Octet) (s : State) : Outcome :=
  .next (consoleRequest 0x06#8 tag [form, arg1, arg2, arg3] s)

/-- The octets of the points of a clearance table: angle, then clearance. -/
def pointOctets (points : List (BitVec 16 × BitVec 16)) : List Octet :=
  (points.map fun p => octets16 p.1 ++ octets16 p.2).flatten

/-- LOAD_CLEARANCE (R160). -/
def execLoadClearance (tag : Octet) (points : List (BitVec 16 × BitVec 16)) (s : State) : Outcome :=
  .next (consoleRequest 0x07#8 tag (BitVec.ofNat 8 points.length :: pointOctets points) s)

/-- CONFIG_DONE (R4). -/
def execConfigDone (tag : Octet) (s : State) : Outcome :=
  .next (consoleRequest 0x08#8 tag [] s)

/-- RECONFIGURE (R6). -/
def execReconfigure (tag : Octet) (s : State) : Outcome :=
  .next (consoleRequest 0x09#8 tag [] s)

/-- RESTART (R5). -/
def execRestart (tag : Octet) (s : State) : Outcome :=
  .next (consoleRequest 0x0A#8 tag [] s)

/-! ## Operation -/

/-- ROAD_CLOSE (R9). -/
def execRoadClose (tag : Octet) (s : State) : Outcome :=
  .next (consoleRequest 0x10#8 tag [] s)

/-- ROAD_OPEN (R10). -/
def execRoadOpen (tag : Octet) (s : State) : Outcome :=
  .next (consoleRequest 0x11#8 tag [] s)

/-- LOCKS_WITHDRAW (R11, R154). -/
def execLocksWithdraw (tag : Octet) (s : State) : Outcome :=
  .next (consoleRequest 0x12#8 tag [] s)

/-- LOCKS_DRIVE (R11, R154). -/
def execLocksDrive (tag : Octet) (s : State) : Outcome :=
  .next (consoleRequest 0x13#8 tag [] s)

/-- LEAVES_RAISE (R12). -/
def execLeavesRaise (tag target : Octet) (s : State) : Outcome :=
  .next (consoleRequest 0x14#8 tag [target] s)

/-- LEAVES_LOWER (R13). -/
def execLeavesLower (tag : Octet) (s : State) : Outcome :=
  .next (consoleRequest 0x15#8 tag [] s)

/-- RECOVERY_LOWER (R15). -/
def execRecoveryLower (tag : Octet) (s : State) : Outcome :=
  .next (consoleRequest 0x16#8 tag [] s)

/-- MOTION_HOLD (R22). -/
def execMotionHold (tag : Octet) (s : State) : Outcome :=
  .next (consoleRequest 0x17#8 tag [] s)

/-- MOTION_RESUME (R23). -/
def execMotionResume (tag : Octet) (s : State) : Outcome :=
  .next (consoleRequest 0x18#8 tag [] s)

/-- ESTOP_RESET (R190). -/
def execEstopReset (tag : Octet) (s : State) : Outcome :=
  .next (consoleRequest 0x19#8 tag [] s)

/-- FAULT_CLEAR with a leaf subject (R124). -/
def execFaultClearLeaf (tag subject : Octet) (s : State) : Outcome :=
  .next (consoleRequest 0x1A#8 tag [0#8, subject] s)

/-- FAULT_CLEAR with a lock subject (R158). -/
def execFaultClearLock (tag subject : Octet) (s : State) : Outcome :=
  .next (consoleRequest 0x1A#8 tag [1#8, subject] s)

/-- FAULT_CLEAR with a barrier subject (R106). -/
def execFaultClearBarrier (tag subject : Octet) (s : State) : Outcome :=
  .next (consoleRequest 0x1A#8 tag [2#8, subject] s)

/-- OVERRIDE_GRANT (R24). -/
def execOverrideGrant (tag kind subject : Octet) (s : State) : Outcome :=
  .next (consoleRequest 0x1B#8 tag [kind, subject] s)

/-- OVERRIDE_REVOKE (R25). -/
def execOverrideRevoke (tag kind subject : Octet) (s : State) : Outcome :=
  .next (consoleRequest 0x1C#8 tag [kind, subject] s)

/-! ## Passage -/

/-- VESSEL_ADD (R164). -/
def execVesselAdd (tag : Octet) (ident : BitVec 16) (direction : Octet) (airDraft : BitVec 16) (cls : Octet) (s : State) : Outcome :=
  .next (consoleRequest 0x20#8 tag (octets16 ident ++ direction :: octets16 airDraft ++ [cls]) s)

/-- VESSEL_WITHDRAW (R165). -/
def execVesselWithdraw (tag : Octet) (ident : BitVec 16) (s : State) : Outcome :=
  .next (consoleRequest 0x21#8 tag (octets16 ident) s)

/-- VESSEL_CLEARED (R172). -/
def execVesselCleared (tag : Octet) (ident : BitVec 16) (s : State) : Outcome :=
  .next (consoleRequest 0x22#8 tag (octets16 ident) s)

/-! ## Queries -/

/-- GET_SPAN (R203). -/
def execGetSpan (tag subject part : Octet) (s : State) : Outcome :=
  .next (consoleRequest 0x30#8 tag [subject, part] s)

/-- GET_ROAD (R86, R87, R203). -/
def execGetRoad (tag subject part : Octet) (s : State) : Outcome :=
  .next (consoleRequest 0x31#8 tag [subject, part] s)

/-- GET_LEAF (R125, R145). -/
def execGetLeaf (tag subject part : Octet) (s : State) : Outcome :=
  .next (consoleRequest 0x32#8 tag [subject, part] s)

/-- GET_LOCKS (R159). -/
def execGetLocks (tag subject part : Octet) (s : State) : Outcome :=
  .next (consoleRequest 0x33#8 tag [subject, part] s)

/-- GET_LINK (R49). -/
def execGetLink (tag subject part : Octet) (s : State) : Outcome :=
  .next (consoleRequest 0x34#8 tag [subject, part] s)

/-- GET_INPUT (R62). -/
def execGetInput (tag subject part : Octet) (s : State) : Outcome :=
  .next (consoleRequest 0x35#8 tag [subject, part] s)

/-- GET_QUEUE (R179). -/
def execGetQueue (tag subject part : Octet) (s : State) : Outcome :=
  .next (consoleRequest 0x36#8 tag [subject, part] s)

/-- GET_WIND (R187). -/
def execGetWind (tag subject part : Octet) (s : State) : Outcome :=
  .next (consoleRequest 0x37#8 tag [subject, part] s)

/-- PRESENCE (R203). -/
def execPresence (tag subject part : Octet) (s : State) : Outcome :=
  .next (consoleRequest 0x38#8 tag [subject, part] s)

/-- A frame whose KIND is no request kind (R199); a frame of a request kind is taken as that request. -/
def execUnknownKind (kind tag : Octet) (body : List Octet) (s : State) : Outcome :=
  .next (consoleRequest kind tag body s)

/-! ## The frame of a request -/

/-- The frame whose arrival a command is: KIND, TAG and BODY as section 12.6 lays them out; none for a command that is
no request. -/
def requestFrame : Instr → Option Frame
  | .powerOnReset => none
  | .identify tag => some { kind := 0x01#8, tag := tag, body := [] }
  | .setParam tag ident subject value => some { kind := 0x02#8, tag := tag, body := ident :: subject :: octets32 value }
  | .getParam tag ident subject => some { kind := 0x03#8, tag := tag, body := [ident, subject] }
  | .assignInput tag fn form link channel bit n flags => some { kind := 0x04#8, tag := tag, body := [fn, form, link, channel, bit, n, flags] }
  | .assignOutput tag fn link channel bit => some { kind := 0x05#8, tag := tag, body := [fn, link, channel, bit] }
  | .clearAssignment tag form arg1 arg2 arg3 => some { kind := 0x06#8, tag := tag, body := [form, arg1, arg2, arg3] }
  | .loadClearance tag points => some { kind := 0x07#8, tag := tag, body := BitVec.ofNat 8 points.length :: pointOctets points }
  | .configDone tag => some { kind := 0x08#8, tag := tag, body := [] }
  | .reconfigure tag => some { kind := 0x09#8, tag := tag, body := [] }
  | .restart tag => some { kind := 0x0A#8, tag := tag, body := [] }
  | .roadClose tag => some { kind := 0x10#8, tag := tag, body := [] }
  | .roadOpen tag => some { kind := 0x11#8, tag := tag, body := [] }
  | .locksWithdraw tag => some { kind := 0x12#8, tag := tag, body := [] }
  | .locksDrive tag => some { kind := 0x13#8, tag := tag, body := [] }
  | .leavesRaise tag target => some { kind := 0x14#8, tag := tag, body := [target] }
  | .leavesLower tag => some { kind := 0x15#8, tag := tag, body := [] }
  | .recoveryLower tag => some { kind := 0x16#8, tag := tag, body := [] }
  | .motionHold tag => some { kind := 0x17#8, tag := tag, body := [] }
  | .motionResume tag => some { kind := 0x18#8, tag := tag, body := [] }
  | .estopReset tag => some { kind := 0x19#8, tag := tag, body := [] }
  | .faultClearLeaf tag subject => some { kind := 0x1A#8, tag := tag, body := [0#8, subject] }
  | .faultClearLock tag subject => some { kind := 0x1A#8, tag := tag, body := [1#8, subject] }
  | .faultClearBarrier tag subject => some { kind := 0x1A#8, tag := tag, body := [2#8, subject] }
  | .overrideGrant tag kind subject => some { kind := 0x1B#8, tag := tag, body := [kind, subject] }
  | .overrideRevoke tag kind subject => some { kind := 0x1C#8, tag := tag, body := [kind, subject] }
  | .vesselAdd tag ident direction airDraft cls => some { kind := 0x20#8, tag := tag, body := octets16 ident ++ direction :: octets16 airDraft ++ [cls] }
  | .vesselWithdraw tag ident => some { kind := 0x21#8, tag := tag, body := octets16 ident }
  | .vesselCleared tag ident => some { kind := 0x22#8, tag := tag, body := octets16 ident }
  | .getSpan tag subject part => some { kind := 0x30#8, tag := tag, body := [subject, part] }
  | .getRoad tag subject part => some { kind := 0x31#8, tag := tag, body := [subject, part] }
  | .getLeaf tag subject part => some { kind := 0x32#8, tag := tag, body := [subject, part] }
  | .getLocks tag subject part => some { kind := 0x33#8, tag := tag, body := [subject, part] }
  | .getLink tag subject part => some { kind := 0x34#8, tag := tag, body := [subject, part] }
  | .getInput tag subject part => some { kind := 0x35#8, tag := tag, body := [subject, part] }
  | .getQueue tag subject part => some { kind := 0x36#8, tag := tag, body := [subject, part] }
  | .getWind tag subject part => some { kind := 0x37#8, tag := tag, body := [subject, part] }
  | .presence tag subject part => some { kind := 0x38#8, tag := tag, body := [subject, part] }
  | .unknownKind kind tag body => some { kind := kind, tag := tag, body := body }
  | .consoleFrameReceived _ _ _ _ => none
  | .frameAbandoned => none
  | .octetGapTimeout => none
  | .transmitFrameEnd => none
  | .presenceTimerExpiry => none
  | .foundFrame _ _ => none
  | .confirmingFrame _ _ => none
  | .alignedFrameBoundary _ _ => none
  | .fieldFrameStart _ => none
  | .samplingTimerExpiry _ => none
  | .holdExpiry _ => none
  | .flashPhaseBoundary => none
  | .edgeWindowExpiry _ => none
  | .proveTimerExpiry _ => none
  | .settleExpiry _ => none
  | .amberExpiry => none
  | .redWarnExpiry => none
  | .clearanceTimerExpiry => none
  | .barrierTravelTimeout _ => none
  | .encoderCount _ _ => none
  | .illegalTransition _ => none
  | .speedWindowEnd _ => none
  | .stallTimerExpiry _ => none
  | .profileUpdate _ => none
  | .brakeReleaseTimeout _ => none
  | .brakeSetTimeout _ => none
  | .lockTravelTimeout _ => none
  | .gapRunOut => none
  | .anemoFallingEdge _ => none
  | .calm => none
  | .gustAgeRise => none
  | .adoptTimeout => none
  | .consoleOctetReceived _ _ => none

end Sys2Proof.Machine
end

