-- ==== Sys2Proof/Machine/LineCommands.lean ====
section
/-! DEFINITION. The commands of the console line itself: power-on reset, frames and octets received, the end of a frame
sent, and the presence timer (chapters 11 and 12). -/

namespace Sys2Proof.Machine

/-- POWER_ON_RESET: every record at its power-on value; the commands that wait are kept. -/
def execPowerOnReset (s : State) : Outcome :=
  .next { pending := s.pending, blocks := powerOn s.blocks, cpt := {}, rq := [] }

/-- CONSOLE_FRAME_RECEIVED: a frame is complete to its last CRC octet (R198). -/
def execConsoleFrameReceived (kind tag : Octet) (body : List Octet) (crc : BitVec 16) (s : State) : Outcome :=
  .next (completeFrame kind tag body crc s)

/-- FRAME_ABANDONED: the frame under way is abandoned (R198). -/
def execFrameAbandoned (s : State) : Outcome := .next (abandonFrame s)

/-- OCTET_GAP_TIMEOUT: more than 5 ms have passed inside a frame (R198). -/
def execOctetGapTimeout (s : State) : Outcome := .next (abandonFrame s)

/-- TRANSMIT_FRAME_END: the last octet of the frame being sent has gone (R200). -/
def execTransmitFrameEnd (s : State) : Outcome := .next (endTransmission s)

/-- PRESENCE_TIMER_EXPIRY (R192). -/
def execPresenceTimerExpiry (s : State) : Outcome := .next (runEvent presenceExpiry s)

/-- CONSOLE_OCTET_RECEIVED: one octet from the line, with its stop bit (R198). -/
def execConsoleOctetReceived (octet : Octet) (stopBit : Bool) (s : State) : Outcome :=
  .next (receiveOctet octet stopBit s)

end Sys2Proof.Machine
end

