-- ==== Sys2Proof/Machine/FieldCommands.lean ====
section
/-! DEFINITION. The commands of the field links, the input qualifier and the lamps (chapters 2, 3 and 4). -/

namespace Sys2Proof.Machine

/-- FOUND_FRAME: 80 bits end in HUNT (R30). -/
def execFoundFrame (link : Link) (frame : BitVec 80) (s : State) : Outcome :=
  .next (inputEvent (huntCandidate link frame) s)

/-- CONFIRMING_FRAME: the frame at the expected boundary in CONFIRM (R31). -/
def execConfirmingFrame (link : Link) (frame : BitVec 80) (s : State) : Outcome :=
  .next (inputEvent (confirmCandidate link frame) s)

/-- ALIGNED_FRAME_BOUNDARY: a frame boundary in ALIGNED or DEGRADED (R32). -/
def execAlignedFrameBoundary (link : Link) (frame : BitVec 80) (s : State) : Outcome :=
  .next (inputEvent (boundaryFrame link frame) s)

/-- FIELD_FRAME_START: a frame to the station begins (R44). -/
def execFieldFrameStart (link : Link) (s : State) : Outcome := .next (runEvent (startFrame link) s)

/-- The receiver's gap moves with the millisecond of the sampling timer. -/
def tickReceiver (s : State) : State := { s with cpt := { s.cpt with receiver := s.cpt.receiver.tick } }

/-- SAMPLING_TIMER_EXPIRY: a millisecond has passed, and the 17 machinery lines are read together (R54). -/
def execSamplingTimerExpiry (lines : BitVec 17) (s : State) : Outcome :=
  .next (inputEvent (fun b => takeLines lines (passMillisecond b)) (tickReceiver s))

/-- HOLD_EXPIRY: HOLD_MS has passed since the loss of a link (R58). -/
def execHoldExpiry (link : Link) (s : State) : Outcome := .next (inputEvent (endHolds link) s)

/-- FLASH_PHASE_BOUNDARY (R72). -/
def execFlashPhaseBoundary (s : State) : Outcome := .next (runEvent phaseBoundary s)

/-- EDGE_WINDOW_EXPIRY of a lamp group (R78). -/
def execEdgeWindowExpiry (group : Lamp) (s : State) : Outcome := .next (runEvent (lampEdgeExpiry group) s)

/-- PROVE_TIMER_EXPIRY of a lamp group (R79). -/
def execProveTimerExpiry (group : Lamp) (s : State) : Outcome := .next (runEvent (lampProveExpiry group) s)

/-- SETTLE_EXPIRY of a lamp group (R80). -/
def execSettleExpiry (group : Lamp) (s : State) : Outcome := .next (runEvent (lampSettleExpiry group) s)

end Sys2Proof.Machine
end

