-- ==== Sys2Proof/Machine/BridgeCommands.lean ====
section
/-! DEFINITION. The commands of the road, the leaves, the locks, the passage, the wind and adoption (chapters 5 to 11). -/

namespace Sys2Proof.Machine

/-- AMBER_EXPIRY (R89). -/
def execAmberExpiry (s : State) : Outcome := .next (runEvent amberExpiry s)

/-- RED_WARN_EXPIRY (R90). -/
def execRedWarnExpiry (s : State) : Outcome := .next (runEvent redWarnExpiry s)

/-- CLEARANCE_TIMER_EXPIRY (R92). -/
def execClearanceTimerExpiry (s : State) : Outcome := .next (runEvent clearanceExpiry s)

/-- BARRIER_TRAVEL_TIMEOUT (R103). -/
def execBarrierTravelTimeout (barrier : BarrierId) (s : State) : Outcome :=
  .next (runEvent (barrierTimeout barrier) s)

/-- ENCODER_COUNT: one legal step of a leaf's encoder (R109). -/
def execEncoderCount (leaf : LeafId) (forward : Bool) (s : State) : Outcome :=
  .next (runEvent (leafCount leaf forward) s)

/-- ILLEGAL_TRANSITION of a leaf's encoder (R110). -/
def execIllegalTransition (leaf : LeafId) (s : State) : Outcome := .next (runEvent (leafIllegal leaf) s)

/-- SPEED_WINDOW_END (R115). -/
def execSpeedWindowEnd (leaf : LeafId) (s : State) : Outcome := .next (runEvent (windowEnd leaf) s)

/-- STALL_TIMER_EXPIRY (R119). -/
def execStallTimerExpiry (leaf : LeafId) (s : State) : Outcome := .next (runEvent (stallExpiry leaf) s)

/-- PROFILE_UPDATE (R135). -/
def execProfileUpdate (leaf : LeafId) (s : State) : Outcome := .next (runEvent (leafUpdate leaf) s)

/-- BRAKE_RELEASE_TIMEOUT (R147). -/
def execBrakeReleaseTimeout (leaf : LeafId) (s : State) : Outcome := .next (runEvent (brakeNotReleased leaf) s)

/-- BRAKE_SET_TIMEOUT (R148). -/
def execBrakeSetTimeout (leaf : LeafId) (s : State) : Outcome := .next (runEvent (brakeNotSet leaf) s)

/-- LOCK_TRAVEL_TIMEOUT (R152). -/
def execLockTravelTimeout (lock : LockId) (s : State) : Outcome := .next (runEvent (lockTimeout lock) s)

/-- The gap timer reaches the gap of the present candidate (R170). -/
def gapExpiry (b : Blocks) : Blocks :=
  match b.nav.gap, candidate b.nav with
  | some ms, some v => { b with nav := { b.nav with gap := some (max ms (gapRequired b v.dir)) } }
  | _, _ => b

/-- GAP_RUN_OUT (R170, R171). -/
def execGapRunOut (s : State) : Outcome := .next (runEvent gapExpiry s)

/-- ANEMO_FALLING_EDGE, with the period timer's value at the edge (R181). -/
def execAnemoFallingEdge (elapsed : Nat) (s : State) : Outcome :=
  .next (runEvent (onWind fun p w => anemoEdge p elapsed w) s)

/-- CALM (R181). -/
def execCalm (s : State) : Outcome := .next (runEvent (onWind declareCalm) s)

/-- GUST_AGE_RISE (R184). -/
def execGustAgeRise (s : State) : Outcome := .next (runEvent (onWind riseAge) s)

/-- ADOPT_TIMEOUT (R194). -/
def execAdoptTimeout (s : State) : Outcome := .next (runEvent adoptExpiry s)

end Sys2Proof.Machine
end

