-- ==== Sys2Proof/Machine/Dispatch.lean ====
section
/-! DEFINITION. The dispatch of the commands: one arm per constructor, each one call of its meaning. -/

namespace Sys2Proof.Machine

def exec (i : Instr) (s : State) : Host.Outcome State Fault Refusal :=
  match i with
  | .powerOnReset => Sys2Proof.Machine.execPowerOnReset s
  | .identify tag => Sys2Proof.Machine.execIdentify tag s
  | .setParam tag ident subject value => Sys2Proof.Machine.execSetParam tag ident subject value s
  | .getParam tag ident subject => Sys2Proof.Machine.execGetParam tag ident subject s
  | .assignInput tag fn form link channel bit n flags => Sys2Proof.Machine.execAssignInput tag fn form link channel bit n flags s
  | .assignOutput tag fn link channel bit => Sys2Proof.Machine.execAssignOutput tag fn link channel bit s
  | .clearAssignment tag form arg1 arg2 arg3 => Sys2Proof.Machine.execClearAssignment tag form arg1 arg2 arg3 s
  | .loadClearance tag points => Sys2Proof.Machine.execLoadClearance tag points s
  | .configDone tag => Sys2Proof.Machine.execConfigDone tag s
  | .reconfigure tag => Sys2Proof.Machine.execReconfigure tag s
  | .restart tag => Sys2Proof.Machine.execRestart tag s
  | .roadClose tag => Sys2Proof.Machine.execRoadClose tag s
  | .roadOpen tag => Sys2Proof.Machine.execRoadOpen tag s
  | .locksWithdraw tag => Sys2Proof.Machine.execLocksWithdraw tag s
  | .locksDrive tag => Sys2Proof.Machine.execLocksDrive tag s
  | .leavesRaise tag target => Sys2Proof.Machine.execLeavesRaise tag target s
  | .leavesLower tag => Sys2Proof.Machine.execLeavesLower tag s
  | .recoveryLower tag => Sys2Proof.Machine.execRecoveryLower tag s
  | .motionHold tag => Sys2Proof.Machine.execMotionHold tag s
  | .motionResume tag => Sys2Proof.Machine.execMotionResume tag s
  | .estopReset tag => Sys2Proof.Machine.execEstopReset tag s
  | .faultClearLeaf tag subject => Sys2Proof.Machine.execFaultClearLeaf tag subject s
  | .faultClearLock tag subject => Sys2Proof.Machine.execFaultClearLock tag subject s
  | .faultClearBarrier tag subject => Sys2Proof.Machine.execFaultClearBarrier tag subject s
  | .overrideGrant tag kind subject => Sys2Proof.Machine.execOverrideGrant tag kind subject s
  | .overrideRevoke tag kind subject => Sys2Proof.Machine.execOverrideRevoke tag kind subject s
  | .vesselAdd tag ident direction airDraft cls => Sys2Proof.Machine.execVesselAdd tag ident direction airDraft cls s
  | .vesselWithdraw tag ident => Sys2Proof.Machine.execVesselWithdraw tag ident s
  | .vesselCleared tag ident => Sys2Proof.Machine.execVesselCleared tag ident s
  | .getSpan tag subject part => Sys2Proof.Machine.execGetSpan tag subject part s
  | .getRoad tag subject part => Sys2Proof.Machine.execGetRoad tag subject part s
  | .getLeaf tag subject part => Sys2Proof.Machine.execGetLeaf tag subject part s
  | .getLocks tag subject part => Sys2Proof.Machine.execGetLocks tag subject part s
  | .getLink tag subject part => Sys2Proof.Machine.execGetLink tag subject part s
  | .getInput tag subject part => Sys2Proof.Machine.execGetInput tag subject part s
  | .getQueue tag subject part => Sys2Proof.Machine.execGetQueue tag subject part s
  | .getWind tag subject part => Sys2Proof.Machine.execGetWind tag subject part s
  | .presence tag subject part => Sys2Proof.Machine.execPresence tag subject part s
  | .unknownKind kind tag body => Sys2Proof.Machine.execUnknownKind kind tag body s
  | .consoleFrameReceived kind tag body crc => Sys2Proof.Machine.execConsoleFrameReceived kind tag body crc s
  | .frameAbandoned => Sys2Proof.Machine.execFrameAbandoned s
  | .octetGapTimeout => Sys2Proof.Machine.execOctetGapTimeout s
  | .transmitFrameEnd => Sys2Proof.Machine.execTransmitFrameEnd s
  | .presenceTimerExpiry => Sys2Proof.Machine.execPresenceTimerExpiry s
  | .foundFrame link frame => Sys2Proof.Machine.execFoundFrame link frame s
  | .confirmingFrame link frame => Sys2Proof.Machine.execConfirmingFrame link frame s
  | .alignedFrameBoundary link frame => Sys2Proof.Machine.execAlignedFrameBoundary link frame s
  | .fieldFrameStart link => Sys2Proof.Machine.execFieldFrameStart link s
  | .samplingTimerExpiry lines => Sys2Proof.Machine.execSamplingTimerExpiry lines s
  | .holdExpiry link => Sys2Proof.Machine.execHoldExpiry link s
  | .flashPhaseBoundary => Sys2Proof.Machine.execFlashPhaseBoundary s
  | .edgeWindowExpiry group => Sys2Proof.Machine.execEdgeWindowExpiry group s
  | .proveTimerExpiry group => Sys2Proof.Machine.execProveTimerExpiry group s
  | .settleExpiry group => Sys2Proof.Machine.execSettleExpiry group s
  | .amberExpiry => Sys2Proof.Machine.execAmberExpiry s
  | .redWarnExpiry => Sys2Proof.Machine.execRedWarnExpiry s
  | .clearanceTimerExpiry => Sys2Proof.Machine.execClearanceTimerExpiry s
  | .barrierTravelTimeout barrier => Sys2Proof.Machine.execBarrierTravelTimeout barrier s
  | .encoderCount leaf forward => Sys2Proof.Machine.execEncoderCount leaf forward s
  | .illegalTransition leaf => Sys2Proof.Machine.execIllegalTransition leaf s
  | .speedWindowEnd leaf => Sys2Proof.Machine.execSpeedWindowEnd leaf s
  | .stallTimerExpiry leaf => Sys2Proof.Machine.execStallTimerExpiry leaf s
  | .profileUpdate leaf => Sys2Proof.Machine.execProfileUpdate leaf s
  | .brakeReleaseTimeout leaf => Sys2Proof.Machine.execBrakeReleaseTimeout leaf s
  | .brakeSetTimeout leaf => Sys2Proof.Machine.execBrakeSetTimeout leaf s
  | .lockTravelTimeout lock => Sys2Proof.Machine.execLockTravelTimeout lock s
  | .gapRunOut => Sys2Proof.Machine.execGapRunOut s
  | .anemoFallingEdge elapsed => Sys2Proof.Machine.execAnemoFallingEdge elapsed s
  | .calm => Sys2Proof.Machine.execCalm s
  | .gustAgeRise => Sys2Proof.Machine.execGustAgeRise s
  | .adoptTimeout => Sys2Proof.Machine.execAdoptTimeout s
  | .consoleOctetReceived octet stopBit => Sys2Proof.Machine.execConsoleOctetReceived octet stopBit s

end Sys2Proof.Machine
end

