-- ==== Sys2Proof/Safety.lean ====
section
/-! DEFINITION. What the manual says always holds of the bridge, as predicates on states, and the words in which the
statements speak of an event: what it leaves unchanged, the state after it, and the moment a request is taken. -/

namespace Sys2Proof.Safety

open Sys2Proof.Machine

/-! ## What must hold -/

/-- An entry's count is 1 to 255 (R204). -/
def countOk (e : Entry) : Prop := 1 ≤ e.count ∧ e.count ≤ 255

/-- RQ holds at most one entry per key, and every count is 1 to 255 (R204). -/
def QueueOk (rq : List Entry) : Prop :=
  (rq.map fun e => (e.kind, e.subject)).Nodup ∧ ∀ e ∈ rq, countOk e

/-- The receive buffer and the reply list hold at most two frames each (R198, R199), and the overrun count is at most
255. -/
def PortOk (c : Cpt) : Prop := c.buffer.length ≤ 2 ∧ c.replies.length ≤ 2 ∧ c.overrun ≤ 255

/-- No postings are left over between events. -/
def NotesOk (s : State) : Prop := s.blocks.notes = []

/-- A barrier's command outputs are never both on (R101). -/
def BarrierOutputsOk (b : Blocks) : Prop :=
  ∀ i : BarrierId, ¬ (outputValue b (.lower i) = true ∧ outputValue b (.raise i) = true)

/-- A lock never has both motor lines on (R150). -/
def LockLinesOk (b : Blocks) : Prop :=
  ∀ k : LockId, ¬ (lockDriveLine b k = true ∧ lockWithdrawLine b k = true)

/-- The machinery rests: no drive reference, no brake released, no lock motor on (R3). -/
def MachineryAtRest (b : Blocks) : Prop :=
  (∀ l : LeafId, driveDuty b l = 0 ∧ brakeLine b l = false) ∧
    ∀ k : LockId, lockDriveLine b k = false ∧ lockWithdrawLine b k = false

/-- The HELD flag and its cause agree: there is a cause exactly while the flag is set (R1, R21). -/
def HoldOk (s : Sil) : Prop := s.held = true ↔ s.cause ≠ .none

/-- Every active parameter value lies in its range (R202). -/
def ParamsOk (p : Params) : Prop :=
  ∀ ident subject : Nat, paramNamed ident subject = true → paramInRange ident (paramGet p ident subject) = true

/-- Every pending parameter value lies in its range (R202). -/
def PendingOk (q : Pending) : Prop :=
  ∀ (ident v : Nat), pendingGet q ident = some v → paramInRange ident v = true

/-- In OPERATE the speed command of a leaf in MOVING or STOPPING is at most its ceiling (R141). -/
def SpeedOk (b : Blocks) : Prop :=
  b.sil.mode = .operate →
    ∀ l : LeafId, leafState b l = .moving ∨ leafState b l = .stopping → (b.leaves.get l).mot.command ≤ ceiling b l

/-- In OPERATE no leaf is MOVING in a RAISE or LOWER while both leaves are CERTAIN and their angles differ by
SKEW_LIMIT_CD or more (R142). -/
def SkewOk (b : Blocks) : Prop :=
  b.sil.mode = .operate →
    ∀ l : LeafId, leafState b l = .moving → (b.leaves.get l).mot.kind = .raise ∨ (b.leaves.get l).mot.kind = .lower →
      b.leaves.north.pos.certain = true → b.leaves.south.pos.certain = true →
        angleDifference b < b.par.skewLimitCd

/-- PROCEED is shown in at most one channel direction (R171). -/
def ProceedOk (n : Nav) : Prop := ¬ (n.aspects.inbound = .proceed ∧ n.aspects.outbound = .proceed)

/-- A vessel queue in rank order, best rank first (R163). -/
def RankOrder (q : List Vessel) : Prop := q.Pairwise fun v w => classRank v.cls ≤ classRank w.cls

/-- A clearance table as LOAD_CLEARANCE accepts it (R160). -/
def TableOk (t : List (Nat × Nat)) : Prop :=
  2 ≤ t.length ∧ (t.map Prod.fst).head? = some 0 ∧ (t.map Prod.fst).Pairwise (· < ·) ∧
    (t.map Prod.snd).Pairwise (· ≤ ·)

/-! ## What an event leaves unchanged -/

/-- The records of `Blocks`. -/
inductive BlockField where
  | sil | links | iq | cat | slu | rsq | barriers | leaves | brakes | locks | seq | nav | wmn | par | pend
  | presence | presRanOut | now | notes
deriving DecidableEq, Repr

/-- One record is the same in two states of the blocks. -/
def BlockField.same (a b : Blocks) : BlockField → Prop
  | .sil => b.sil = a.sil
  | .links => b.links = a.links
  | .iq => b.iq = a.iq
  | .cat => b.cat = a.cat
  | .slu => b.slu = a.slu
  | .rsq => b.rsq = a.rsq
  | .barriers => b.barriers = a.barriers
  | .leaves => b.leaves = a.leaves
  | .brakes => b.brakes = a.brakes
  | .locks => b.locks = a.locks
  | .seq => b.seq = a.seq
  | .nav => b.nav = a.nav
  | .wmn => b.wmn = a.wmn
  | .par => b.par = a.par
  | .pend => b.pend = a.pend
  | .presence => b.presence = a.presence
  | .presRanOut => b.presRanOut = a.presRanOut
  | .now => b.now = a.now
  | .notes => b.notes = a.notes

/-- Every record but those listed is the same in `b` as in `a`. -/
def SameBut (fs : List BlockField) (a b : Blocks) : Prop := ∀ f : BlockField, f ∉ fs → f.same a b

/-! ## The state after an event -/

/-- The blocks after an event that began with `s0` and whose own work leaves `b`: what follows by itself has followed,
and the event's postings have gone to RQ. -/
def following (s0 b : Blocks) : Blocks := { settle s0 b with notes := [] }

/-- The state after an event whose own work changes the blocks of `s` to `b`. -/
def eventEnd (s : State) (b : Blocks) : State := runEvent (fun _ => b) s

/-- The event of `s` whose own work leaves `b` has led to `t`: the blocks are those that follow, the receiver, the
receive buffer and the overrun count are as they were, and while a frame is being sent RQ is the old one with the
event's postings made. -/
def EventLeads (s : State) (b : Blocks) (t : State) : Prop :=
  t.pending = s.pending ∧ t.blocks = following s.blocks b ∧ t.cpt.receiver = s.cpt.receiver ∧
    t.cpt.buffer = s.cpt.buffer ∧ t.cpt.overrun = s.cpt.overrun ∧
      (s.cpt.tx ≠ none → t.cpt = s.cpt ∧ t.rq = (eventPostings s.blocks (settle s.blocks b)).foldl post s.rq)

/-! ## Requests -/

/-- The port between requests: nothing received waits, no reply waits and the transmitter is IDLE. -/
def QuietPort (s : State) : Prop := s.cpt.buffer = [] ∧ s.cpt.replies = [] ∧ s.cpt.tx = none

/-- The blocks at the moment at which a request that arrives in `s` is taken: its frame has restarted the presence
timer (R198). -/
def atTaking (s : State) : Blocks := settle s.blocks (presenceRestart s.blocks)

/-- The state after a request that arrives on a quiet port: it has been taken, its own effect leaves the blocks `b`, and
its reply is on the line. -/
def answered (s : State) (f : Frame) (b : Blocks) (r : Result) : State where
  pending := s.pending
  blocks := following s.blocks b
  cpt := { receiver := .hunting, buffer := [], replies := [], tx := some (replyFrame f r), overrun := s.cpt.overrun }
  rq := (eventPostings s.blocks (settle s.blocks b)).foldl post s.rq

/-- The octets of a console frame on the line (R197): START, LEN, KIND, TAG, BODY, CRC. -/
def lineOctets (kind tag : Octet) (body : List Octet) (crc : BitVec 16) : List Octet :=
  0xC5#8 :: (crcOctets kind tag body ++ [crc.extractLsb' 8 8, crc.extractLsb' 0 8])

/-- The command that hands one octet with a good stop bit to the receiver. -/
def octetCommand (o : Octet) : Instr := .consoleOctetReceived o true

/-- The outcome of running commands one after another. -/
def execAll : List Instr → State → Host.Outcome State Fault Refusal
  | [], s => .next s
  | i :: rest, s =>
    match exec i s with
    | .next t => execAll rest t
    | .fault r => .fault r
    | .refused r => .refused r

/-! ## Leaves at a movement -/

/-- Both leaves stand SEATED or PARKED with their brakes proven set, so that a movement can start at once (R128, R147). -/
def LeavesAtRest (b : Blocks) : Prop :=
  ∀ l : LeafId, (leafState b l = .seated ∨ leafState b l = .parked) ∧ (b.brakes.get l).state = .set ∧
    made b (.brakeReleased l) = false

/-- What the start of a movement writes into the motion record of every leaf, which describes it (R128, steps 1 to 3); where
neither leaf takes part it is written all the same (the model's choice, assumption log 44). -/
def described (m : Movement) (l : LeafId) (a : Blocks) (taking : Bool) : MotionRec :=
  { (a.leaves.get l).mot with
    kind := movementKind m
    target := match m with
      | .raise t => some t
      | .lower => none
      | .recoveryLower => none
    targetCounts := some (targetCounts a l m : Int)
    rule := arrivalRule (a.leaves.get l).pos.certain m
    takingPart := taking
    next := none }

/-- From `a` to `b` a leaf has entered RELEASING for a movement: its motion record is that of the start, its wrong-direction
count 0 (R120), its last stop NONE (R189), its first speed window started where it leaves SEATED (R114), and its brake is
being released (R128, R147). Nothing else of the leaf has changed. -/
def LeafReleases (m : Movement) (l : LeafId) (a b : Blocks) : Prop :=
  b.leaves.get l = { a.leaves.get l with
      mot := { described m l a true with
        state := .releasing
        arrived := false
        arrivalReached := false
        brakeSetAsked := false
        driveDir := if movementKind m = .raise then .raise else .lower
        lastStop := .none }
      flt := { (a.leaves.get l).flt with wrongDir := 0 }
      win := if leafState a l = .seated then
          { (a.leaves.get l).win with running := true, elapsed := 0, net := 0, gross := 0 }
        else (a.leaves.get l).win } ∧
    b.brakes.get l = { a.brakes.get l with command := .release, state := .releasing, timer := some a.par.brakeProveMs }

/-- From `a` to `b` a leaf has taken no part in a movement: its motion record describes it, a PARKED leaf in a RAISE has
arrived, and nothing else of the leaf or its brake has changed (R128, step 3). -/
def LeafStandsBy (m : Movement) (l : LeafId) (a b : Blocks) : Prop :=
  b.leaves.get l = { a.leaves.get l with
      mot := { described m l a false with
        arrived := if movementKind m = .raise ∧ leafState a l = .parked then true else (a.leaves.get l).mot.arrived } } ∧
    b.brakes.get l = a.brakes.get l

/-- From `a` to `b` a movement has started: each leaf that has not arrived releases its brake, and a leaf that has
arrived takes no part (R128). -/
def MovementStarts (m : Movement) (a b : Blocks) : Prop :=
  ∀ l : LeafId,
    (alreadyArrived a l m = false → LeafReleases m l a b) ∧ (alreadyArrived a l m = true → LeafStandsBy m l a b)

/-- A movement directed in `b` starts at once and a leaf takes part in it: no leaf is in motion, no brake SETTING, and a leaf
that is not in FAULT has not arrived (R128). -/
def MovementBegins (m : Movement) (b : Blocks) : Prop :=
  (∀ l : LeafId, leafInMotion b l = false ∧ (b.brakes.get l).state ≠ .setting) ∧
    ∃ l : LeafId, alreadyArrived b l m = false ∧ leafState b l ≠ .fault

/-- The active parameters of `b` are `p` and its pending values `q`, but that pending V_CRUISE and ACCEL have become active
where a movement begins (R130). -/
def SpeedsFollow (begins : Prop) (p : Params) (q : Pending) (b : Blocks) : Prop :=
  (begins → b.par = { p with vCruise := q.vCruise.getD p.vCruise, accel := q.accel.getD p.accel } ∧
    b.pend = { q with vCruise := none, accel := none }) ∧
  (¬ begins → b.par = p ∧ b.pend = q)

/-- The active parameters after the formation of a group: a pending ANGLE_MARGIN_CD has become active (R167). -/
def marginActive (p : Params) (q : Pending) : Params := { p with angleMarginCd := q.angleMarginCd.getD p.angleMarginCd }

/-- The pending values after the formation of a group (R167). -/
def marginTaken (q : Pending) : Pending := { q with angleMarginCd := none }

/-- What a stop request does to a leaf's motion record, by its state (R143). -/
def stopped (m : MotionRec) : MotionRec :=
  match m.state with
  | .releasing => { m with state := .stopping, command := 0, updateTimer := some 10 }
  | .moving => { m with state := .stopping }
  | .stopping => m
  | .seated => m
  | .parked => m
  | .fault => m

/-- Both leaves of `b` are those of `a` after a stop request. -/
def LeavesStopped (a b : Blocks) : Prop :=
  ∀ l : LeafId, b.leaves.get l = { a.leaves.get l with mot := stopped (a.leaves.get l).mot }

/-- From `a` to `b` a fault finding has acted on a leaf (R117): a leaf that was in no FAULT is in FAULT with that kind
alone, its command 0, its stall and update timers idle, a released brake setting again and the other leaf stopped; a
leaf in FAULT adds the kind to its set and keeps its first kind. -/
def FaultFound (k : LeafFault) (l : LeafId) (a b : Blocks) : Prop :=
  leafState b l = .fault ∧
    (leafState a l ≠ .fault →
      (b.leaves.get l).flt.first = some k ∧ (b.leaves.get l).flt.kinds = [k] ∧ (b.leaves.get l).flt.stall = none ∧
      (b.leaves.get l).mot.command = 0 ∧ (b.leaves.get l).mot.updateTimer = none ∧
      ((a.brakes.get l).state = .released → b.brakes.get l =
        { a.brakes.get l with command := .set, state := .setting, timer := some a.par.brakeProveMs }) ∧
      b.leaves.get (otherLeaf l) =
        { a.leaves.get (otherLeaf l) with mot := stopped (a.leaves.get (otherLeaf l)).mot }) ∧
    (leafState a l = .fault →
      (b.leaves.get l).flt.first = (a.leaves.get l).flt.first ∧
      (b.leaves.get l).flt.kinds = (if k ∈ (a.leaves.get l).flt.kinds then (a.leaves.get l).flt.kinds
        else (a.leaves.get l).flt.kinds ++ [k]) ∧
      b.leaves.get (otherLeaf l) = a.leaves.get (otherLeaf l))

end Sys2Proof.Safety
end

