-- ==== Sys2Proof/WellFormed.lean ====
section
/-! DEFINITION. The operands a command can have on the lines of the block. A request's octets are whatever a console may
send, so its own rule judges them; what is checked here is what a frame and a line can carry. -/

namespace Sys2Proof

/-- The request kinds of section 12.6: a frame of another kind is the command UNKNOWN_KIND. -/
def knownKind (kind : Octet) : Bool :=
  let k := kind.toNat
  decide ((0x01 ≤ k ∧ k ≤ 0x0A) ∨ (0x10 ≤ k ∧ k ≤ 0x1C) ∨ (0x20 ≤ k ∧ k ≤ 0x22) ∨ (0x30 ≤ k ∧ k ≤ 0x38))

/-- A body of a console frame has at most 64 octets (R197). -/
def bodyFits (body : List Octet) : Bool := decide (body.length ≤ 64)

/-- The number of points of LOAD_CLEARANCE fits a body of 1 + 4 × count octets (section 12.6). -/
def pointsFit (points : List (BitVec 16 × BitVec 16)) : Bool := decide (points.length ≤ 15)

/-- The period timer's value at a falling edge, in µs (R180, R181); also 0, which R180 gives the timer and not the last period
(DESIGN CHOICE, assumption log 6). -/
def elapsedFits (elapsed : Nat) : Bool := decide (elapsed ≤ 2000000)

/-- Well-formed commands. -/
def WellFormed : Instr → Bool
  | .loadClearance _ points => pointsFit points
  | .unknownKind kind _ body => !(knownKind kind) && bodyFits body
  | .consoleFrameReceived _ _ body _ => bodyFits body
  | .anemoFallingEdge elapsed => elapsedFits elapsed
  | .powerOnReset => true
  | .identify _ => true
  | .setParam _ _ _ _ => true
  | .getParam _ _ _ => true
  | .assignInput _ _ _ _ _ _ _ _ => true
  | .assignOutput _ _ _ _ _ => true
  | .clearAssignment _ _ _ _ _ => true
  | .configDone _ => true
  | .reconfigure _ => true
  | .restart _ => true
  | .roadClose _ => true
  | .roadOpen _ => true
  | .locksWithdraw _ => true
  | .locksDrive _ => true
  | .leavesRaise _ _ => true
  | .leavesLower _ => true
  | .recoveryLower _ => true
  | .motionHold _ => true
  | .motionResume _ => true
  | .estopReset _ => true
  | .faultClearLeaf _ _ => true
  | .faultClearLock _ _ => true
  | .faultClearBarrier _ _ => true
  | .overrideGrant _ _ _ => true
  | .overrideRevoke _ _ _ => true
  | .vesselAdd _ _ _ _ _ => true
  | .vesselWithdraw _ _ => true
  | .vesselCleared _ _ => true
  | .getSpan _ _ _ => true
  | .getRoad _ _ _ => true
  | .getLeaf _ _ _ => true
  | .getLocks _ _ _ => true
  | .getLink _ _ _ => true
  | .getInput _ _ _ => true
  | .getQueue _ _ _ => true
  | .getWind _ _ _ => true
  | .presence _ _ _ => true
  | .frameAbandoned => true
  | .octetGapTimeout => true
  | .transmitFrameEnd => true
  | .presenceTimerExpiry => true
  | .foundFrame _ _ => true
  | .confirmingFrame _ _ => true
  | .alignedFrameBoundary _ _ => true
  | .fieldFrameStart _ => true
  | .samplingTimerExpiry _ => true
  | .holdExpiry _ => true
  | .flashPhaseBoundary => true
  | .edgeWindowExpiry _ => true
  | .proveTimerExpiry _ => true
  | .settleExpiry _ => true
  | .amberExpiry => true
  | .redWarnExpiry => true
  | .clearanceTimerExpiry => true
  | .barrierTravelTimeout _ => true
  | .encoderCount _ _ => true
  | .illegalTransition _ => true
  | .speedWindowEnd _ => true
  | .stallTimerExpiry _ => true
  | .profileUpdate _ => true
  | .brakeReleaseTimeout _ => true
  | .brakeSetTimeout _ => true
  | .lockTravelTimeout _ => true
  | .gapRunOut => true
  | .calm => true
  | .gustAgeRise => true
  | .adoptTimeout => true
  | .consoleOctetReceived _ _ => true

end Sys2Proof
end

