-- ==== Sys2Proof/Certificates/Slice0/Obligations.lean ====
section
/-! DEFINITION. The statements for the provers. `atTaking s` is the state of the blocks when a request that arrives in `s`
is taken, `answered` the state after it, `eventEnd s b` the state after an event whose own work leaves the blocks `b`
(Sys2Proof/Safety.lean). -/

open Sys2Proof Sys2Proof.Machine Sys2Proof.Safety

/-! ## The machine -/

/-- One step runs the command at the front of the queue on the state with the queue's rest; with an empty queue the
block idles (the model's choice, assumption logs 5 and 27). -/
def Obligations.StepRunsTheFrontCommand : Prop :=
  (∀ (c : Instr) (rest : List Instr) (s : State),
      step { s with pending := c :: rest } = exec c { s with pending := rest }) ∧
    ∀ s : State, s.pending = [] → step s = .next s

/-- Every command answers a next state, and no command touches the commands that wait. -/
def Obligations.CommandsCompleteAndKeepTheQueue : Prop :=
  ∀ (i : Instr) (s : State), ∃ t : State, exec i s = .next t ∧ t.pending = s.pending

/-- POWER_ON_RESET: every record takes the value of State.reset but the phase pairs, which are those of the encoder
lines (assumption log 14); the port and RQ are empty. -/
def Obligations.PowerOnResetSetsEveryRecord : Prop :=
  ∀ s : State, ∃ t : State, exec .powerOnReset s = .next t ∧ t.pending = s.pending ∧ t.cpt = {} ∧ t.rq = [] ∧
    SameBut [.leaves] State.reset.blocks t.blocks ∧
      ∀ l : LeafId, t.blocks.leaves.get l =
        { pos := { phaseA := (s.blocks.leaves.get l).pos.phaseA, phaseB := (s.blocks.leaves.get l).pos.phaseB } }

/-- The values that the manual's tables give for power-on reset: the SIL record, the sequencers at rest, barriers
UNPROVEN, locks FAULT, brakes SET, leaves PARKED and UNCERTAIN, links in HUNT, lamps UNTESTED, no table, RQ empty. -/
def Obligations.ResetHasTheManualsValues : Prop :=
  let b := State.reset.blocks
  b.sil = { mode := .config, phase := .traffic, held := false, cause := .none, latch := false, consoleLost := false,
            order := none, overrides := [], adoptTimer := none, adoptOutcome := .none, notFresh := 0 } ∧
    b.rsq = { phase := .roadOpen, timer := .idle, clearance := .idle, wait := .none, cause := .none, step := .none,
              exitPaused := false, bells := ⟨false, false⟩ } ∧
    (∀ i : BarrierId, b.barriers.get i = { command := .stop, state := .unproven, timer := .idle, fault := .none }) ∧
    (∀ k : LockId, b.locks.get k = { command := .off, state := .fault, timer := .idle, fault := .none }) ∧
    (∀ l : LeafId, (b.brakes.get l).command = .set ∧ (b.brakes.get l).state = .set ∧
      (b.leaves.get l).mot.state = .parked ∧ (b.leaves.get l).pos.certain = false ∧
        (b.leaves.get l).pos.position = 0) ∧
    (∀ k : Link, (b.links.get k).state = .hunt ∧ (b.links.get k).status = .undefined) ∧
    (∀ g : Lamp, lampRec b g = { fitted := false, command := false, state := .untested, proofs := 0, timer := .idle,
                                 remaining := 0, absentSeen := false }) ∧
    b.nav.table = [] ∧ b.nav.queue = [] ∧ b.wmn.sound = true ∧ b.presence = none ∧
    State.reset.rq = [] ∧ State.reset.cpt.buffer = [] ∧ State.reset.cpt.tx = none ∧ State.reset.pending = []

/-! ## Events -/

/-- An event on a port where no received frame waits: the blocks are those that follow from its own work, and while a frame
is being sent the port is untouched and RQ has the event's postings. What follows by itself never touches the links, the
input records, the channel assignment table, the clearance table, the wind record or the clock; in CONFIG nothing follows.
In OPERATE what follows is four rounds of leaves, conditions, lock sequence, road, span, passage and lamps; a leaf that has
changed after the leaves' part of a round is noted for its report (R127). In the span's part a phase whose work is complete
moves on (R14), a movement that stands still without its completion ends short (R14), a RECOVERY_LOWER that is seated ends
its order, in RECOVERY and in UNLOCKED, whose phase stays, and one whose leaves rest off their seats ends short in both
(R15), and RECOVERY is derived again when the road comes to be closed, and while it is closed when a lock sequence completes
in its own direction or a RECOVERY_LOWER completes, and at no other moment (R16). What follows by itself, and in which
order, is the model's reading (assumption logs 7, 9, 21 and 33), and so is that a raise that waits over arrived leaves ends
RAISING at once (assumption log 22). -/
def Obligations.EventsFollowAndPost : Prop :=
  (∀ (s : State) (b : Blocks), s.cpt.buffer = [] → EventLeads s b (eventEnd s b)) ∧
  (∀ s0 b : Blocks, SameBut [.sil, .slu, .rsq, .barriers, .leaves, .brakes, .locks, .seq, .nav, .par, .pend, .presence,
      .notes] b (following s0 b) ∧ (following s0 b).nav.table = b.nav.table ∧
    (b.sil.mode = .config → following s0 b = { b with notes := [] }) ∧
    (b.sil.mode = .operate → following s0 b = { iter (settleRound s0) 4 b with notes := [] }) ∧
    settleRound s0 b = followAspects
      (followPassage (followSpan s0 (roadAdvance (advanceSequence (followConditions (noteLeaves s0 (followLeaves b))))))) ∧
    followLeaves b = superviseSkew (profileStart
      (leafRest .south (leafRest .north (judgeRaiseArrival .south (judgeRaiseArrival .north b))))) ∧
    followConditions b = takeNextMovement
      (applyCeiling .south (applyCeiling .north (interruptUnseated (maintainConditions (dropOverrides b))))) ∧
    followPassage b = selectAspects (grantTest (completeGroup (openGroup (watchProceed b))))) ∧
  (∀ s0 b : Blocks,
    let c := noteLeaves s0 b
    let same := fun l : LeafId =>
      let x := s0.leaves.get l
      let y := b.leaves.get l
      let p := s0.brakes.get l
      let q := b.brakes.get l
      x.mot.state = y.mot.state ∧ x.mot.arrived = y.mot.arrived ∧ x.pos.certain = y.pos.certain ∧
        x.pos.angleKnown = y.pos.angleKnown ∧ x.flt.first = y.flt.first ∧ x.flt.kinds = y.flt.kinds ∧
        p.state = q.state ∧ p.fault = q.fault ∧ p.mismatch = q.mismatch
    SameBut [.notes] b c ∧ (∃ more : List Note, c.notes = b.notes ++ more) ∧
      ∀ n : Note, n ∈ c.notes ↔ n ∈ b.notes ∨ ∃ l : LeafId, n = .leaf l ∧ ¬ same l) ∧
  ∀ s0 b : Blocks,
    let c := followSpan s0 b
    let atRest := fun l : LeafId => leafState b l = .seated ∨ leafState b l = .parked ∨ leafState b l = .fault
    let seated := ∀ l : LeafId, leafState b l = .seated
    let arrived := ∀ l : LeafId, leafState b l = .parked ∧ (b.leaves.get l).mot.arrived = true
    let locks := fun x : LockState => ∀ k : LockId, (b.locks.get k).state = x
    let reached := fun x : LockState => locks x ∧ ¬ ∀ k : LockId, (s0.locks.get k).state = x
    let completes := (b.seq.status = .complete ∧ (s0.seq.status ≠ .complete ∨ .lock .centre ∈ b.notes)) ∨
      (b.seq.sequence = .withdraw ∧ reached .withdrawn) ∨ (b.seq.sequence = .drive ∧ reached .driven)
    let movesTo := fun p : SpanPhase => c.sil = { b.sil with phase := p, order := none }
    let shortOf := c.sil = { b.sil with held := true, cause := if b.sil.held then b.sil.cause else .movementShort }
    let derives := fun x : SpanPhase => (seated → locks .driven → x = .closed) ∧
      (seated → locks .withdrawn → x = .unlocked) ∧ (¬ (seated ∧ (locks .driven ∨ locks .withdrawn)) → x = .recovery)
    SameBut [.sil, .notes] b c ∧
    (b.sil.order = none →
      (b.sil.phase = .closing → b.rsq.phase = .roadClosed → movesTo .closed) ∧
      (b.sil.phase = .reopening → b.rsq.phase = .roadOpen ∨ b.rsq.phase = .alert → movesTo .traffic) ∧
      (b.sil.phase = .unlocking → locks .withdrawn → movesTo .unlocked) ∧
      (b.sil.phase = .locking → locks .driven → movesTo .closed)) ∧
    (b.sil.phase = .raising → arrived → b.sil.order ≠ some .recoveryLower → movesTo .opened) ∧
    (b.sil.phase = .lowering → seated → movesTo .seated) ∧
    (b.sil.phase = .raising → ¬ arrived → b.sil.order ≠ some .recoveryLower → (∀ l, atRest l) →
      waitingMovement b = none → shortOf) ∧
    (b.sil.phase = .lowering → ¬ seated → (∀ l, atRest l) → waitingMovement b = none → shortOf) ∧
    (b.sil.phase = .recovery → b.sil.order = some .recoveryLower → ¬ seated → (∀ l, atRest l) →
      waitingMovement b = none → c.sil.held = true ∧ c.sil.order = some .recoveryLower ∧
        c.sil.cause = (if b.sil.held then b.sil.cause else .movementShort)) ∧
    (b.sil.phase = .unlocked → b.sil.order = some .recoveryLower →
      (seated → c.sil = { b.sil with order := none }) ∧
      (¬ seated → (∀ l, atRest l) → waitingMovement b = none → shortOf) ∧
      (¬ seated → (∃ l, ¬ atRest l) ∨ waitingMovement b ≠ none → c.sil = b.sil)) ∧
    (b.sil.phase = .recovery → b.sil.order = some .recoveryLower → seated → c.sil.order = none ∧
      c.sil.held = b.sil.held ∧ (b.rsq.phase = .roadClosed → derives c.sil.phase) ∧
      (b.rsq.phase ≠ .roadClosed → c.sil.phase = .recovery)) ∧
    (b.sil.phase = .recovery → b.rsq.phase = .roadClosed → s0.rsq.phase ≠ .roadClosed → derives c.sil.phase) ∧
    (b.sil.phase = .recovery → b.rsq.phase = .roadClosed → completes → derives c.sil.phase) ∧
    (b.sil.phase = .recovery → s0.rsq.phase = .roadClosed → ¬ completes →
      ¬ (b.sil.order = some .recoveryLower ∧ seated) → c.sil.phase = .recovery) ∧
    (b.sil.phase = .recovery → b.rsq.phase ≠ .roadClosed → c.sil.phase = .recovery)

/-- A request that arrives on a quiet port is taken at once and its reply starts. It is the same as the frame that
carries it, received whole with the CRC of R197; a frame whose CRC differs is discarded and the receiver hunts
again. That a request is the arrival of its whole frame is the model's choice (assumption log 1). -/
def Obligations.RequestsAreFramesTakenAndAnswered : Prop :=
  (∀ (i : Instr) (f : Frame) (s : State), requestFrame i = some f → f.body.length ≤ 64 → QuietPort s →
    (takeRequest f (atTaking s)).resets = false →
      exec i s = .next (answered s f (takeRequest f (atTaking s)).blocks (takeRequest f (atTaking s)).result)) ∧
  ((∀ (i : Instr) (f : Frame) (s : State), requestFrame i = some f →
      exec i s = exec (.consoleFrameReceived f.kind f.tag f.body (crc16 (crcOctets f.kind f.tag f.body))) s) ∧
    ∀ (kind tag : Octet) (body : List Octet) (crc : BitVec 16) (s : State), body.length ≤ 64 →
      crc ≠ crc16 (crcOctets kind tag body) →
        exec (.consoleFrameReceived kind tag body crc) s = .next { s with cpt := { s.cpt with receiver := .hunting } })

/-- The receiver finds every frame: the octets of a frame, handed over one by one to a hunting receiver, do what
the whole frame does. Whole frames beside single octets are the model's choice (assumption log 2). -/
def Obligations.OctetsMakeTheFrame : Prop :=
  ∀ (kind tag : Octet) (body : List Octet) (crc : BitVec 16) (s : State), body.length ≤ 64 →
    s.cpt.receiver = .hunting →
      execAll ((lineOctets kind tag body crc).map octetCommand) s =
        exec (.consoleFrameReceived kind tag body crc) s

/-- What the receiver does with one octet that completes no frame: hunting it looks for 0xC5 with a good stop bit;
inside a frame a bad stop bit or a LEN outside 2 to 66 abandons the frame, and any other octet is kept.
FRAME_ABANDONED and OCTET_GAP_TIMEOUT move the receiver to HUNTING and nothing else. FRAME_ABANDONED and
OCTET_GAP_TIMEOUT as commands of their own are the model's reading (assumption log 2). -/
def Obligations.ReceiverTakesOctets : Prop :=
  ((∀ (o : Octet) (stop : Bool) (s : State), s.cpt.receiver = .hunting →
      exec (.consoleOctetReceived o stop) s =
        .next (if stop = true ∧ o = 0xC5#8 then { s with cpt := { s.cpt with receiver := .inFrame [] octetGapMs } }
               else s)) ∧
    (∀ (o : Octet) (os : List Octet) (ms : Nat) (s : State), s.cpt.receiver = .inFrame os ms →
      exec (.consoleOctetReceived o false) s = .next { s with cpt := { s.cpt with receiver := .hunting } }) ∧
    (∀ (o : Octet) (ms : Nat) (s : State), s.cpt.receiver = .inFrame [] ms →
      exec (.consoleOctetReceived o true) s =
        .next { s with cpt := { s.cpt with
          receiver := if 2 ≤ o.toNat ∧ o.toNat ≤ 66 then .inFrame [o] octetGapMs else .hunting } }) ∧
    ∀ (len o : Octet) (os : List Octet) (ms : Nat) (s : State), s.cpt.receiver = .inFrame (len :: os) ms →
      2 ≤ len.toNat → len.toNat ≤ 66 → os.length + 1 < len.toNat + 2 →
        exec (.consoleOctetReceived o true) s =
          .next { s with cpt := { s.cpt with receiver := .inFrame (len :: os ++ [o]) octetGapMs } }) ∧
  (∀ s : State, exec .frameAbandoned s = .next { s with cpt := { s.cpt with receiver := .hunting } } ∧
    exec .octetGapTimeout s = .next { s with cpt := { s.cpt with receiver := .hunting } })

/-- A valid frame that finds the receive buffer full is discarded: the overrun count rises by 1 up to 255 and a PORT report
that carries it is posted; with room in the buffer it waits there. While a frame is being sent and both replies wait no
request is taken. Whether or not it finds room, a valid frame in OPERATE restarts the presence timer at PRESENCE_MS, of
which a pending value becomes active, and clears a set console-lost flag, posting a CONSOLE report; in CONFIG and ADOPT it
does neither. A request as the arrival of its whole frame, and the PRESENCE_MS that ran out as a field of its own, are the
model's choices (assumption logs 1 and 25), as is the subject 0 of the PORT and the CONSOLE report (assumption log 10). -/
def Obligations.FramesWaitOrOverrun : Prop :=
  (∀ b : Blocks,
    let ms := b.pend.presenceMs.getD b.par.presenceMs
    (b.sil.mode ≠ .operate → presenceRestart b = b) ∧
    (b.sil.mode = .operate → presenceRestart b = { b with
      presence := some ms
      par := { b.par with presenceMs := ms }
      pend := { b.pend with presenceMs := none }
      sil := { b.sil with consoleLost := false }
      notes := if b.sil.consoleLost then b.notes ++ [.console] else b.notes })) ∧
  ∀ (i : Instr) (f : Frame) (s : State), requestFrame i = some f → f.body.length ≤ 64 →
    s.cpt.replies.length = 2 → s.cpt.tx ≠ none →
      ∃ t : State, exec i s = .next t ∧ t.blocks = following s.blocks (presenceRestart s.blocks) ∧
        t.cpt.receiver = .hunting ∧ t.cpt.replies = s.cpt.replies ∧ t.cpt.tx = s.cpt.tx ∧
          (s.cpt.buffer.length < 2 → t.cpt.buffer = s.cpt.buffer ++ [f] ∧ t.cpt.overrun = s.cpt.overrun ∧
            t.rq = (eventPostings s.blocks (settle s.blocks (presenceRestart s.blocks))).foldl post s.rq) ∧
          (s.cpt.buffer.length = 2 → t.cpt.buffer = s.cpt.buffer ∧ t.cpt.overrun = min (s.cpt.overrun + 1) 255 ∧
            t.rq = post ((eventPostings s.blocks (settle s.blocks (presenceRestart s.blocks))).foldl post s.rq)
              { kind := .port, subject := 0, body := [BitVec.ofNat 8 (min (s.cpt.overrun + 1) 255)] }) ∧
          (s.cpt.buffer.length ≤ 2 → s.blocks.sil.mode = .operate → s.blocks.sil.consoleLost = true →
            ∃ e ∈ t.rq, e.kind = .console ∧ e.subject = 0 ∧ e.body = 0#8 :: u16 s.blocks.presRanOut)

/-- TRANSMIT_FRAME_END, in every mode. With no received frame waiting, what follows by itself follows and the event's
postings go to RQ; then the oldest reply starts; with no reply waiting, the first eligible entry of RQ as it then stands
starts and leaves RQ, with its count as TAG; with neither the transmitter is IDLE. Where both replies and a received frame
wait, the oldest reply starts and that frame's request is taken in the same event, its reply waiting (a request that resets
nothing). The octets on the line are START, LEN, KIND, TAG, BODY and the CRC of R197, high octet first. -/
def Obligations.TransmitterChoosesAgain : Prop :=
  (∀ s : State, s.cpt.buffer = [] →
    let rq := (eventPostings s.blocks (settle s.blocks s.blocks)).foldl post s.rq
    let floor := (following s.blocks s.blocks).par.reportFloor
    ∃ t : State, exec .transmitFrameEnd s = .next t ∧ t.pending = s.pending ∧
      t.blocks = following s.blocks s.blocks ∧
      (∀ r rest, s.cpt.replies = r :: rest →
        t.cpt = { s.cpt with tx := some r, replies := rest } ∧ t.rq = rq) ∧
      (s.cpt.replies = [] → ∀ e, firstEligible floor rq = some e →
        t.cpt = { s.cpt with tx := some { kind := BitVec.ofNat 8 (0x40 + e.kind.number),
                                          tag := BitVec.ofNat 8 e.count, body := BitVec.ofNat 8 e.subject :: e.body } } ∧
        t.rq = rq.filter fun y => decide ((y.kind, y.subject) ≠ (e.kind, e.subject))) ∧
      (s.cpt.replies = [] → firstEligible floor rq = none → t.cpt = { s.cpt with tx := none } ∧ t.rq = rq)) ∧
  (∀ (s : State) (f first second : Frame) (rest : List Frame), s.cpt.buffer = f :: rest →
    s.cpt.replies = [first, second] →
      let x := takeRequest f (settle s.blocks s.blocks)
      x.resets = false →
        exec .transmitFrameEnd s = .next
          { pending := s.pending
            blocks := following s.blocks x.blocks
            cpt := { s.cpt with tx := some first, replies := [second, replyFrame f x.result], buffer := rest }
            rq := (eventPostings s.blocks (settle s.blocks x.blocks)).foldl post s.rq }) ∧
  ∀ c : Cpt, (c.tx = none → c.sending = []) ∧
    ∀ f : Frame, c.tx = some f →
      let counted := BitVec.ofNat 8 (f.body.length + 2) :: f.kind :: f.tag :: f.body
      c.sending = 0xC5#8 :: (counted ++ [(crc16 counted).extractLsb' 8 8, (crc16 counted).extractLsb' 0 8])

/-- The report queue. Every kind has the priority of R204's table. The entry the transmitter takes stands first in RQ order:
no eligible entry has a smaller priority number, and none of its own priority was posted before it (R204, R205). A posting
under an absent key is appended with count 1; under a key that is present the entry keeps its place, takes the new content
and counts one more, up to 255. No entry is taken exactly where none has a priority number within the floor. And what an
event that began with `s0` and ends with `b` posts: each key at most once, under the keys of R204's table, and under each
key exactly at the changes its rule names, with the fields it lists as they stand at the event's end. What the changes of an
event are, the order among the reports of different rules, the subject 0 of a kind with one key, and the fields that
assumption logs 10 and 11 name, are the model's reading (assumption logs 8, 9, 10 and 11); the clearance without a table is
a free value (assumption log 12). -/
def Obligations.ReportQueueKeepsItsOrder : Prop :=
  (∀ k : ReportKind, reportPriority k =
    (if k = .estop ∨ k = .clearanceLost ∨ k = .leaf then 0
     else if k = .span ∨ k = .road ∨ k = .barrier ∨ k = .lock ∨ k = .nav ∨ k = .passage then 1
     else if k = .console ∨ k = .link ∨ k = .station ∨ k = .lamp ∨ k = .wind then 2 else 3)) ∧
  (∀ (floor : Nat) (rq : List Entry) (e : Entry), firstEligible floor rq = some e →
    reportPriority e.kind ≤ floor ∧
      ∃ before after : List Entry, rq = before ++ e :: after ∧
        (∀ x ∈ before, reportPriority e.kind < reportPriority x.kind) ∧
          ∀ x ∈ after, reportPriority e.kind ≤ reportPriority x.kind) ∧
  (∀ (floor : Nat) (rq : List Entry), firstEligible floor rq = none ↔ ∀ e ∈ rq, floor < reportPriority e.kind) ∧
  ((∀ (rq : List Entry) (p : Posting), (∀ e ∈ rq, (e.kind, e.subject) ≠ (p.kind, p.subject)) →
      post rq p = rq ++ [{ kind := p.kind, subject := p.subject, count := 1, body := p.body }]) ∧
    ∀ (before after : List Entry) (e : Entry) (p : Posting), (e.kind, e.subject) = (p.kind, p.subject) →
      QueueOk (before ++ e :: after) →
        post (before ++ e :: after) p =
          before ++ { e with body := p.body, count := min (e.count + 1) 255 } :: after) ∧
  ∀ s0 b : Blocks,
    let P := eventPostings s0 b
    let posts := fun (k : ReportKind) (subject : Nat) (on : Prop) (body : List Octet) =>
      ∀ x : List Octet, ({ kind := k, subject := subject, body := x } : Posting) ∈ P ↔ on ∧ x = body
    let o := fun n : Nat => BitVec.ofNat 8 n
    let yes := fun x : Bool => if x then 1#8 else 0#8
    let left := fun t : Option Nat => match t with
      | none => 0#8 :: u16 0
      | some ms => 1#8 :: u16 ms
    let travel := fun t : TravelTimer => match t with
      | .idle => 0#8 :: u16 0
      | .running ms => 1#8 :: u16 ms
      | .halted ms => 2#8 :: u16 ms
    let known := fun x : Option Int => match x with
      | none => u24 0xFFFFFF
      | some v => s24 v
    let certain := fun l : LeafId => if (b.leaves.get l).pos.certain then 0#8 else 1#8
    (P.map fun p => (p.kind, p.subject)).Nodup ∧
    (∀ p ∈ P, match p.kind with
      | .estop | .clearanceLost | .span | .road | .console | .wind => p.subject = 0
      | .leaf | .nav => p.subject < 2
      | .lock | .link | .station => p.subject < 3
      | .barrier | .passage => p.subject < 4
      | .lamp => p.subject < 12
      | .input => 1 ≤ p.subject ∧ p.subject ≤ 41
      | .port => False) ∧
    P.Pairwise (fun p q => ¬ (p.kind = .nav ∧ q.kind = .passage)) ∧
    -- LEAF
    (∀ l : LeafId,
      let x := s0.leaves.get l
      let y := b.leaves.get l
      let p := s0.brakes.get l
      let q := b.brakes.get l
      let same := x.mot.state = y.mot.state ∧ x.mot.arrived = y.mot.arrived ∧ x.pos.certain = y.pos.certain ∧
        x.pos.angleKnown = y.pos.angleKnown ∧ x.flt.first = y.flt.first ∧ x.flt.kinds = y.flt.kinds ∧
        p.state = q.state ∧ p.fault = q.fault ∧ p.mismatch = q.mismatch
      posts .leaf (if l = .north then 0 else 1) (¬ same ∨ .leaf l ∈ b.notes)
        ([o y.mot.state.number, certain l, yes y.pos.angleKnown] ++ s24 y.pos.position ++
         known (if y.pos.angleKnown then some (leafAngle b l) else none) ++ u16 y.win.speed ++
         [o y.win.dir.number, o ((y.flt.first.map fun k => k.number + 1).getD 0)] ++
         u16 ((y.flt.kinds.map fun k => 2 ^ k.number).sum) ++ [o y.pos.errorCount] ++ u16 y.flt.wrongDir ++
         known y.pos.seatCorrection ++ known y.pos.openLimitPos ++
         [o y.mot.lastStop.number, yes y.mot.arrived, o y.mot.kind.number] ++
         (match y.mot.target with
          | none => [0#8, 0#8, 0#8]
          | some .full => [1#8, 0#8, 0#8]
          | some (.angle cd) => 2#8 :: u16 cd) ++
         u16 y.mot.command ++ [o q.command.number, o q.state.number] ++ left q.timer ++
         [o q.fault.number, o q.lastFault.number, yes q.mismatch])) ∧
    -- SPAN
    (let x := s0.sil
     let y := b.sil
     posts .span 0 (¬ (x.mode = y.mode ∧ x.phase = y.phase ∧ x.held = y.held ∧ x.cause = y.cause ∧
         x.overrides = y.overrides ∧ x.latch = y.latch ∧ x.consoleLost = y.consoleLost) ∨ .span ∈ b.notes)
       ([o y.mode.number, o y.phase.number, yes y.held] ++
        (match y.cause with
         | .none => [0#8, 0#8]
         | .holdRequest => [1#8, 0#8]
         | .estop => [2#8, 0#8]
         | .consoleLost => [3#8, 0#8]
         | .maintained c => [4#8, o c.number]
         | .movementShort => [5#8, 0#8]) ++
        [yes y.latch, yes y.consoleLost] ++
        (match y.order with
         | none => [0#8, 0#8, 0#8, 0#8]
         | some (.raise .full) => [1#8, 0#8, 0#8, 0#8]
         | some (.raise (.angle cd)) => 1#8 :: 1#8 :: u16 cd
         | some .lower => [2#8, 0#8, 0#8, 0#8]
         | some .recoveryLower => [3#8, 0#8, 0#8, 0#8]) ++
        o y.overrides.length :: (y.overrides.map fun e => match e with
          | .barrier i => [0#8, o (barrierNumber i)]
          | .complement a => [1#8, o (approachNumber a)]).flatten ++
        left y.adoptTimer ++ [o y.adoptOutcome.number, o y.notFresh])) ∧
    -- ROAD and BARRIER
    (let x := s0.rsq
     let y := b.rsq
     posts .road 0 (¬ (x.phase = y.phase ∧ x.wait = y.wait ∧ x.cause = y.cause) ∨ .road ∈ b.notes)
       ([o y.phase.number, o b.slu.aspects.north.number, o b.slu.aspects.south.number, yes y.bells.north,
         yes y.bells.south, o y.wait.number, o y.cause.number, o y.step.number] ++
        (match y.timer with
         | .idle => 0#8 :: u16 0
         | .running ms => 1#8 :: u16 ms
         | .runOut => 2#8 :: u16 0) ++
        (match y.clearance with
         | .idle => 0#8 :: u16 0
         | .full => 1#8 :: u16 b.par.clearMs
         | .running ms => 2#8 :: u16 ms
         | .runOut => 3#8 :: u16 0))) ∧
    (∀ i : BarrierId,
      let y := b.barriers.get i
      let switch := fun f : InputFn => [yes (inputRec b f).qualified, o (inputRec b f).freshness.number]
      posts .barrier (barrierNumber i) (¬ ((s0.barriers.get i).state = y.state ∧ (s0.barriers.get i).fault = y.fault))
        ([o y.command.number, o y.state.number, o y.fault.number] ++ travel y.timer ++ switch (upSwitch i) ++
         switch (downSwitch i) ++ [yes (decide (.barrier i ∈ b.sil.overrides))])) ∧
    -- LOCK
    (∀ k : LockId,
      let same := fun j : LockId => (s0.locks.get j).state = (b.locks.get j).state ∧
        (s0.locks.get j).command = (b.locks.get j).command ∧ (s0.locks.get j).fault = (b.locks.get j).fault
      let y := b.locks.get k
      posts .lock (lockNumber k)
        (¬ same k ∨ (k = .centre ∧ (∀ j, same j) ∧ (s0.seq ≠ b.seq ∨ .lock .centre ∈ b.notes)))
        ([o y.command.number, o y.state.number, o y.fault.number] ++ travel y.timer ++
         [yes (made b (.lockDriven k)), yes (made b (.lockWithdrawn k)), o b.seq.sequence.number, o b.seq.step.number,
          o b.seq.status.number])) ∧
    -- PASSAGE and NAV
    (∀ k : Fin 4,
      posts .passage k.val (s0.nav.slots[k.val]? ≠ b.nav.slots[k.val]? ∨
          (k.val = 0 ∧ s0.nav.group ≠ b.nav.group) ∨ .passage k.val ∈ b.notes)
        ((match b.nav.slots[k.val]? with
          | none => List.replicate 9 0#8
          | some x => o (x.state.number + 1) :: (u16 x.vessel.ident ++ [o (dirNumber x.vessel.dir)] ++
              u16 x.vessel.airDraft ++ [o x.vessel.cls.number] ++ u16 x.vessel.required)) ++
         [o b.nav.group.number] ++
         (match b.nav.target with
          | .none => [0#8, 0#8, 0#8]
          | .full => [1#8, 0#8, 0#8]
          | .passage cd => 2#8 :: u16 cd) ++ u16 b.nav.targetAngle)) ∧
    (∀ d : Dir,
      posts .nav (if d = .inbound then 0 else 1)
        (s0.nav.aspects.get d ≠ b.nav.aspects.get d ∨ .nav d ∈ b.notes)
        ([o (b.nav.aspects.get d).number, o b.nav.fall.number] ++
         (match proceedingVessel b.nav with
          | none => u24 0xFFFFFF
          | some v => u24 (if v.dir = d then v.ident else 0xFFFFFF)) ++
         s24 (effectiveLower b) ++ u16 (reportedClearance b).toNat)) ∧
    -- LINK and STATION
    (∀ l : Link,
      let x := s0.links.get l
      let y := b.links.get l
      let body := fun frames errors : Nat => [o y.state.number, o y.huntCause.number] ++ u16 frames ++ u16 errors ++
        [yes y.excess, o y.status.number]
      ((∀ frames errors : Nat, .link l frames errors ∉ b.notes) →
        posts .link (linkNumber l) (x.state ≠ y.state) (body y.windowFrames y.windowErrors)) ∧
      (∀ (frames errors : Nat) (before after : List Note), b.notes = before ++ .link l frames errors :: after →
        (∀ n m : Nat, .link l n m ∉ after) → posts .link (linkNumber l) True (body frames errors)) ∧
      posts .station (linkNumber l) (x.status ≠ y.status) [o y.status.number, o y.state.number]) ∧
    -- LAMP
    (∀ g : Lamp,
      let y := lampRec b g
      let red := fun a : Approach => [yes (holdsComplement b a)]
      posts .lamp (lampIndex g).val (y.fitted = true ∧ (lampRec s0 g).state ≠ y.state)
        ([o y.state.number, o y.proofs, if y.command then 0#8 else 1#8, yes (made b (lampInput g)),
          o (inputRec b (lampInput g)).freshness.number] ++
         (match g with
          | .redA a => red a
          | .redB a => red a
          | .amber _ | .red1 _ | .red2 _ | .green _ => []))) ∧
    -- WIND and CONSOLE
    (let w := b.wmn
     posts .wind 0 (¬ (s0.wmn.alarm = w.alarm ∧ s0.wmn.sound = w.sound))
       ([o w.measure.number] ++ u24 (w.lastPeriod.getD 0xFFFFFF) ++ u16 w.wind ++ u16 w.gust ++
        [o w.age, o w.gustLevel.number, o w.alarm.number, if w.sound then 0#8 else 1#8, o w.run, o w.implausible])) ∧
    posts .console 0 (.console ∈ b.notes) (yes b.sil.consoleLost :: u16 b.presRanOut) ∧
    -- INPUT
    (∀ i : Fin 41,
      let x := s0.iq.recs.get i
      let y := b.iq.recs.get i
      let entry : Option InputEntry := if h : i.val < 24 then b.cat.inputs.get ⟨i.val, h⟩ else none
      let reports := match entry with
        | some (.position _ _ _ report) => report
        | some .notFitted => true
        | none => true
      posts .input (i.val + 1)
        ((¬ (x.qualified = y.qualified ∧ x.freshness = y.freshness) ∧ reports = true) ∨ .input i ∈ b.notes)
        ([yes y.qualified, o y.freshness.number] ++
         (if 24 ≤ i.val then [1#8, 0#8, 0#8, 0#8] else
           match entry with
           | some (.position p _ _ _) =>
             [0#8, if i.val < 9 then 0#8 else if i.val < 18 then 1#8 else 2#8, o (p.val / 8 + 1), o (p.val % 8)]
           | some .notFitted => [2#8, 0#8, 0#8, 0#8]
           | none => [3#8, 0#8, 0#8, 0#8]))) ∧
    -- ESTOP and CLEARANCE_LOST
    ((∀ leaves locks barriers, .estop leaves locks barriers ∉ b.notes) → posts .estop 0 False []) ∧
    (∀ (leaves : List LeafId) (locks : List LockId) (barriers : List BarrierId) (before after : List Note),
      b.notes = before ++ .estop leaves locks barriers :: after → (∀ x y z, .estop x y z ∉ after) →
        posts .estop 0 True
          ([yes b.sil.latch, yes (made b .estop)] ++ o leaves.length :: leaves.map (fun l => o (leafNumber l)) ++
           o locks.length :: locks.map (fun k => o (lockNumber k)) ++
           o barriers.length :: barriers.map fun i => o (barrierNumber i))) ∧
    ((∀ v low, .clearanceLost v low ∉ b.notes) → posts .clearanceLost 0 False []) ∧
    ∀ (v : Vessel) (low : Bool) (before after : List Note),
      b.notes = before ++ .clearanceLost v low :: after → (∀ x y, .clearanceLost x y ∉ after) →
        posts .clearanceLost 0 True
          (u16 v.ident ++ [o (dirNumber v.dir)] ++ u16 v.required ++ s24 (effectiveLower b) ++
           [o (leafState b .north).number, o (leafState b .south).number, certain .north, certain .south, yes low])

/-- RQ keeps one entry per key with counts 1 to 255, and the port its bounds, through every step from every state. -/
def Obligations.QueueAndPortStayInBounds : Prop :=
  ∀ s t : State, QueueOk s.rq → PortOk s.cpt → step s = .next t → QueueOk t.rq ∧ PortOk t.cpt

/-- The reset state has the bounds of the queue and the port, the hold invariant, the parameter ranges, the speed, skew
and proceed invariants, a passage queue in rank order with at most twelve places in use, and no postings left over. -/
def Obligations.ResetMeetsTheInvariants : Prop :=
  QueueOk State.reset.rq ∧ PortOk State.reset.cpt ∧ NotesOk State.reset ∧ HoldOk State.reset.blocks.sil ∧
    ParamsOk State.reset.blocks.par ∧ PendingOk State.reset.blocks.pend ∧ SpeedOk State.reset.blocks ∧
      SkewOk State.reset.blocks ∧ ProceedOk State.reset.blocks.nav ∧ RankOrder State.reset.blocks.nav.queue ∧
        placesInUse State.reset.blocks.nav ≤ 12

/-! ## Configuration and information -/

/-- IDENTIFY answers part number 420 (0x01A4), design revision 1, the mode and the span phase, in every mode. GET_PARAM
answers the active value, a flag for a pending value and the pending value, 0 when there is none; an identifier other than 1
to 40, or a subject other than 0, and 1 for FULL_COUNTS, OPEN_ANGLE_CD and RATED_CPS, gives RANGE. -/
def Obligations.IdentifyAndGetParamAnswer : Prop :=
  (∀ (tag : Octet) (s : State), QuietPort s →
    exec (.identify tag) s =
      .next (answered s { kind := 0x01#8, tag := tag, body := [] } (atTaking s)
        (.ok [0x01#8, 0xA4#8, 1#8, BitVec.ofNat 8 (atTaking s).sil.mode.number,
              BitVec.ofNat 8 (atTaking s).sil.phase.number]))) ∧
  (∀ (tag ident subject : Octet) (s : State), QuietPort s → paramNamed ident.toNat subject.toNat = true →
    let b := atTaking s
    let pending := pendingGet b.pend ident.toNat
    exec (.getParam tag ident subject) s =
      .next (answered s { kind := 0x03#8, tag := tag, body := [ident, subject] } b
        (.ok (u32 (paramGet b.par ident.toNat subject.toNat) ++ [if pending.isSome then 1#8 else 0#8] ++
          u32 (pending.getD 0))))) ∧
  (∀ (tag ident subject : Octet) (s : State), QuietPort s → paramNamed ident.toNat subject.toNat = false →
    exec (.getParam tag ident subject) s =
      .next (answered s { kind := 0x03#8, tag := tag, body := [ident, subject] } (atTaking s) .range)) ∧
  ∀ ident subject : Nat, paramNamed ident subject = true ↔
    1 ≤ ident ∧ ident ≤ 40 ∧ (subject = 0 ∨ (subject = 1 ∧ 15 ≤ ident ∧ ident ≤ 17))

/-- SET_PARAM in CONFIG: a value in the parameter's range becomes active at once and a pending value goes; every other
parameter keeps its active and its pending value. HOLD_MS alone reaches the input records: a HELD record whose time has
reached the new value falls to its fail-safe value and FAILSAFE, and every other record stays (R63). The three wind
thresholds alone reach the wind record: gust level and alarm level are judged again by the new values, the gust level at
most two steps, each rising at its threshold or falling below it by the hysteresis (R185). -/
def Obligations.SetParamInConfigIsActiveAtOnce : Prop :=
  ∀ (tag ident subject : Octet) (value : BitVec 32) (s : State), QuietPort s → s.blocks.sil.mode = .config →
    paramNamed ident.toNat subject.toNat = true → paramInRange ident.toNat value.toInt = true →
      ∃ b : Blocks,
        exec (.setParam tag ident subject value) s =
          .next (answered s { kind := 0x02#8, tag := tag, body := ident :: subject :: octets32 value } b (.ok [])) ∧
        paramGet b.par ident.toNat subject.toNat = value.toInt.toNat ∧
        pendingGet b.pend ident.toNat = none ∧
        (∀ i j : Nat, paramNamed i j = true → ¬ (i = ident.toNat ∧ j = subject.toNat) →
          paramGet b.par i j = paramGet s.blocks.par i j) ∧
        (∀ i : Nat, i ≠ ident.toNat → pendingGet b.pend i = pendingGet s.blocks.pend i) ∧
        SameBut [.par, .pend, .iq, .wmn] s.blocks b ∧
        (ident.toNat ≠ 6 → b.iq = s.blocks.iq) ∧
        (ident.toNat = 6 → b.iq.lastGood = s.blocks.iq.lastGood ∧
          ∀ i : Fin 41,
            let r := s.blocks.iq.recs.get i
            let falls := r.freshness = .held ∧
              ∃ since : Nat, r.heldSince = some since ∧ value.toInt.toNat ≤ s.blocks.now - since
            (falls → b.iq.recs.get i = { r with qualified := failSafe (inputAt i), freshness := .failsafe, candidate := none,
                                                agreement := 0, heldSince := none }) ∧
            (¬ falls → b.iq.recs.get i = r)) ∧
        ((ident.toNat < 34 ∨ 36 < ident.toNat) → b.wmn = s.blocks.wmn) ∧
        (34 ≤ ident.toNat → ident.toNat ≤ 36 →
          let w := s.blocks.wmn
          let p := b.par
          let judged := fun l : WindLevel => match l with
            | .normal => if p.wKneeDms ≤ w.gust then WindLevel.high else .normal
            | .high => if p.wStopDms ≤ w.gust then .stop
                else if w.gust < p.wKneeDms - p.wHystDms then .normal else .high
            | .stop => if w.gust < p.wStopDms - p.wHystDms then .high else .stop
          let level := judged (judged w.gustLevel)
          b.wmn = { w with gustLevel := level, alarm := if w.sound then level else .stop })

/-- SET_PARAM of a staged parameter in OPERATE: the value becomes the pending value and the active one stands. REPORT_FLOOR,
the one parameter of class 'at once', becomes active in OPERATE too. The parameters fall in their classes as R202 says. The
refusals come in their order: an unknown identifier or subject, the mode, the range, and V_CRUISE below the active
V_CREEP in OPERATE; a refused write changes nothing. -/
def Obligations.SetParamStagesAndChecks : Prop :=
  (∀ (tag ident subject : Octet) (value : BitVec 32) (s : State), QuietPort s → (atTaking s).sil.mode = .operate →
    paramNamed ident.toNat subject.toNat = true → paramClass ident.toNat = .staged →
      paramInRange ident.toNat value.toInt = true →
        (ident.toNat = 18 → ((atTaking s).par.vCreep : Int) ≤ value.toInt) →
          ∃ b : Blocks,
            exec (.setParam tag ident subject value) s =
              .next (answered s { kind := 0x02#8, tag := tag, body := ident :: subject :: octets32 value } b (.ok [])) ∧
            pendingGet b.pend ident.toNat = some value.toInt.toNat ∧
            (∀ i : Nat, i ≠ ident.toNat → pendingGet b.pend i = pendingGet (atTaking s).pend i) ∧
            SameBut [.pend] (atTaking s) b) ∧
  (∀ (tag subject : Octet) (value : BitVec 32) (s : State), QuietPort s → (atTaking s).sil.mode = .operate →
    subject = 0#8 → 0 ≤ value.toInt → value.toInt ≤ 3 →
      let b := atTaking s
      exec (.setParam tag 2#8 subject value) s =
        .next (answered s { kind := 0x02#8, tag := tag, body := 2#8 :: subject :: octets32 value }
          { b with par := { b.par with reportFloor := value.toInt.toNat } } (.ok []))) ∧
  (∀ ident : Nat, (paramClass ident = .staged ↔ ident ∈ [1, 13, 18, 20, 38, 39, 40]) ∧
    (paramClass ident = .atOnce ↔ ident = 2)) ∧
  (∀ (tag ident subject : Octet) (value : BitVec 32) (s : State), QuietPort s →
    let f : Frame := { kind := 0x02#8, tag := tag, body := ident :: subject :: octets32 value }
    let b := atTaking s
    let refusedWith := fun r => exec (.setParam tag ident subject value) s = .next (answered s f b r)
    (paramNamed ident.toNat subject.toNat = false → refusedWith .range) ∧
    (paramNamed ident.toNat subject.toNat = true →
      (b.sil.mode = .adopt ∨ (b.sil.mode = .operate ∧ paramClass ident.toNat = .configOnly) → refusedWith .wrongMode) ∧
      ((b.sil.mode = .config ∨ (b.sil.mode = .operate ∧ paramClass ident.toNat ≠ .configOnly)) →
        (paramInRange ident.toNat value.toInt = false → refusedWith .range) ∧
        (ident.toNat = 18 → b.sil.mode = .operate → value.toInt < (b.par.vCreep : Int) → refusedWith .range))))

/-- ASSIGN_INPUT in CONFIG. In its position form the function's entry is the position with n and its flags, and its record
restarts at the fail-safe value, FAILSAFE with its first qualification pending; in its NOT_FITTED form, for an optional
input, the entry is NOT_FITTED and the record presents the benign value, FRESH. Nothing else changes but the postings of
the event. The checks of R65 refuse in their order with RANGE and, for a position that another function holds, CONFLICT;
RANGE for a form above 1 is the model's reading (assumption log 24). -/
def Obligations.AssignInputPlacesAndRestarts : Prop :=
  (∀ (tag fn link channel bit n flags : Octet) (i : Fin 24) (l : Link) (p : Position) (s : State), QuietPort s →
    s.blocks.sil.mode = .config → fn.toNat = i.val + 1 → linkOf link.toNat = some l →
      positionOf channel.toNat bit.toNat = some p → inputLink (fieldFn i) = some l → 1 ≤ n.toNat → n.toNat ≤ 15 →
        receiveHeld s.blocks i l p = false →
          ∃ b : Blocks,
            exec (.assignInput tag fn 0#8 link channel bit n flags) s =
              .next (answered s { kind := 0x04#8, tag := tag, body := [fn, 0#8, link, channel, bit, n, flags] } b
                (.ok [])) ∧
            b.cat.inputs.get i = some (.position p n.toNat (flags.getLsbD 0) (flags.getLsbD 1)) ∧
            (∀ j : Fin 24, j ≠ i → b.cat.inputs.get j = s.blocks.cat.inputs.get j) ∧
            b.cat.outputs = s.blocks.cat.outputs ∧
            b.iq.recs.get (fieldRec i) =
              { qualified := failSafe (fieldFn i), candidate := none, agreement := 0, freshness := .failsafe,
                pendingFirst := true, heldSince := none } ∧
            (∀ j : Fin 41, j ≠ fieldRec i → b.iq.recs.get j = s.blocks.iq.recs.get j) ∧
            SameBut [.cat, .iq, .notes] s.blocks b) ∧
  ∀ (tag fn form link channel bit n flags : Octet) (s : State), QuietPort s → s.blocks.sil.mode = .config →
    let f : Frame := { kind := 0x04#8, tag := tag, body := [fn, form, link, channel, bit, n, flags] }
    let answers := fun (b : Blocks) (r : Result) =>
      exec (.assignInput tag fn form link channel bit n flags) s = .next (answered s f b r)
    (fn = 0#8 ∨ 24 < fn.toNat ∨ 2 ≤ form.toNat → answers s.blocks .range) ∧
    ∀ i : Fin 24, fn.toNat = i.val + 1 →
      (form = 1#8 → isOptional (fieldFn i) = false → answers s.blocks .range) ∧
      (form = 1#8 → isOptional (fieldFn i) = true →
        ∃ b : Blocks, answers b (.ok []) ∧ b.cat.inputs.get i = some .notFitted ∧
          (∀ j : Fin 24, j ≠ i → b.cat.inputs.get j = s.blocks.cat.inputs.get j) ∧
          b.cat.outputs = s.blocks.cat.outputs ∧
          b.iq.recs.get (fieldRec i) = { qualified := false, freshness := .fresh, pendingFirst := false } ∧
          (∀ j : Fin 41, j ≠ fieldRec i → b.iq.recs.get j = s.blocks.iq.recs.get j) ∧
          SameBut [.cat, .iq, .notes] s.blocks b) ∧
      (form = 0#8 →
        (linkOf link.toNat = none ∨ positionOf channel.toNat bit.toNat = none ∨ n = 0#8 ∨ 15 < n.toNat →
          answers s.blocks .range) ∧
        (inputLink (fieldFn i) ≠ linkOf link.toNat → answers s.blocks .range) ∧
        ∀ (l : Link) (p : Position) (j : Fin 24) (m : Nat) (inv rep : Bool), linkOf link.toNat = some l →
          positionOf channel.toNat bit.toNat = some p → 1 ≤ n.toNat → n.toNat ≤ 15 → inputLink (fieldFn i) = some l →
            j ≠ i → inputLink (fieldFn j) = some l → s.blocks.cat.inputs.get j = some (.position p m inv rep) →
              answers s.blocks .conflict)

/-- ASSIGN_OUTPUT in CONFIG. Its checks refuse in the order of R66: RANGE for a function other than 1 to 22, or a link,
channel and bit that name no position of R27, then RANGE for a barrier command off its own approach's link; on a position of
an allowed link CONFLICT where it holds another function, OK with nothing changed where it holds this one, and RANGE for a
fifth entry of one function; otherwise the entry is added. CLEAR_ASSIGNMENT in CONFIG: the INPUT form removes the entry of
the function named and restarts its record, the OUTPUT form the entry at a position, the ALL form every entry, and it
restarts every field record; the other entries and records stay. A function other than 1 to 24, or a position that R27 does
not name, gives RANGE; a removal of nothing gives NOT_FOUND, and the ALL form is never refused. That a form above 2 gives
RANGE and an octet its form does not use is ignored is the model's reading (assumption log 24). -/
def Obligations.OutputsAreAssignedAndEntriesCleared : Prop :=
  (∀ (tag fn link channel bit : Octet) (g : OutputFn) (l : Link) (p : Position) (s : State), QuietPort s →
    s.blocks.sil.mode = .config → outputOf fn.toNat = some g → linkOf link.toNat = some l →
      positionOf channel.toNat bit.toNat = some p → outputLinkAllows g l = true →
        let f : Frame := { kind := 0x05#8, tag := tag, body := [fn, link, channel, bit] }
        ((s.blocks.cat.outputs.get l).get p = none → outputCount s.blocks g < 4 →
          ∃ b : Blocks, exec (.assignOutput tag fn link channel bit) s = .next (answered s f b (.ok [])) ∧
            (b.cat.outputs.get l).get p = some g ∧
            (∀ q : Position, q ≠ p → (b.cat.outputs.get l).get q = (s.blocks.cat.outputs.get l).get q) ∧
            (∀ k : Link, k ≠ l → b.cat.outputs.get k = s.blocks.cat.outputs.get k) ∧
            b.cat.inputs = s.blocks.cat.inputs ∧ SameBut [.cat] s.blocks b) ∧
        ((s.blocks.cat.outputs.get l).get p = none → 4 ≤ outputCount s.blocks g →
          exec (.assignOutput tag fn link channel bit) s = .next (answered s f s.blocks .range)) ∧
        (∀ h : OutputFn, (s.blocks.cat.outputs.get l).get p = some h →
          exec (.assignOutput tag fn link channel bit) s =
            .next (answered s f s.blocks (if h = g then .ok [] else .conflict)))) ∧
  (∀ (tag fn link channel bit : Octet) (s : State), QuietPort s → s.blocks.sil.mode = .config →
    let ranged := exec (.assignOutput tag fn link channel bit) s =
      .next (answered s { kind := 0x05#8, tag := tag, body := [fn, link, channel, bit] } s.blocks .range)
    (outputOf fn.toNat = none ∨ linkOf link.toNat = none ∨ positionOf channel.toNat bit.toNat = none → ranged) ∧
    ∀ (g : OutputFn) (l : Link) (p : Position), outputOf fn.toNat = some g → linkOf link.toNat = some l →
      positionOf channel.toNat bit.toNat = some p → outputLinkAllows g l = false → ranged) ∧
  -- what the numbers name, and where a function may lie
  ((∀ n : Nat, outputOf n = none ↔ n = 0 ∨ 22 < n) ∧ (∀ n : Nat, linkOf n = none ↔ 2 < n) ∧
    (∀ channel bit : Nat, positionOf channel bit = none ↔
      channel = 0 ∨ 8 < channel ∨ 7 < bit ∨ (channel = 8 ∧ 3 < bit)) ∧
    ∀ (g : OutputFn) (l : Link), outputLinkAllows g l = false ↔
      ∃ i : BarrierId, (g = .lower i ∨ g = .raise i) ∧
        l ≠ (if i = .northEntry ∨ i = .northExit then .n else .s)) ∧
  (∀ (tag form x y z : Octet) (s : State), QuietPort s → s.blocks.sil.mode = .config →
    (form = 0#8 ∧ (x = 0#8 ∨ 24 < x.toNat)) ∨
      (form = 1#8 ∧ (linkOf x.toNat = none ∨ positionOf y.toNat z.toNat = none)) ∨ 2 < form.toNat →
        exec (.clearAssignment tag form x y z) s =
          .next (answered s { kind := 0x06#8, tag := tag, body := [form, x, y, z] } s.blocks .range)) ∧
  (∀ (tag x y z : Octet) (s : State), QuietPort s → s.blocks.sil.mode = .config →
    (∀ i : Fin 24, x.toNat = i.val + 1 →
      let f : Frame := { kind := 0x06#8, tag := tag, body := [0#8, x, y, z] }
      (s.blocks.cat.inputs.get i = none →
        exec (.clearAssignment tag 0#8 x y z) s = .next (answered s f s.blocks .notFound)) ∧
      (s.blocks.cat.inputs.get i ≠ none →
        ∃ b : Blocks, exec (.clearAssignment tag 0#8 x y z) s = .next (answered s f b (.ok [])) ∧
          b.cat.inputs.get i = none ∧ (∀ j : Fin 24, j ≠ i → b.cat.inputs.get j = s.blocks.cat.inputs.get j) ∧
          (isOptional (fieldFn i) = true → b.iq.recs.get (fieldRec i) =
            { qualified := false, freshness := .fresh, pendingFirst := false }) ∧
          (isOptional (fieldFn i) = false → b.iq.recs.get (fieldRec i) =
            { qualified := failSafe (fieldFn i), freshness := .failsafe, pendingFirst := true }) ∧
          (∀ j : Fin 41, j ≠ fieldRec i → b.iq.recs.get j = s.blocks.iq.recs.get j) ∧
          b.cat.outputs = s.blocks.cat.outputs ∧ SameBut [.cat, .iq, .notes] s.blocks b)) ∧
    (∀ (l : Link) (p : Position), linkOf x.toNat = some l → positionOf y.toNat z.toNat = some p →
      let f : Frame := { kind := 0x06#8, tag := tag, body := [1#8, x, y, z] }
      ((s.blocks.cat.outputs.get l).get p = none →
        exec (.clearAssignment tag 1#8 x y z) s = .next (answered s f s.blocks .notFound)) ∧
      ((s.blocks.cat.outputs.get l).get p ≠ none →
        ∃ b : Blocks, exec (.clearAssignment tag 1#8 x y z) s = .next (answered s f b (.ok [])) ∧
          (b.cat.outputs.get l).get p = none ∧ b.cat.inputs = s.blocks.cat.inputs ∧
          (∀ q : Position, q ≠ p → (b.cat.outputs.get l).get q = (s.blocks.cat.outputs.get l).get q) ∧
          (∀ k : Link, k ≠ l → b.cat.outputs.get k = s.blocks.cat.outputs.get k) ∧ SameBut [.cat] s.blocks b)) ∧
    ∃ b : Blocks, exec (.clearAssignment tag 2#8 x y z) s =
        .next (answered s { kind := 0x06#8, tag := tag, body := [2#8, x, y, z] } b (.ok [])) ∧
      (∀ i : Fin 24, b.cat.inputs.get i = none) ∧
      (∀ (l : Link) (p : Position), (b.cat.outputs.get l).get p = none) ∧
      (∀ i : Fin 24, b.iq.recs.get (fieldRec i) =
        if isOptional (fieldFn i) then { qualified := false, freshness := .fresh, pendingFirst := false }
        else { qualified := failSafe (fieldFn i), freshness := .failsafe, pendingFirst := true }) ∧
      (∀ j : Fin 41, 24 ≤ j.val → b.iq.recs.get j = s.blocks.iq.recs.get j) ∧
      SameBut [.cat, .iq, .notes] s.blocks b)

/-- LOAD_CLEARANCE in CONFIG: a table that meets the six checks of R160 replaces the whole table and sets the loaded
flag; any other gives RANGE and leaves the table. -/
def Obligations.LoadClearanceReplacesTheTable : Prop :=
  ∀ (tag : Octet) (points : List (BitVec 16 × BitVec 16)) (s : State), QuietPort s → s.blocks.sil.mode = .config →
    points.length ≤ 15 →
      let ps := points.map fun p => (p.1.toNat, p.2.toNat)
      let f : Frame := { kind := 0x07#8, tag := tag, body := BitVec.ofNat 8 points.length :: pointOctets points }
      let accepted := 2 ≤ ps.length ∧ ps.length ≤ 8 ∧ (∀ p ∈ ps, p.2 ≤ 6000) ∧ (ps.map Prod.fst).head? = some 0 ∧
        (ps.map Prod.fst).Pairwise (· < ·) ∧
        (ps.map Prod.fst).getLastD 0 ≤ min s.blocks.par.openAngleCd.north s.blocks.par.openAngleCd.south ∧
        (ps.map Prod.snd).Pairwise (· ≤ ·)
      (accepted → exec (.loadClearance tag points) s = .next (answered s f
        { s.blocks with nav := { s.blocks.nav with table := ps, loaded := true } } (.ok []))) ∧
      (¬ accepted → exec (.loadClearance tag points) s = .next (answered s f s.blocks .range))

/-- CONFIG_DONE in CONFIG: with no item incomplete the mode becomes ADOPT with the adopt timer at ADOPT_MS; otherwise
the reply is INCOMPLETE with the first failing item and nothing changes. The items fail as R4 and R68 say, and the first
one is the least by class (input function, output function, lamp group, clearance table, cross-check) and then by number. -/
def Obligations.ConfigDoneStartsAdoption : Prop :=
  (∀ (tag : Octet) (s : State), QuietPort s → s.blocks.sil.mode = .config →
    let f : Frame := { kind := 0x08#8, tag := tag, body := [] }
    (firstIncomplete s.blocks = none → exec (.configDone tag) s = .next (answered s f
      { s.blocks with sil := { s.blocks.sil with
          mode := .adopt, adoptTimer := some s.blocks.par.adoptMs, adoptOutcome := .none, notFresh := 0 } } (.ok []))) ∧
    ∀ cls number, firstIncomplete s.blocks = some (cls, number) →
      exec (.configDone tag) s = .next (answered s f s.blocks (.incomplete cls number))) ∧
  ∀ b : Blocks,
    let fitted := fun g : OutputFn => ∃ (l : Link) (p : Position), (b.cat.outputs.get l).get p = some g
    let fails := fun cls number : Nat =>
      (cls = 0 ∧ ∃ i : Fin 24, number = i.val + 1 ∧ isOptional (fieldFn i) = false ∧
        ∀ (p : Position) (n : Nat) (inv rep : Bool), b.cat.inputs.get i ≠ some (.position p n inv rep)) ∨
      (cls = 1 ∧ ∃ g : OutputFn, outputOf number = some g ∧ outputMandatory g = true ∧ ¬ fitted g) ∨
      (cls = 2 ∧ ∃ g : Lamp, number = (lampIndex g).val ∧
        ¬ (fitted (lampOutput g) ↔ ∃ p : Position, sourcePosition b (inputIndex (lampInput g)) = some p)) ∨
      (cls = 3 ∧ number = 0 ∧ ¬ (b.nav.loaded = true ∧ (b.nav.table.map Prod.fst).getLastD 0 ≤
        min b.par.openAngleCd.north b.par.openAngleCd.south)) ∨
      (cls = 4 ∧ ((number = 1 ∧ b.par.vCruise < b.par.vCreep) ∨ (number = 2 ∧ b.par.skewLimitCd ≤ b.par.skewTrimCd) ∨
        (number = 3 ∧ b.par.wStopDms ≤ b.par.wKneeDms) ∨ (number = 4 ∧ b.par.wKneeDms ≤ b.par.wHystDms)))
    (firstIncomplete b = none ↔ ∀ cls number : Nat, ¬ fails cls number) ∧
    ∀ cls number : Nat, firstIncomplete b = some (cls, number) ↔
      fails cls number ∧ ∀ x y : Nat, fails x y → cls < x ∨ (cls = x ∧ number ≤ y)

/-- RESTART and RECONFIGURE in OPERATE. While a leaf, a barrier or a lock moves both are refused with NOT_PERMITTED
(MOTION_IN_PROGRESS), and RECONFIGURE outside TRAFFIC before that with WRONG_PHASE; a refusal changes nothing. While nothing
moves, RESTART in every phase and with latch or hold set, RECONFIGURE in TRAFFIC: the mode becomes ADOPT or CONFIG,
every record takes its reset value but the parameters with every pending value active, the channel assignment and
the clearance table; the leaves keep the phase pairs of their encoder lines (assumption log 14), the input records take
the reset values of R52 by their sources. RQ holds exactly the postings of the taking, made from the blocks before it,
the input records excepted, and the three links' reports, and the overrun count is 0. Which postings survive
the taking is the model's reading (assumption log 9). -/
def Obligations.RestartAndReconfigureReset : Prop :=
  ∀ (tag : Octet) (s : State), QuietPort s → (atTaking s).sil.mode = .operate →
    let b := atTaking s
    let motion := (∃ l : LeafId, leafState b l = .releasing ∨ leafState b l = .moving ∨ leafState b l = .stopping) ∨
      (∃ i : BarrierId, (b.barriers.get i).state = .lowering ∨ (b.barriers.get i).state = .raising) ∨
      ∃ k : LockId, (b.locks.get k).state = .withdrawing ∨ (b.locks.get k).state = .driving
    let turnedAway := fun (i : Instr) (kind : Octet) (r : Result) =>
      exec i s = .next (answered s { kind := kind, tag := tag, body := [] } b r)
    (motion → turnedAway (.restart tag) 0x0A#8 (.notPermitted .motionInProgress)) ∧
    (b.sil.phase ≠ .traffic → turnedAway (.reconfigure tag) 0x09#8 .wrongPhase) ∧
    (b.sil.phase = .traffic → motion → turnedAway (.reconfigure tag) 0x09#8 (.notPermitted .motionInProgress)) ∧
    (¬ motion →
      let kept := fun t : State =>
        t.pending = s.pending ∧ t.cpt.buffer = [] ∧ t.cpt.replies = [] ∧ t.cpt.overrun = 0 ∧
        t.blocks.par = adoptPending b.par b.pend ∧ t.blocks.pend = {} ∧ t.blocks.cat = b.cat ∧
        t.blocks.nav = { table := b.nav.table, loaded := b.nav.loaded } ∧ t.blocks.slu = {} ∧ t.blocks.rsq = {} ∧
        t.blocks.barriers = ⟨{}, {}, {}, {}⟩ ∧ t.blocks.locks = ⟨{}, {}, {}⟩ ∧ t.blocks.brakes = ⟨{}, {}⟩ ∧
        t.blocks.seq = {} ∧ t.blocks.wmn = {} ∧ t.blocks.presence = none ∧
        (∀ l : Link, t.blocks.links.get l =
          { txNumber := (b.links.get l).txNumber, txCodeword := (b.links.get l).txCodeword,
            txFrame := (b.links.get l).txFrame }) ∧
        (∀ l : LeafId, t.blocks.leaves.get l =
          { pos := { phaseA := (b.leaves.get l).pos.phaseA, phaseB := (b.leaves.get l).pos.phaseB } }) ∧
        t.blocks.iq.lastGood = ⟨none, none, none⟩ ∧
        (∀ i : Fin 41,
          let sourced := 24 ≤ i.val ∨ ∃ p : Position, sourcePosition b i = some p
          let benign := i.val < 24 ∧ (inputEntryAt b i = some .notFitted ∨
            (inputEntryAt b i = none ∧ isOptional (inputAt i) = true))
          (sourced → t.blocks.iq.recs.get i =
            { qualified := failSafe (inputAt i), freshness := .failsafe, pendingFirst := true }) ∧
          (benign → t.blocks.iq.recs.get i = { qualified := false, freshness := .fresh, pendingFirst := false }) ∧
          (¬ sourced → ¬ benign → t.blocks.iq.recs.get i =
            { qualified := failSafe (inputAt i), freshness := .failsafe, pendingFirst := false })) ∧
        t.rq = (eventPostings { b with iq := t.blocks.iq, notes := [] } { t.blocks with
          notes := Link.all.map fun l =>
            .link l (b.links.get l).windowFrames (b.links.get l).windowErrors }).foldl post [] ∧
        (∃ e ∈ t.rq, e.kind = .span) ∧ QueueOk t.rq
      (∃ t : State, exec (.restart tag) s = .next t ∧ kept t ∧
        t.cpt.tx = some { kind := 0x8A#8, tag := tag, body := [0#8] } ∧
        t.blocks.sil = { mode := .adopt, adoptTimer := some b.par.adoptMs }) ∧
      (b.sil.phase = .traffic → ∃ t : State, exec (.reconfigure tag) s = .next t ∧ kept t ∧
        t.cpt.tx = some { kind := 0x89#8, tag := tag, body := [0#8] } ∧ t.blocks.sil = {}))

/-! ## Operating requests -/

/-- A request outside its modes is answered WRONG_MODE and changes nothing: the configuration requests but SET_PARAM and
GET_PARAM outside CONFIG, and RECONFIGURE, RESTART, the operating and the passage requests outside OPERATE. -/
def Obligations.RequestsNeedTheirMode : Prop :=
  ∀ (i : Instr) (f : Frame) (s : State), WellFormed i = true → requestFrame i = some f → QuietPort s →
    let refused := exec i s = .next (answered s f (atTaking s) .wrongMode)
    (0x04 ≤ f.kind.toNat → f.kind.toNat ≤ 0x08 → (atTaking s).sil.mode ≠ .config → refused) ∧
      (0x09 ≤ f.kind.toNat → f.kind.toNat ≤ 0x22 → knownKind f.kind = true → (atTaking s).sil.mode ≠ .operate →
        refused)

/-- The permits: a permit's answer is its first failing condition in order; a condition fails as its rule says. -/
def Obligations.PermitsNameTheFirstFailingCondition : Prop :=
  (∀ (b : Blocks) (permit : List Cond) (c : Cond), permitFails b permit = some c ↔
      ∃ before after : List Cond, permit = before ++ c :: after ∧ condFails b c = true ∧
        ∀ x ∈ before, condFails b x = false) ∧
    (∀ (b : Blocks) (permit : List Cond), permitFails b permit = none ↔ ∀ x ∈ permit, condFails b x = false) ∧
    ∀ b : Blocks,
      (condFails b .estopLatched = true ↔ b.sil.latch = true) ∧
      (condFails b .stationNotReady = true ↔ ∃ l : Link, l ≠ .p ∧ ¬ ((b.links.get l).status = .healthy ∧
        ((b.links.get l).state = .aligned ∨ (b.links.get l).state = .degraded))) ∧
      (condFails b .roadNotClosed = true ↔ b.rsq.phase ≠ .roadClosed) ∧
      (condFails b .barrierNotProven = true ↔ ∃ i : BarrierId, (b.barriers.get i).state ≠ .down ∧
        Override.barrier i ∉ b.sil.overrides) ∧
      (condFails b .locksNotWithdrawn = true ↔ ∃ k : LockId, (b.locks.get k).state ≠ .withdrawn) ∧
      (condFails b .locksNotDriven = true ↔ ∃ k : LockId, (b.locks.get k).state ≠ .driven) ∧
      (condFails b .leafNotSeated = true ↔ ∃ l : LeafId, (b.leaves.get l).mot.state ≠ .seated) ∧
      (condFails b .leafFault = true ↔ ∃ l : LeafId, (b.leaves.get l).mot.state = .fault) ∧
      (condFails b .driveNotReady = true ↔ ∃ l : LeafId, made b (.driveReady l) = false) ∧
      (condFails b .windStop = true ↔ b.wmn.alarm = .stop) ∧
      (condFails b .windSensor = true ↔ b.wmn.sound = false) ∧
      (condFails b .positionUncertain = true ↔ ∃ l : LeafId, (b.leaves.get l).pos.certain = false) ∧
      (condFails b .vesselUnderway = true ↔ ∃ x ∈ b.nav.slots, x.state = .proceeding) ∧
      (condFails b .queueEmpty = true ↔ b.nav.queue = [])

/-- The operating requests without arguments, in OPERATE: outside its phases a request is answered WRONG_PHASE, and in
them the first failing condition of its permit is named; the blocks change in neither case. -/
def Obligations.OperatingRequestsAreJudged : Prop :=
  ∀ (tag : Octet) (s : State), QuietPort s → (atTaking s).sil.mode = .operate →
    let b := atTaking s
    let judged := fun (i : Instr) (kind : Octet) (phase : Prop) (permit : List Cond) =>
      (¬ phase → exec i s = .next (answered s { kind := kind, tag := tag, body := [] } b .wrongPhase)) ∧
      (phase → ∀ c : Cond, permitFails b permit = some c →
        exec i s = .next (answered s { kind := kind, tag := tag, body := [] } b (.notPermitted c)))
    judged (.roadClose tag) 0x10#8
      (b.sil.phase = .traffic ∨ b.sil.phase = .recovery ∧
        [RoadPhase.roadOpen, .exitRaising, .entryRaising, .alert].contains b.rsq.phase = true)
      [.estopLatched, .stationNotReady] ∧
    judged (.roadOpen tag) 0x11#8
      (b.sil.phase = .closing ∨ b.sil.phase = .closed ∨ b.sil.phase = .traffic ∧ b.rsq.phase = .alert)
      [.estopLatched, .leafNotSeated, .locksNotDriven, .stationNotReady] ∧
    judged (.locksWithdraw tag) 0x12#8 (b.sil.phase = .closed ∨ b.sil.phase = .recovery)
      [.estopLatched, .roadNotClosed, .leafNotSeated] ∧
    judged (.locksDrive tag) 0x13#8
      (b.sil.phase = .unlocking ∨ b.sil.phase = .unlocked ∨ b.sil.phase = .seated ∨ b.sil.phase = .recovery)
      (if b.sil.phase = .recovery then [.estopLatched, .roadNotClosed, .leafNotSeated]
       else [.estopLatched, .leafNotSeated]) ∧
    judged (.leavesLower tag) 0x15#8 (b.sil.phase = .raising ∨ b.sil.phase = .opened)
      [.estopLatched, .leafFault, .driveNotReady, .vesselUnderway] ∧
    judged (.recoveryLower tag) 0x16#8
      ((b.sil.phase = .recovery ∨ b.sil.phase = .unlocked) ∧
        ∃ l : LeafId, (b.leaves.get l).pos.certain = false ∧ leafState b l ≠ .seated)
      [.estopLatched, .roadNotClosed, .leafFault, .driveNotReady, .locksNotWithdrawn, .barrierNotProven]

/-- ROAD_CLOSE with its permit holding. From TRAFFIC with the road open the closure starts in AMBER. From ALERT it goes
on in ENTRY_LOWERING where both approaches pass the complement test and the HELD flag is clear, so that an entry
barrier UP under RAISE starts down, and otherwise stands in RED_WARN with its timer at RUN_OUT. A barrier already called
to the command of the phase is left alone, and from RECOVERY one that stands DOWN stays DOWN under any command, a call to
RAISE leaving it alone (R9; assumption log 34). -/
def Obligations.RoadCloseStartsTheClosure : Prop :=
  ∀ (tag : Octet) (s : State), QuietPort s →
    let b := atTaking s
    let f : Frame := { kind := 0x10#8, tag := tag, body := [] }
    b.sil.mode = .operate → b.sil.latch = false → stationReady b .n = true → stationReady b .s = true →
      (b.sil.phase = .traffic → b.rsq.phase = .roadOpen →
        ∃ c : Blocks, exec (.roadClose tag) s = .next (answered s f c (.ok [])) ∧
          c.sil = { b.sil with phase := .closing } ∧
          c.rsq = { phase := .amber, timer := .running b.par.amberMs, clearance := .idle, wait := .none, cause := .none,
                    step := .none, exitPaused := b.rsq.exitPaused, bells := ⟨false, false⟩ } ∧
          c.slu = { b.slu with aspects := ⟨.amber, .amber⟩ } ∧
          (∀ i : BarrierId, (b.barriers.get i).command = .raise → (b.barriers.get i).state ≠ .fault →
            c.barriers.get i = b.barriers.get i) ∧
          SameBut [.sil, .rsq, .slu, .barriers] b c) ∧
      (b.sil.phase = .traffic ∨ b.sil.phase = .recovery → b.rsq.phase = .alert →
        ∃ c : Blocks, exec (.roadClose tag) s = .next (answered s f c (.ok [])) ∧
          c.sil = { b.sil with phase := if b.sil.phase = .traffic then .closing else .recovery } ∧
          c.slu = { b.slu with aspects := ⟨.redFlash, .redFlash⟩ } ∧ c.rsq.bells = ⟨true, true⟩ ∧
          c.rsq.clearance = .idle ∧ c.rsq.cause = .none ∧
          (complementFailing b = .none → b.sil.held = false →
            c.rsq.phase = .entryLowering ∧ c.rsq.timer = .idle ∧ c.rsq.wait = .none ∧ c.rsq.step = .none ∧
            (∀ i : BarrierId, isEntry i = true → (b.barriers.get i).state = .up → (b.barriers.get i).command = .raise →
              c.barriers.get i = { b.barriers.get i with command := .lower, state := .lowering,
                                                         timer := .running 0 }) ∧
            ∀ i : BarrierId, isEntry i = false → (b.barriers.get i).command = .raise →
              (b.barriers.get i).state ≠ .fault → c.barriers.get i = b.barriers.get i) ∧
          (¬ (complementFailing b = .none ∧ b.sil.held = false) →
            c.rsq.phase = .redWarn ∧ c.rsq.timer = .runOut ∧ c.rsq.wait = complementFailing b ∧
            c.rsq.step = (if complementFailing b = .none then .enterEntryLowering else .none)) ∧
          (b.sil.phase = .recovery → ∀ i : BarrierId, (b.barriers.get i).state = .down →
            (c.barriers.get i).state = .down ∧
            ((b.barriers.get i).command = .lower ∨ isEntry i = false → c.barriers.get i = b.barriers.get i)) ∧
          SameBut [.sil, .rsq, .slu, .barriers] b c)

/-- ROAD_OPEN with its permit holding. From CLOSED the road starts to reopen in EXIT_RAISING, where an exit barrier DOWN
under LOWER starts up unless the HELD flag is set; from CLOSING in AMBER or RED_WARN the closure is abandoned to ROAD_OPEN
with both timers IDLE, the wait and the step NONE, the aspects DARK and the bells off, or, where a seat or lock input is not
made, to the ALERT of R96 that follows it, and each barrier not under RAISE, or in FAULT, is called to RAISE, while under
the HELD flag those that are LOWERING stop and no call is issued; and in ENTRY_LOWERING, CLEARANCE or EXIT_LOWERING to
ENTRY_RAISING where both exit barriers are UP and to EXIT_RAISING where they are not: the barriers called to RAISE turn up,
and under the HELD flag those that are LOWERING stop and no call is issued; from an ALERT in TRAFFIC the road is open again,
with no barrier command and no override left. That ROAD_OPEN from ALERT issues no barrier command is the model's reading of
R97 (assumption log 32), and that a closure abandoned in ENTRY_LOWERING, CLEARANCE or EXIT_LOWERING leaves its pending step
and its complement wait at NONE is the model's too (assumption log 19). -/
def Obligations.RoadOpenOpensTheRoad : Prop :=
  ∀ (tag : Octet) (s : State), QuietPort s →
    let b := atTaking s
    let f : Frame := { kind := 0x11#8, tag := tag, body := [] }
    b.sil.mode = .operate → permitFails b [.estopLatched, .leafNotSeated, .locksNotDriven, .stationNotReady] = none →
      (b.sil.phase = .closed →
        ∃ c : Blocks, exec (.roadOpen tag) s = .next (answered s f c (.ok [])) ∧
          c.sil = { b.sil with phase := .reopening } ∧ c.rsq.phase = .exitRaising ∧ c.rsq.bells = ⟨false, false⟩ ∧
          c.rsq.timer = .idle ∧ c.rsq.clearance = .idle ∧ c.slu = { b.slu with aspects := ⟨.redFlash, .redFlash⟩ } ∧
          (∀ i : BarrierId, isEntry i = true → (b.barriers.get i).command = .lower →
            (b.barriers.get i).state ≠ .fault → c.barriers.get i = b.barriers.get i) ∧
          (∀ i : BarrierId, isEntry i = false → (b.barriers.get i).command = .lower → (b.barriers.get i).state = .down →
            b.sil.held = false →
              c.barriers.get i = { b.barriers.get i with command := .raise, state := .raising, timer := .running 0 }) ∧
          (b.sil.held = true → c.barriers = b.barriers) ∧
          SameBut [.sil, .rsq, .slu, .barriers] b c) ∧
      (b.sil.phase = .closing → b.rsq.phase = .amber ∨ b.rsq.phase = .redWarn →
        ∃ c : Blocks, exec (.roadOpen tag) s = .next (answered s f c (.ok [])) ∧
          let lost := lossStands b = true
          c.sil = { b.sil with phase := .reopening, overrides := [] } ∧
          c.rsq = { phase := if lost then .alert else .roadOpen, timer := .idle, clearance := .idle, wait := .none,
                    cause := if lost then alertCause b else .none, step := .none, exitPaused := false,
                    bells := if lost then ⟨true, true⟩ else ⟨false, false⟩ } ∧
          c.slu = { b.slu with aspects := if lost then ⟨.redFlash, .redFlash⟩ else ⟨.dark, .dark⟩ } ∧
          (∀ i : BarrierId, c.barriers.get i =
            if b.sil.held then
              if (b.barriers.get i).state = .lowering then (barrierCommand i .stop b).barriers.get i else b.barriers.get i
            else if (b.barriers.get i).command = .raise ∧ (b.barriers.get i).state ≠ .fault then b.barriers.get i
            else (barrierCommand i .raise b).barriers.get i) ∧
          SameBut [.sil, .rsq, .slu, .barriers] b c) ∧
      (b.sil.phase = .closing →
        b.rsq.phase = .entryLowering ∨ b.rsq.phase = .clearance ∨ b.rsq.phase = .exitLowering →
          let exitsUp := b.barriers.northExit.state = .up ∧ b.barriers.southExit.state = .up
          ∃ c : Blocks, exec (.roadOpen tag) s = .next (answered s f c (.ok [])) ∧
            c.sil = { b.sil with phase := .reopening } ∧
            c.rsq = { phase := if exitsUp then .entryRaising else .exitRaising, timer := .idle, clearance := .idle,
                      wait := .none, cause := .none, step := .none, exitPaused := false, bells := ⟨false, false⟩ } ∧
            c.slu = { b.slu with aspects := ⟨.redFlash, .redFlash⟩ } ∧
            (b.sil.held = false → ∀ i : BarrierId, (isEntry i = true ↔ exitsUp) → (b.barriers.get i).command = .lower →
              (b.barriers.get i).state = .lowering ∨ (b.barriers.get i).state = .down →
                c.barriers.get i = { b.barriers.get i with command := .raise, state := .raising, timer := .running 0 }) ∧
            (b.sil.held = false → ¬ exitsUp → ∀ i : BarrierId, isEntry i = true → (b.barriers.get i).command = .lower →
              (b.barriers.get i).state ≠ .fault → c.barriers.get i = b.barriers.get i) ∧
            (b.sil.held = true → ∀ i : BarrierId,
              (∀ ms : Nat, (b.barriers.get i).state = .lowering → (b.barriers.get i).timer = .running ms →
                c.barriers.get i = { b.barriers.get i with command := .stop, state := .stopped, timer := .halted ms }) ∧
              ((b.barriers.get i).state ≠ .lowering → c.barriers.get i = b.barriers.get i)) ∧
            SameBut [.sil, .rsq, .slu, .barriers] b c) ∧
      (b.sil.phase = .traffic → b.rsq.phase = .alert →
        exec (.roadOpen tag) s = .next (answered s f
          { b with
            sil := { b.sil with overrides := [] }
            rsq := { phase := .roadOpen, timer := .idle, clearance := .idle, wait := .none, cause := .none,
                     step := .none, exitPaused := false, bells := ⟨false, false⟩ }
            slu := { b.slu with aspects := ⟨.dark, .dark⟩ } } (.ok [])))

/-- LOCKS_WITHDRAW from CLOSED and in RECOVERY, and LOCKS_DRIVE from UNLOCKED, from SEATED and in RECOVERY, with the latch
clear and both leaves SEATED: the sequence record is RUNNING at its start step, and unless the HELD flag is set the locks of
that step that are neither at their target nor in FAULT are commanded; the other locks rest. With every lock at its target
the sequence is COMPLETE at once. The LOCK posting of the sequence record is noted unless that record already stood so.
LOCKS_DRIVE from UNLOCKING reverses the withdrawal: with the HELD flag clear the locks of the new first step turn back, a
CENTRE lock outside it is interrupted, and a tail in FAULT at withdraw step TAILS has DRIVE recorded; under the HELD flag
the INTERRUPTED locks of that step have DRIVE recorded and nothing else moves (assumption log 20). -/
def Obligations.LockRequestsStartTheirSequence : Prop :=
  ∀ (tag : Octet) (s : State), QuietPort s →
    let b := atTaking s
    let out : SeqStep := if b.locks.centre.state = .withdrawn then .tails else .centre
    let home : SeqStep :=
      if b.locks.northTail.state = .driven ∧ b.locks.southTail.state = .driven then .centre else .tails
    let recorded := fun (q : LockSequence) (step : SeqStep) (target : LockState) (c : Blocks) =>
      let running : SeqRec := { sequence := q, step := step, status := .running }
      (b.sil.held = false → (∀ k : LockId, (b.locks.get k).state = target) →
        c.seq = { running with status := .complete }) ∧
      (b.sil.held = true ∨ (∃ k : LockId, (b.locks.get k).state ≠ target) → c.seq = running) ∧
      c.notes = b.notes ++ (if b.seq = running then [] else [.lock .centre]) ∧
      SameBut [.sil, .seq, .locks, .notes] b c
    let moved := fun (step : SeqStep) (k : LockId) (target : LockState) => (step = .centre ↔ k = .centre) ∧
      (b.locks.get k).state ≠ .fault ∧ (b.locks.get k).state ≠ target
    let starts := fun (q : LockSequence) (x : LockCmd) (step : SeqStep) (target : LockState) (c : Blocks) =>
      recorded q step target c ∧ ∀ k : LockId, c.locks.get k =
        if b.sil.held = false ∧ moved step k target then (lockCommand k x b).locks.get k else b.locks.get k
    let withdrawn := fun c : Blocks => exec (.locksWithdraw tag) s =
      .next (answered s { kind := 0x12#8, tag := tag, body := [] } c (.ok []))
    let driven := fun c : Blocks => exec (.locksDrive tag) s =
      .next (answered s { kind := 0x13#8, tag := tag, body := [] } c (.ok []))
    b.sil.mode = .operate → b.sil.latch = false → bothSeated b = true →
      (b.sil.phase = .closed ∨ b.sil.phase = .recovery → b.rsq.phase = .roadClosed →
        ∃ c : Blocks, withdrawn c ∧ starts .withdraw .withdraw out .withdrawn c ∧
          c.sil = { b.sil with phase := if b.sil.phase = .closed then .unlocking else .recovery }) ∧
      (b.sil.phase = .unlocked ∨ b.sil.phase = .seated →
        ∃ c : Blocks, driven c ∧ starts .drive .drive home .driven c ∧ c.sil = { b.sil with phase := .locking }) ∧
      (b.sil.phase = .recovery → b.rsq.phase = .roadClosed →
        ∃ c : Blocks, driven c ∧ starts .drive .drive home .driven c ∧ c.sil = b.sil) ∧
      (b.sil.phase = .unlocking →
        ∃ c : Blocks, driven c ∧ recorded .drive home .driven c ∧ c.sil = { b.sil with phase := .locking } ∧
          (b.sil.held = false → ∀ k : LockId, c.locks.get k =
            if moved home k .driven then (lockCommand k .drive b).locks.get k
            else if k = .centre ∧ home = .tails then (lockInterrupt k b).locks.get k
            else if k ≠ .centre ∧ b.seq.step = .tails ∧ (b.locks.get k).state = .fault then
              { b.locks.get k with command := .drive }
            else b.locks.get k) ∧
          (b.sil.held = true → ∀ k : LockId, c.locks.get k =
            if (home = .centre ↔ k = .centre) ∧ (b.locks.get k).state = .interrupted then
              { b.locks.get k with command := .drive }
            else b.locks.get k))

/-- LEAVES_RAISE from UNLOCKED with its permit P_RAISE holding: the group is formed of the first four queue entries, the
movement order is RAISE to FULL or to the group's angle, the phase is RAISING, and unless the HELD flag is set two leaves at
rest start to move. From OPEN with a COMPLETE group the new group is formed, the gap timer going on; where both leaves stand
at or beyond their new targets no movement is directed and the phase stays OPEN, a leaf without arrived staying so (the
model's choice, assumption log 48), otherwise it is RAISING as above. A pending ANGLE_MARGIN_CD becomes active at the
formation, pending V_CRUISE and ACCEL at a movement start in which a leaf takes part, and every other parameter and pending
value stays (R130, R167). A target above 1 gives RANGE, another phase WRONG_PHASE, and the first failing condition of
P_RAISE is named. A movement in which neither leaf takes part is described too (the model's choice, assumption log 44). -/
def Obligations.LeavesRaiseFormsTheGroup : Prop :=
  (∀ (tag target : Octet) (s : State), QuietPort s →
    let b := atTaking s
    let f : Frame := { kind := 0x14#8, tag := tag, body := [target] }
    let angle := min (((b.nav.queue.take 4).map Vessel.required).foldl max 0 +
        b.pend.angleMarginCd.getD b.par.angleMarginCd) (min b.par.openAngleCd.north b.par.openAngleCd.south)
    let order : RaiseTarget := if target = 1#8 then .angle angle else .full
    b.sil.mode = .operate → b.sil.phase = .unlocked →
      (2 ≤ target.toNat → exec (.leavesRaise tag target) s = .next (answered s f b .range)) ∧
      (target.toNat < 2 → permitFails b (permitRaise (target == 1#8)) = none →
        ∃ c : Blocks, exec (.leavesRaise tag target) s = .next (answered s f c (.ok [])) ∧
          c.sil = { b.sil with phase := .raising, order := some (.raise order) } ∧
          c.nav = { b.nav with
            queue := b.nav.queue.drop 4
            slots := (b.nav.queue.take 4).map fun v => { vessel := v, state := .waiting }
            group := .awaitingOpen
            target := if target = 1#8 then .passage angle else .full
            targetAngle := if target = 1#8 then angle else min b.par.openAngleCd.north b.par.openAngleCd.south
            fall := .none
            blocked := .none
            gap := none
            lastCleared := none } ∧
          SpeedsFollow (b.sil.held = false ∧ MovementBegins (.raise order) b) (marginActive b.par b.pend)
            (marginTaken b.pend) c ∧
          (b.sil.held = true → c.leaves = b.leaves ∧ c.brakes = b.brakes) ∧
          (b.sil.held = false → LeavesAtRest b → MovementStarts (.raise order) b c) ∧
          SameBut [.sil, .nav, .par, .pend, .leaves, .brakes, .notes] b c)) ∧
  (permitRaise false = [.estopLatched, .leafFault, .driveNotReady, .locksNotWithdrawn, .barrierNotProven, .windSensor,
    .windStop] ∧
   permitRaise true = [.estopLatched, .leafFault, .driveNotReady, .positionUncertain, .locksNotWithdrawn,
    .barrierNotProven, .windSensor, .windStop, .queueEmpty]) ∧
  ∀ (tag target : Octet) (s : State), QuietPort s →
    let b := atTaking s
    let f : Frame := { kind := 0x14#8, tag := tag, body := [target] }
    let angle := min (((b.nav.queue.take 4).map Vessel.required).foldl max 0 +
        b.pend.angleMarginCd.getD b.par.angleMarginCd) (min b.par.openAngleCd.north b.par.openAngleCd.south)
    let order : RaiseTarget := if target = 1#8 then .angle angle else .full
    let beyond := ∀ l : LeafId, alreadyArrived b l (.raise order) = true
    let allowed := b.sil.phase = .unlocked ∨ (b.sil.phase = .opened ∧ b.nav.group = .complete)
    b.sil.mode = .operate →
      (¬ allowed → exec (.leavesRaise tag target) s = .next (answered s f b .wrongPhase)) ∧
      (allowed → 2 ≤ target.toNat → exec (.leavesRaise tag target) s = .next (answered s f b .range)) ∧
      (allowed → target.toNat < 2 → ∀ x : Cond, permitFails b (permitRaise (target == 1#8)) = some x →
        exec (.leavesRaise tag target) s = .next (answered s f b (.notPermitted x))) ∧
      (b.sil.phase = .opened → b.nav.group = .complete → target.toNat < 2 →
        permitFails b (permitRaise (target == 1#8)) = none →
          ∃ c : Blocks, exec (.leavesRaise tag target) s = .next (answered s f c (.ok [])) ∧
            c.nav = { b.nav with
              queue := b.nav.queue.drop 4
              slots := (b.nav.queue.take 4).map fun v => { vessel := v, state := .waiting }
              group := .awaitingOpen
              target := if target = 1#8 then .passage angle else .full
              targetAngle := if target = 1#8 then angle else min b.par.openAngleCd.north b.par.openAngleCd.south
              fall := .none
              blocked := .none } ∧
            SpeedsFollow (b.sil.held = false ∧ MovementBegins (.raise order) b) (marginActive b.par b.pend)
              (marginTaken b.pend) c ∧
            (beyond → c.sil = b.sil ∧ c.leaves = b.leaves ∧ c.brakes = b.brakes) ∧
            (¬ beyond → c.sil = { b.sil with phase := .raising, order := some (.raise order) } ∧
              (b.sil.held = true → c.leaves = b.leaves ∧ c.brakes = b.brakes) ∧
              (b.sil.held = false → LeavesAtRest b → MovementStarts (.raise order) b c)) ∧
            SameBut [.sil, .nav, .par, .pend, .leaves, .brakes, .notes] b c)

/-- A movement directed while a leaf is in motion or a brake SETTING waits as the next movement of both leaves. It is taken
once neither is: dropped under the HELD flag and with a leaf in FAULT; with a lock not WITHDRAWN, else with a barrier
neither DOWN nor overridden, dropped with the HELD flag set; and started otherwise. A leaf whose brake is SET with its
feedback made, or in FAULT, cannot start: it has the finding BRAKE_NOT_RELEASED, and the other leaf stops. Which of the two
conditions is named, and the mismatch of a record that leaves FAULT for SET, are the model's readings (assumption logs 35
and 37). LEAVES_LOWER with its permit holding: the group is dissolved, its other fields reset, and its WAITING vessels
return to the queue, within each rank before the vessels that stand there and in group order (R174); the order is LOWER and
the phase LOWERING. With the HELD flag set the leaves rest; with the locks withdrawn and the barriers proven two leaves at
rest start down, and a running raise stops with the lowering as the next movement; with one of those lost the HELD flag is
set instead. RECOVERY_LOWER with its permit holding: the order is RECOVERY_LOWER, the phase stays, and unless the HELD flag
is set two leaves at rest start down by their seats alone. Pending V_CRUISE and ACCEL become active at each movement start
in which a leaf takes part, and no other parameter or pending value changes (R130). A movement in which neither leaf takes
part is described too (the model's choice, assumption log 44). -/
def Obligations.LoweringsAreDirected : Prop :=
  (∀ b : Blocks,
    let c := takeNextMovement b
    let waiting := fun m : Movement => b.leaves.north.mot.next = some m ∨
      (b.leaves.north.mot.next = none ∧ b.leaves.south.mot.next = some m)
    let busy := (∃ l : LeafId, leafInMotion b l = true) ∨ ∃ l : LeafId, (b.brakes.get l).state = .setting
    let faulted := ∃ l : LeafId, leafState b l = .fault
    let locks := ∀ k : LockId, (b.locks.get k).state = .withdrawn
    let barriers := ∀ i : BarrierId, (b.barriers.get i).state = .down ∨ Override.barrier i ∈ b.sil.overrides
    let drops := fun x : Sil => SameBut [.sil, .leaves] b c ∧ c.sil = x ∧
      ∀ l : LeafId, c.leaves.get l = { b.leaves.get l with mot := { (b.leaves.get l).mot with next := none } }
    ((∀ m : Movement, ¬ waiting m) ∨ busy → c = b) ∧
    ∀ m : Movement, waiting m → ¬ busy →
      (b.sil.held = true ∨ faulted → drops b.sil) ∧
      (b.sil.held = false → ¬ faulted →
        (¬ locks → drops { b.sil with held := true, cause := .maintained .locksNotWithdrawn }) ∧
        (locks → ¬ barriers → drops { b.sil with held := true, cause := .maintained .barrierNotProven }) ∧
        (locks → barriers → (∀ l : LeafId, (c.leaves.get l).mot.next = none) ∧
          (LeavesAtRest b → MovementStarts m b c) ∧ SpeedsFollow (MovementBegins m b) b.par b.pend c ∧
          SameBut [.par, .pend, .leaves, .brakes] b c))) ∧
  (∀ (m : Movement) (b : Blocks),
    let c := directMovement m b
    let busy := (∃ l : LeafId, leafInMotion b l = true) ∨ ∃ l : LeafId, (b.brakes.get l).state = .setting
    let taking := fun l : LeafId => alreadyArrived b l m = false ∧ leafState b l ≠ .fault
    let refused := fun l : LeafId => (b.brakes.get l).state = .fault ∨
      ((b.brakes.get l).state = .set ∧ made b (.brakeReleased l) = true)
    SpeedsFollow (MovementBegins m b) b.par b.pend c ∧
    (busy → SameBut [.leaves] b c ∧
      ∀ l : LeafId, c.leaves.get l = { b.leaves.get l with mot := { (b.leaves.get l).mot with next := some m } }) ∧
    (¬ busy → b.sil.mode = .operate → ∀ l : LeafId, taking l → refused l →
      let q := b.brakes.get l
      leafState c l = .fault ∧ (c.leaves.get l).flt.first = some .brakeNotReleased ∧
      (c.leaves.get l).flt.kinds = [.brakeNotReleased] ∧ (c.leaves.get l).mot.command = 0 ∧
      c.brakes.get l = (if made b (.brakeReleased l) then
          { q with command := .set, state := .fault, fault := .brakeNotReleased, lastFault := .brakeNotReleased }
        else { q with command := .set, state := .set, timer := none, fault := .none, lastFault := .brakeNotReleased,
                      mismatch := false }) ∧
      (taking (otherLeaf l) → ¬ refused (otherLeaf l) → leafState c (otherLeaf l) = .stopping ∧
        (c.leaves.get (otherLeaf l)).mot.command = 0) ∧
      (¬ taking (otherLeaf l) → leafState c (otherLeaf l) = leafState b (otherLeaf l) ∧
        c.brakes.get (otherLeaf l) = b.brakes.get (otherLeaf l)) ∧
      SameBut [.par, .pend, .leaves, .brakes] b c)) ∧
  (∀ (tag : Octet) (s : State), QuietPort s →
    let b := atTaking s
    let returned := (b.nav.slots.filter fun x => x.state == .waiting).map Slot.vessel
    b.sil.mode = .operate → b.sil.phase = .raising ∨ b.sil.phase = .opened →
      permitFails b [.estopLatched, .leafFault, .driveNotReady, .vesselUnderway] = none →
        ∃ c : Blocks, exec (.leavesLower tag) s = .next (answered s { kind := 0x15#8, tag := tag, body := [] } c (.ok [])) ∧
          c.sil.phase = .lowering ∧ c.sil.order = some .lower ∧
          c.nav = { b.nav with
            queue := c.nav.queue, slots := [], group := .none, target := .none, targetAngle := 0, proceedShown := none,
            fall := .none, blocked := .none, gap := none, lastCleared := none } ∧
          c.nav.queue.Perm (returned ++ b.nav.queue) ∧
          (∀ k : VesselClass, (c.nav.queue.filter fun v => v.cls == k) = (returned ++ b.nav.queue).filter fun v => v.cls == k) ∧
          (RankOrder b.nav.queue → RankOrder c.nav.queue) ∧
          (b.sil.held = true → c.leaves = b.leaves ∧ c.brakes = b.brakes ∧ c.sil.held = true ∧
            c.sil.cause = b.sil.cause) ∧
          (b.sil.held = false → maintainedFails b = none →
            c.sil.held = false ∧ c.sil.cause = b.sil.cause ∧
            (LeavesAtRest b → MovementStarts .lower b c) ∧
            ((∃ l : LeafId, leafState b l = .moving) → ∀ l : LeafId, c.leaves.get l =
              { b.leaves.get l with mot := { stopped (b.leaves.get l).mot with next := some .lower } })) ∧
          (b.sil.held = false → ∀ x : Cond, maintainedFails b = some x →
            c.sil.held = true ∧ c.sil.cause = .maintained x ∧ LeavesStopped b c ∧ c.brakes = b.brakes) ∧
          SpeedsFollow (b.sil.held = false ∧ maintainedFails b = none ∧ MovementBegins .lower b) b.par b.pend c ∧
          SameBut [.sil, .nav, .par, .pend, .leaves, .brakes] b c) ∧
  (∀ (tag : Octet) (s : State), QuietPort s →
    let b := atTaking s
    b.sil.mode = .operate → b.sil.phase = .recovery ∨ b.sil.phase = .unlocked →
      (∃ l : LeafId, (b.leaves.get l).pos.certain = false ∧ leafState b l ≠ .seated) →
        permitFails b [.estopLatched, .roadNotClosed, .leafFault, .driveNotReady, .locksNotWithdrawn,
          .barrierNotProven] = none →
          ∃ c : Blocks,
            exec (.recoveryLower tag) s = .next (answered s { kind := 0x16#8, tag := tag, body := [] } c (.ok [])) ∧
            c.sil = { b.sil with order := some .recoveryLower } ∧
            (b.sil.held = true → c.leaves = b.leaves ∧ c.brakes = b.brakes) ∧
            (b.sil.held = false → LeavesAtRest b → MovementStarts .recoveryLower b c) ∧
            SpeedsFollow (b.sil.held = false ∧ MovementBegins .recoveryLower b) b.par b.pend c ∧
            SameBut [.sil, .par, .pend, .leaves, .brakes] b c)

/-- MOTION_HOLD while motion is running or the HELD flag is set sets the flag with cause HOLD_REQUEST and sends each
RELEASING or MOVING leaf to STOPPING; otherwise it is answered WRONG_PHASE. PRESENCE_TIMER_EXPIRY in OPERATE sets the
console-lost flag and the HELD flag with cause CONSOLE_LOST and stops the leaves likewise; that the expiry is a command,
whatever time has been counted, and that the model keeps the PRESENCE_MS that ran out in a field, are the model's choices
(assumption logs 4 and 25). While a leaf is RELEASING or MOVING, a lock that is not WITHDRAWN, else a barrier neither DOWN
nor overridden, else the console-lost flag, sets the HELD flag with its cause and stops the leaves; with none of them
nothing happens. Which cause stands where several are lost is the model's choice (assumption log 35). While a leaf is off
SEATED every travelling lock is interrupted, and the HELD flag is set with cause MAINTAINED (LEAF_NOT_SEATED); that the
leaf's leaving is tested on the state is the model's reading (assumption log 7). -/
def Obligations.HoldsStopTheLeaves : Prop :=
  (∀ (tag : Octet) (s : State), QuietPort s →
    let b := atTaking s
    let f : Frame := { kind := 0x17#8, tag := tag, body := [] }
    b.sil.mode = .operate →
      (motionRunning b = true ∨ b.sil.held = true →
        ∃ c : Blocks, exec (.motionHold tag) s = .next (answered s f c (.ok [])) ∧
          c.sil = { b.sil with held := true, cause := .holdRequest } ∧ LeavesStopped b c ∧
          SameBut [.sil, .leaves] b c) ∧
      (motionRunning b = false → b.sil.held = false →
        exec (.motionHold tag) s = .next (answered s f b .wrongPhase))) ∧
  (∀ s : State,
    let b := s.blocks
    (b.sil.mode = .operate → b.presence ≠ none →
      ∃ c : Blocks, exec .presenceTimerExpiry s = .next (eventEnd s c) ∧
        c.sil = { b.sil with consoleLost := true, held := true, cause := .consoleLost } ∧ LeavesStopped b c ∧
        c.presence = none ∧ c.presRanOut = b.par.presenceMs ∧ c.notes = b.notes ++ [.console] ∧
        SameBut [.sil, .leaves, .presence, .presRanOut, .notes] b c) ∧
    (b.sil.mode ≠ .operate ∨ b.presence = none → exec .presenceTimerExpiry s = .next (eventEnd s b))) ∧
  (∀ b : Blocks,
    let c := maintainConditions b
    let driven := ∃ l : LeafId, leafState b l = .releasing ∨ leafState b l = .moving
    let locks := ∀ k : LockId, (b.locks.get k).state = .withdrawn
    let barriers := ∀ i : BarrierId, (b.barriers.get i).state = .down ∨ Override.barrier i ∈ b.sil.overrides
    let stops := fun x : HoldCause =>
      c.sil = { b.sil with held := true, cause := x } ∧ LeavesStopped b c ∧ SameBut [.sil, .leaves] b c
    (driven → ¬ locks → stops (.maintained .locksNotWithdrawn)) ∧
    (driven → locks → ¬ barriers → stops (.maintained .barrierNotProven)) ∧
    (driven → locks → barriers → b.sil.consoleLost = true → stops .consoleLost) ∧
    (¬ driven ∨ (locks ∧ barriers ∧ b.sil.consoleLost = false) → c = b)) ∧
  ∀ b : Blocks,
    let c := interruptUnseated b
    let travels := fun k : LockId => (b.locks.get k).state = .driving ∨ (b.locks.get k).state = .withdrawing
    let unseated := ∃ l : LeafId, leafState b l ≠ .seated
    (unseated → (∃ k : LockId, travels k) →
      c.sil = { b.sil with held := true, cause := .maintained .leafNotSeated } ∧
      (∀ (k : LockId) (ms : Nat), travels k → (b.locks.get k).timer = .running ms →
        c.locks.get k = { b.locks.get k with state := .interrupted, timer := .halted ms }) ∧
      (∀ k : LockId, travels k → (c.locks.get k).state = .interrupted ∧
        (c.locks.get k).command = (b.locks.get k).command) ∧
      (∀ k : LockId, ¬ travels k → c.locks.get k = b.locks.get k) ∧ SameBut [.sil, .locks] b c) ∧
    (¬ unseated ∨ (∀ k : LockId, ¬ travels k) → c = b)

/-- MOTION_RESUME with the HELD flag set and its permit holding clears the flag and its cause, and the held work goes on.
RSQ gives each barrier whose command differs from the call of its phase, or that is STOPPED or in FAULT, that call again;
the overrides of barriers that then stand UP or DOWN, and of approaches that hold their complement, go (R25, R104); and it
takes a pending step. Every INTERRUPTED lock is given its command again, and a RUNNING sequence then advances. With no
movement to restart the leaves rest; a movement that has not completed is directed again to leaves at rest, and at its start
pending V_CRUISE and ACCEL become active, no other parameter or pending value changing (R130). Without the flag it is
answered WRONG_PHASE, and the first failing condition of P_RESUME is named. That a DOWN barrier stays DOWN in a closure from
RECOVERY is the model's reading (assumption log 34). A movement in which neither leaf takes part is described too (the
model's choice, assumption log 44). -/
def Obligations.MotionResumeClearsTheHold : Prop :=
  (∀ (b : Blocks),
    let restarts := ∃ m : Movement, b.sil.order = some m ∧ ¬ (match m with
      | .raise _ => ∀ l : LeafId, leafState b l = .parked ∧ (b.leaves.get l).mot.arrived = true
      | .lower => ∀ l : LeafId, leafState b l = .seated
      | .recoveryLower => ∀ l : LeafId, leafState b l = .seated)
    let continues := b.seq.status = .running ∨ ∃ k : LockId, (b.locks.get k).state = .interrupted
    let roadRests := b.rsq.phase = .roadOpen ∨ b.rsq.phase = .roadClosed ∨ b.rsq.phase = .alert
    ∃ move lock road : List Cond, permitResume b = .estopLatched :: (move ++ lock ++ road) ∧
      (restarts → move = [.leafFault, .driveNotReady, .locksNotWithdrawn, .barrierNotProven]) ∧
      (¬ restarts → move = []) ∧ (continues → lock = [.leafNotSeated]) ∧ (¬ continues → lock = []) ∧
      (¬ roadRests → road = [.stationNotReady]) ∧ (roadRests → road = [])) ∧
  (∀ (p : RoadPhase) (paused : Bool) (i : BarrierId), roadCall p paused i =
    if p = .alert then none
    else if p = .exitLowering ∨ p = .roadClosed ∨
      (isEntry i = true ∧ (p = .entryLowering ∨ p = .clearance ∨ p = .exitRaising)) then some .lower
    else if p = .clearance ∧ paused = true then some .stop else some .raise) ∧
  ∀ (tag : Octet) (s : State), QuietPort s →
    let b := atTaking s
    let f : Frame := { kind := 0x18#8, tag := tag, body := [] }
    b.sil.mode = .operate →
      (b.sil.held = false → exec (.motionResume tag) s = .next (answered s f b .wrongPhase)) ∧
      (b.sil.held = true → ∀ x : Cond, permitFails b (permitResume b) = some x →
        exec (.motionResume tag) s = .next (answered s f b (.notPermitted x))) ∧
      (b.sil.held = true → permitFails b (permitResume b) = none →
        ∃ c : Blocks, exec (.motionResume tag) s = .next (answered s f c (.ok [])) ∧
          c.notes.contains .span = true ∧
          -- the road (R99) and the overrides (R25)
          (let done := fun i : BarrierId => b.sil.phase = .recovery ∧ closureRunning b.rsq.phase = true ∧
             (b.barriers.get i).state = .down
           let called := fun i : BarrierId =>
             let r := b.barriers.get i
             match roadCall b.rsq.phase b.rsq.exitPaused i with
             | none => r
             | some x =>
               if (r.command ≠ x ∨ r.state = .stopped ∨ r.state = .fault) ∧ ¬ (x = .raise ∧ done i) then
                 (barrierCommand i x b).barriers.get i
               else r
           c.sil = { b.sil with
             held := false
             cause := .none
             overrides := b.sil.overrides.filter fun o => match o with
               | .barrier i => decide ((called i).state ≠ .up ∧ (called i).state ≠ .down)
               | .complement a => !(holdsComplement b a) } ∧
           (b.rsq.step = .none → c.rsq = b.rsq ∧ c.slu = b.slu ∧ ∀ i : BarrierId, c.barriers.get i = called i) ∧
           (b.rsq.step = .enterRedWarn → c.rsq.phase = .redWarn ∧ c.rsq.timer = .running b.par.preEntryMs ∧
             c.rsq.step = .none ∧ c.rsq.bells = ⟨true, true⟩ ∧
             c.slu = { b.slu with aspects := ⟨.redFlash, .redFlash⟩ }) ∧
           (b.rsq.step = .enterEntryLowering → complementFailing b = .none → c.rsq.phase = .entryLowering ∧
             c.rsq.timer = .idle ∧ c.rsq.step = .none ∧ c.rsq.wait = .none) ∧
           (b.rsq.step = .enterEntryLowering → complementFailing b ≠ .none →
             c.rsq = { b.rsq with step := .none, wait := complementFailing b } ∧ c.slu = b.slu) ∧
           (b.rsq.step = .enterExitLowering → b.rsq.clearance = .runOut → c.rsq.phase = .exitLowering ∧
             c.rsq.clearance = .idle ∧ c.rsq.step = .none) ∧
           (b.rsq.step = .enterExitLowering → b.rsq.clearance ≠ .runOut →
             c.rsq = { b.rsq with step := .none } ∧ c.slu = b.slu) ∧
           (b.rsq.step = .enterEntryRaising → c.rsq.phase = .entryRaising ∧ c.rsq.step = .none ∧
             c.rsq.bells = ⟨false, false⟩)) ∧
          -- a RUNNING sequence (R153, R156)
          (∀ (x : LockCmd) (target : LockState) (first second : SeqStep),
            (b.seq.sequence = .withdraw ∧ x = .withdraw ∧ target = .withdrawn ∧ first = .centre ∧ second = .tails) ∨
              (b.seq.sequence = .drive ∧ x = .drive ∧ target = .driven ∧ first = .tails ∧ second = .centre) →
            b.seq.status = .running → b.seq.step = first ∨ b.seq.step = second →
              let back := fun k : LockId =>
                let r := b.locks.get k
                if r.state = .interrupted ∧ r.command ≠ .off then (lockCommand k r.command b).locks.get k else r
              let doneIn := fun step : SeqStep => ∀ k : LockId, (step = .centre ↔ k = .centre) → (back k).state = target
              let commanded := fun step : SeqStep => ∀ k : LockId, c.locks.get k =
                if (step = .centre ↔ k = .centre) ∧ (back k).state ≠ .fault ∧ (back k).state ≠ target then
                  (lockCommand k x (setLock k (back k) b)).locks.get k
                else back k
              (b.seq.step = first → ¬ doneIn first → c.seq = b.seq ∧ commanded first) ∧
              (b.seq.step = second ∨ doneIn first → ¬ doneIn second →
                c.seq = { b.seq with step := second } ∧ commanded second) ∧
              (b.seq.step = second ∨ doneIn first → doneIn second →
                c.seq = { b.seq with step := second, status := .complete } ∧ ∀ k : LockId, c.locks.get k = back k)) ∧
          -- no RUNNING sequence
          (b.seq.status ≠ .running → c.seq = b.seq ∧
            ∀ k : LockId,
              ((b.locks.get k).state ≠ .interrupted ∨ (b.locks.get k).command = .off →
                c.locks.get k = b.locks.get k) ∧
              ((b.locks.get k).state = .interrupted → (b.locks.get k).command = .withdraw →
                c.locks.get k =
                  if lockShows b k = .second then { b.locks.get k with state := .withdrawn, timer := .idle }
                  else { b.locks.get k with state := .withdrawing, timer := .running 0 }) ∧
              ((b.locks.get k).state = .interrupted → (b.locks.get k).command = .drive →
                c.locks.get k =
                  if lockShows b k = .first then { b.locks.get k with state := .driven, timer := .idle }
                  else { b.locks.get k with state := .driving, timer := .running 0 })) ∧
          (movementToRestart b = false → c.leaves = b.leaves ∧ c.brakes = b.brakes) ∧
          (LeavesAtRest b → ∀ m : Movement, b.sil.order = some m → movementComplete b m = false →
            MovementStarts m b c) ∧
          SpeedsFollow (∃ m : Movement, b.sil.order = some m ∧ movementComplete b m = false ∧ MovementBegins m b)
            b.par b.pend c ∧
          SameBut [.sil, .rsq, .slu, .barriers, .locks, .seq, .leaves, .brakes, .par, .pend, .notes] b c)

/-- ESTOP_RESET: a set latch clears when the ESTOP input is made, posting an ESTOP report whose lists of what was stopped
are empty (the model's choice, assumption log 10), and is refused otherwise; with the latch clear the answer is OK and
nothing changes. -/
def Obligations.EstopResetNeedsTheInput : Prop :=
  ∀ (tag : Octet) (s : State), QuietPort s →
    let b := atTaking s
    let f : Frame := { kind := 0x19#8, tag := tag, body := [] }
    b.sil.mode = .operate →
      (b.sil.latch = true → made b .estop = true → exec (.estopReset tag) s = .next (answered s f
        { b with sil := { b.sil with latch := false }, notes := b.notes ++ [.estop [] [] []] } (.ok []))) ∧
      (b.sil.latch = true → made b .estop = false →
        exec (.estopReset tag) s = .next (answered s f b (.notPermitted .estopLatched))) ∧
      (b.sil.latch = false → exec (.estopReset tag) s = .next (answered s f b (.ok [])))

/-- FAULT_CLEAR of a leaf in FAULT whose checks pass makes it SEATED or PARKED by its seat, and the first check that fails
is named. A lock in FAULT without a switch conflict takes the state from the switches, and a RUNNING sequence then advances
where the HELD flag is clear and both leaves are SEATED. A barrier with consistent switches takes the state from them under
HELD and where its call is STOP; with HELD clear it takes the call of the road's phase, or in ALERT its own command, as a
new command. A subject in no FAULT is answered NOT_FOUND, and a set latch refuses locks and barriers; a number without a
subject gives RANGE. -/
def Obligations.FaultClearLeavesFault : Prop :=
  ∀ (tag : Octet) (s : State), QuietPort s →
    let b := atTaking s
    let f := fun (cls subject : Octet) => ({ kind := 0x1A#8, tag := tag, body := [cls, subject] } : Frame)
    b.sil.mode = .operate →
      (∀ (l : LeafId) (n : Octet), n.toNat = leafNumber l →
        ((b.leaves.get l).mot.state ≠ .fault →
          exec (.faultClearLeaf tag n) s = .next (answered s (f 0#8 n) b .notFound)) ∧
        ((b.leaves.get l).mot.state = .fault →
          (LeafFault.driveNotReady ∉ (b.leaves.get l).flt.kinds ∨ made b (.driveReady l) = true) →
          (LeafFault.overtravel ∉ (b.leaves.get l).flt.kinds ∨ made b (.overtravel l) = false) →
          (b.leaves.get l).win.stationary = some true → (b.brakes.get l).state = .set →
            ∃ c : Blocks, exec (.faultClearLeaf tag n) s = .next (answered s (f 0#8 n) c (.ok [])) ∧
              (c.leaves.get l).flt.first = none ∧ (c.leaves.get l).flt.kinds = [] ∧
              leafState c l = (if made b (.seated l) then .seated else .parked) ∧
              (made b (.seated l) = false → (c.leaves.get l).mot.arrived = false) ∧
              (c.leaves.get l).pos = (b.leaves.get l).pos ∧
              c.leaves.get (otherLeaf l) = b.leaves.get (otherLeaf l) ∧ SameBut [.leaves] b c) ∧
        ((b.leaves.get l).mot.state = .fault → LeafFault.driveNotReady ∈ (b.leaves.get l).flt.kinds →
          made b (.driveReady l) = false →
            exec (.faultClearLeaf tag n) s = .next (answered s (f 0#8 n) b (.notPermitted .driveNotReady))) ∧
        ((b.leaves.get l).mot.state = .fault →
          (LeafFault.driveNotReady ∉ (b.leaves.get l).flt.kinds ∨ made b (.driveReady l) = true) →
          (LeafFault.overtravel ∈ (b.leaves.get l).flt.kinds ∧ made b (.overtravel l) = true) ∨
            (b.leaves.get l).win.stationary ≠ some true ∨ (b.brakes.get l).state ≠ .set →
              exec (.faultClearLeaf tag n) s = .next (answered s (f 0#8 n) b (.notPermitted .leafFault)))) ∧
      (∀ (k : LockId) (n : Octet), n.toNat = lockNumber k →
        (b.sil.latch = true → exec (.faultClearLock tag n) s =
          .next (answered s (f 1#8 n) b (.notPermitted .estopLatched))) ∧
        (b.sil.latch = false → (b.locks.get k).state ≠ .fault →
          exec (.faultClearLock tag n) s = .next (answered s (f 1#8 n) b .notFound)) ∧
        (b.sil.latch = false → (b.locks.get k).state = .fault → lockShows b k = .conflict →
          exec (.faultClearLock tag n) s = .next (answered s (f 1#8 n) b
            (.notPermitted (if (b.locks.get k).command = .withdraw then .locksNotWithdrawn else .locksNotDriven)))) ∧
        (b.sil.latch = false → (b.locks.get k).state = .fault → lockShows b k ≠ .conflict →
          let cleared : LockRec := match lockShows b k with
            | .first => { b.locks.get k with fault := .none, state := .driven, timer := .idle }
            | .second => { b.locks.get k with fault := .none, state := .withdrawn, timer := .idle }
            | _ => { b.locks.get k with fault := .none, state := .interrupted, timer := .halted 0 }
          let advances := b.seq.status = .running ∧ b.sil.held = false ∧ ∀ l : LeafId, leafState b l = .seated
          (¬ advances →
            exec (.faultClearLock tag n) s = .next (answered s (f 1#8 n) (setLock k cleared b) (.ok []))) ∧
          ∀ (x : LockCmd) (target : LockState) (first second : SeqStep),
            (b.seq.sequence = .withdraw ∧ x = .withdraw ∧ target = .withdrawn ∧ first = .centre ∧ second = .tails) ∨
              (b.seq.sequence = .drive ∧ x = .drive ∧ target = .driven ∧ first = .tails ∧ second = .centre) →
            advances → b.seq.step = first ∨ b.seq.step = second →
              let now := fun j : LockId => if j = k then cleared else b.locks.get j
              let doneIn := fun step : SeqStep => ∀ j : LockId, (step = .centre ↔ j = .centre) → (now j).state = target
              ∃ c : Blocks, exec (.faultClearLock tag n) s = .next (answered s (f 1#8 n) c (.ok [])) ∧
                let commanded := fun step : SeqStep => ∀ j : LockId, c.locks.get j =
                  if (step = .centre ↔ j = .centre) ∧ (now j).state ≠ .fault ∧ (now j).state ≠ target then
                    (lockCommand j x (setLock j (now j) b)).locks.get j
                  else now j
                (b.seq.step = first → ¬ doneIn first → c.seq = b.seq ∧ commanded first) ∧
                (b.seq.step = second ∨ doneIn first → ¬ doneIn second →
                  c.seq = { b.seq with step := second } ∧ commanded second) ∧
                (b.seq.step = second ∨ doneIn first → doneIn second →
                  c.seq = { b.seq with step := second, status := .complete } ∧ ∀ j : LockId, c.locks.get j = now j) ∧
                SameBut [.locks, .seq] b c)) ∧
      (∀ (i : BarrierId) (n : Octet), n.toNat = barrierNumber i →
        (b.sil.latch = true → exec (.faultClearBarrier tag n) s =
          .next (answered s (f 2#8 n) b (.notPermitted .estopLatched))) ∧
        (b.sil.latch = false → (b.barriers.get i).state ≠ .fault →
          exec (.faultClearBarrier tag n) s = .next (answered s (f 2#8 n) b .notFound)) ∧
        (b.sil.latch = false → (b.barriers.get i).state = .fault →
          barrierFresh b i = false ∨ barrierShows b i = .conflict →
            exec (.faultClearBarrier tag n) s = .next (answered s (f 2#8 n) b (.notPermitted .barrierNotProven))) ∧
        (b.sil.latch = false → (b.barriers.get i).state = .fault → barrierFresh b i = true →
          barrierShows b i ≠ .conflict →
            let call := (roadCall b.rsq.phase b.rsq.exitPaused i).getD (b.barriers.get i).command
            let becomes := fun x : BarrierRec =>
              exec (.faultClearBarrier tag n) s = .next (answered s (f 2#8 n) (setBarrier i x b) (.ok []))
            (b.sil.held = true ∨ call = .stop → becomes
              { command := .stop, timer := .idle, fault := .none,
                state := match barrierShows b i with
                  | .first => .up
                  | .second => .down
                  | _ => .stopped }) ∧
            (b.sil.held = false → call = .lower → becomes (if barrierShows b i = .second then
                { command := .lower, state := .down, timer := .idle, fault := .none }
              else { command := .lower, state := .lowering, timer := .running 0, fault := .none })) ∧
            (b.sil.held = false → call = .raise → becomes (if barrierShows b i = .first then
                { command := .raise, state := .up, timer := .idle, fault := .none }
              else { command := .raise, state := .raising, timer := .running 0, fault := .none })))) ∧
      ∀ n : Octet,
        (2 ≤ n.toNat → exec (.faultClearLeaf tag n) s = .next (answered s (f 0#8 n) b .range)) ∧
        (3 ≤ n.toNat → exec (.faultClearLock tag n) s = .next (answered s (f 1#8 n) b .range)) ∧
        (4 ≤ n.toNat → exec (.faultClearBarrier tag n) s = .next (answered s (f 2#8 n) b .range))

/-- OVERRIDE_GRANT appends its entry where the reason for it stands, and is answered DUPLICATE for an entry that is there
and NOT_PERMITTED without a reason; OVERRIDE_REVOKE removes an entry and is answered NOT_FOUND without one; a kind or
subject out of range gives RANGE in both. A grant and a revocation each post a SPAN report with the fields as the event
leaves them, also where the entry goes again in the same event (R24, R25). By itself an entry goes once its barrier is UP or
DOWN or its approach holds its complement again, and the others stay in their order (R25). -/
def Obligations.OverridesAreGrantedAndRevoked : Prop :=
  (∀ b : Blocks,
    let kept := (dropOverrides b).sil.overrides
    dropOverrides b = { b with sil := { b.sil with overrides := kept } } ∧ kept.Sublist b.sil.overrides ∧
      ∀ o : Override, o ∈ kept ↔ o ∈ b.sil.overrides ∧ match o with
        | .barrier i => (b.barriers.get i).state ≠ .up ∧ (b.barriers.get i).state ≠ .down
        | .complement a => holdsComplement b a = false) ∧
  ∀ (tag kind subject : Octet) (s : State), QuietPort s →
    let b := atTaking s
    let f := fun k : Octet => ({ kind := k, tag := tag, body := [kind, subject] } : Frame)
    let table := fun os : List Override => { b with sil := { b.sil with overrides := os }, notes := b.notes ++ [.span] }
    let reported := fun c : Blocks =>
      let d := settle s.blocks c
      ({ kind := .span, subject := 0, body := spanFields d } : Posting) ∈ eventPostings s.blocks d
    b.sil.mode = .operate →
      (overrideOf kind.toNat subject.toNat = none →
        exec (.overrideGrant tag kind subject) s = .next (answered s (f 0x1B#8) b .range) ∧
        exec (.overrideRevoke tag kind subject) s = .next (answered s (f 0x1C#8) b .range)) ∧
      (∀ o : Override,
        (kind.toNat = 0 ∧ (∃ i : BarrierId, o = .barrier i ∧ subject.toNat = barrierNumber i)) ∨
          (kind.toNat = 1 ∧ (∃ a : Approach, o = .complement a ∧ subject.toNat = approachNumber a)) →
        (o ∈ b.sil.overrides →
          exec (.overrideGrant tag kind subject) s = .next (answered s (f 0x1B#8) b .duplicate) ∧
          exec (.overrideRevoke tag kind subject) s =
            .next (answered s (f 0x1C#8) (table (b.sil.overrides.filter fun x => decide (x ≠ o))) (.ok [])) ∧
          reported (table (b.sil.overrides.filter fun x => decide (x ≠ o)))) ∧
        (o ∉ b.sil.overrides →
          exec (.overrideRevoke tag kind subject) s = .next (answered s (f 0x1C#8) b .notFound) ∧
          ((match o with
            | .barrier i => b.rsq.phase ≠ .roadOpen ∧
                ((b.barriers.get i).state = .fault ∨ (b.barriers.get i).state = .unproven)
            | .complement a => holdsComplement b a = false) →
            exec (.overrideGrant tag kind subject) s =
              .next (answered s (f 0x1B#8) (table (b.sil.overrides ++ [o])) (.ok [])) ∧
            reported (table (b.sil.overrides ++ [o]))) ∧
          (¬ (match o with
            | .barrier i => b.rsq.phase ≠ .roadOpen ∧
                ((b.barriers.get i).state = .fault ∨ (b.barriers.get i).state = .unproven)
            | .complement a => holdsComplement b a = false) →
            exec (.overrideGrant tag kind subject) s =
              .next (answered s (f 0x1B#8) b (.notPermitted .overrideNotApplicable)))))

/-! ## Passage -/

/-- VESSEL_ADD: the five checks in order, then a late join at the end of the group or a new queue entry directly after
the last of equal or better rank; the reply carries the required angle, the destination and the position. -/
def Obligations.VesselAddQueuesByRank : Prop :=
  ∀ (tag direction cls : Octet) (ident airDraft : BitVec 16) (d : Dir) (c : VesselClass) (s : State), QuietPort s →
    let b := atTaking s
    let n := b.nav
    let f : Frame := { kind := 0x20#8, tag := tag,
                       body := octets16 ident ++ direction :: octets16 airDraft ++ [cls] }
    let answers := fun (x : Blocks) (r : Result) =>
      exec (.vesselAdd tag ident direction airDraft cls) s = .next (answered s f x r)
    let required := requiredAngle n.table airDraft.toNat
    let v : Vessel := { ident := ident.toNat, dir := d, airDraft := airDraft.toNat, cls := c, required := required }
    let held := (∃ x ∈ n.queue, x.ident = ident.toNat) ∨ ∃ x ∈ n.slots, x.vessel.ident = ident.toNat
    let places := n.queue.length + (n.slots.filter fun x => x.state == .waiting).length
    b.sil.mode = .operate →
      (dirOf direction.toNat = none ∨ classOf cls.toNat = none ∨ ident = 0#16 ∨ 6000 < airDraft.toNat →
        answers b .range) ∧
      (dirOf direction.toNat = some d → classOf cls.toNat = some c → ident ≠ 0#16 → airDraft.toNat ≤ 6000 →
        (held → answers b .duplicate) ∧
        (¬ held → airDraft.toNat ≤ closedClearance n.table → answers b .notRequired) ∧
        (¬ held → closedClearance n.table < airDraft.toNat →
          (fullClearance n.table < airDraft.toNat → answers b .airDraftExceeds) ∧
          (airDraft.toNat ≤ fullClearance n.table → 12 ≤ places → answers b .queueFull) ∧
          (airDraft.toNat ≤ fullClearance n.table → places < 12 →
            let late := (n.group = .awaitingOpen ∨ n.group = .passing) ∧ n.slots.length < 4 ∧
              required + b.par.angleMarginCd ≤ n.targetAngle
            (late → answers { b with nav := { n with slots := n.slots ++ [{ vessel := v, state := .waiting }] } }
              (.ok (u16 required ++ [1#8, BitVec.ofNat 8 n.slots.length]))) ∧
            (¬ late → RankOrder n.queue → ∃ before after : List Vessel, n.queue = before ++ after ∧
              (∀ x ∈ before, classRank x.cls ≤ classRank c) ∧ (∀ x ∈ after, classRank c < classRank x.cls) ∧
              answers { b with nav := { n with queue := before ++ v :: after } }
                (.ok (u16 required ++ [0#8, BitVec.ofNat 8 (before.length + 1)]))))))

/-- VESSEL_WITHDRAW removes a queue entry or makes a WAITING group vessel WITHDRAWN; VESSEL_CLEARED makes the PROCEEDING
vessel CLEARED, ends its proceed, makes its direction the last cleared one, applies the pending gaps, starts the gap
timer from 0 and selects both channel aspects again. A selection gives each direction the aspect of R175 and notes a NAV
posting where it changes; after a fall of proceed the aspect stays RED until VESSEL_CLEARED (R173, R176), also where another
vessel of the direction waits, which is the model's reading (assumption log 39). -/
def Obligations.VesselsAreWithdrawnAndCleared : Prop :=
  (∀ b : Blocks,
    let c := selectAspects b
    let n := b.nav
    let active := n.group = .awaitingOpen ∨ n.group = .passing
    let fallen := fun d : Dir => n.fall ≠ .none ∧ ∃ v : Vessel, proceedingVessel n = some v ∧ v.dir = d
    let waits := fun d : Dir => ∃ x ∈ n.slots, x.state = .waiting ∧ x.vessel.dir = d
    let stands := (∃ l : LeafId, leafState b l = .fault) ∨ b.wmn.alarm = .stop ∨ b.wmn.sound = false ∨
      b.sil.latch = true ∨ b.sil.consoleLost = true
    c.nav = { n with aspects := c.nav.aspects } ∧ SameBut [.nav, .notes] b c ∧
    c.notes = b.notes ++ ([Dir.inbound, .outbound].filter fun d =>
      decide (n.aspects.get d ≠ c.nav.aspects.get d)).map Note.nav ∧
    ∀ d : Dir,
      (active → n.proceedShown = some d → c.nav.aspects.get d = .proceed) ∧
      (active → n.proceedShown ≠ some d → fallen d → c.nav.aspects.get d = .red) ∧
      (active → n.proceedShown ≠ some d → ¬ fallen d → waits d → c.nav.aspects.get d = .standby) ∧
      (active → n.proceedShown ≠ some d → ¬ waits d → c.nav.aspects.get d = .red) ∧
      (¬ active → stands → c.nav.aspects.get d = .outOfService) ∧
      (¬ active → ¬ stands → c.nav.aspects.get d = .red)) ∧
  ∀ (tag : Octet) (ident : BitVec 16) (s : State), QuietPort s →
    let b := atTaking s
    let n := b.nav
    let f := fun k : Octet => ({ kind := k, tag := tag, body := octets16 ident } : Frame)
    let withdrawn := fun (x : Blocks) (r : Result) =>
      exec (.vesselWithdraw tag ident) s = .next (answered s (f 0x21#8) x r)
    let cleared := fun (x : Blocks) (r : Result) =>
      exec (.vesselCleared tag ident) s = .next (answered s (f 0x22#8) x r)
    let marked := fun t : VesselState =>
      n.slots.map fun x => if x.vessel.ident = ident.toNat then { x with state := t } else x
    b.sil.mode = .operate →
      (ident = 0#16 → withdrawn b .range ∧ cleared b .range) ∧
      (ident ≠ 0#16 →
        ((∃ v ∈ n.queue, v.ident = ident.toNat) →
          withdrawn { b with nav := { n with queue := n.queue.filter fun v => decide (v.ident ≠ ident.toNat) } }
            (.ok [])) ∧
        ((∀ v ∈ n.queue, v.ident ≠ ident.toNat) →
          ((∀ x ∈ n.slots, x.vessel.ident ≠ ident.toNat) → withdrawn b .notFound) ∧
          ∀ (before after : List Slot) (x : Slot), n.slots = before ++ x :: after → x.vessel.ident = ident.toNat →
            (∀ y ∈ before, y.vessel.ident ≠ ident.toNat) →
              (x.state = .waiting → withdrawn { b with nav := { n with slots := marked .withdrawn } } (.ok [])) ∧
              (x.state = .proceeding → withdrawn b .vesselUnderway) ∧
              (x.state = .cleared ∨ x.state = .withdrawn → withdrawn b .notFound)) ∧
        ((∀ v, proceedingVessel n = some v → v.ident ≠ ident.toNat) → cleared b .notProceeding) ∧
        ∀ v, proceedingVessel n = some v → v.ident = ident.toNat →
          cleared
            (selectAspects { b with
              par := { b.par with followMs := b.pend.followMs.getD b.par.followMs
                                  reverseMs := b.pend.reverseMs.getD b.par.reverseMs }
              pend := { b.pend with followMs := none, reverseMs := none }
              nav := { n with slots := marked .cleared, proceedShown := none, fall := .none, lastCleared := some v.dir,
                              gap := some 0 } }) (.ok []))

/-! ## Queries -/

/-- Every query with a subject and a part that exist is answered OK with its part number, its part count and fields,
in every mode and with no other effect; a subject or part out of range is answered RANGE; PRESENCE is answered OK
alone; a kind that is no request's is answered with kind 0xFF and UNKNOWN_KIND. -/
def Obligations.QueriesAnswerAndChangeNothing : Prop :=
  ∀ (tag subject part : Octet) (s : State), QuietPort s →
    let b := atTaking s
    let f := fun k : Octet => ({ kind := k, tag := tag, body := [subject, part] } : Frame)
    let query := fun (i : Instr) (k : Octet) (subjects parts : Nat) =>
      (subject.toNat < subjects → part.toNat < parts → ∃ fields : List Octet,
        exec i s = .next (answered s (f k) b (.ok (part :: BitVec.ofNat 8 parts :: fields)))) ∧
      (subjects ≤ subject.toNat ∨ parts ≤ part.toNat → exec i s = .next (answered s (f k) b .range))
    query (.getSpan tag subject part) 0x30#8 1 1 ∧ query (.getRoad tag subject part) 0x31#8 1 4 ∧
    query (.getLeaf tag subject part) 0x32#8 2 2 ∧ query (.getLocks tag subject part) 0x33#8 1 1 ∧
    query (.getLink tag subject part) 0x34#8 3 1 ∧ query (.getQueue tag subject part) 0x36#8 1 4 ∧
    query (.getWind tag subject part) 0x37#8 1 1 ∧
    (1 ≤ subject.toNat → subject.toNat ≤ 41 → part = 0#8 → ∃ fields : List Octet,
      exec (.getInput tag subject part) s = .next (answered s (f 0x35#8) b (.ok (0#8 :: 1#8 :: fields)))) ∧
    (subject = 0#8 ∨ 41 < subject.toNat ∨ part ≠ 0#8 →
      exec (.getInput tag subject part) s = .next (answered s (f 0x35#8) b .range)) ∧
    exec (.presence tag subject part) s =
      .next (answered s (f 0x38#8) b (if subject = 0#8 ∧ part = 0#8 then .ok [] else .range)) ∧
    ∀ (kind : Octet) (body : List Octet), knownKind kind = false → body.length ≤ 64 →
      exec (.unknownKind kind tag body) s =
        .next (answered s { kind := kind, tag := tag, body := body } b .unknownKind) ∧
      replyFrame { kind := kind, tag := tag, body := body } .unknownKind =
        { kind := 0xFF#8, tag := tag, body := [2#8] }

/-- What the fields of the queries spell: GET_SPAN the SIL record, GET_LOCKS the three lock records, the sequence and the
two brakes, GET_LINK the link record, GET_WIND the wind record with the period timer and the wind cap; GET_ROAD the road
record with aspects and bells, the barriers, the generator and the lamp groups; GET_LEAF the position, window and fault
records and the motion record with its last update; GET_INPUT one input record with its source; GET_QUEUE the group, the
queue and the clearance table. The widths and codes of absent values, the code of occupied and of present, and the octets
that assumption log 10 names, are the model's reading of R206, as are the forms of a group slot, with which part 0 of
GET_QUEUE has the 64 octets of a whole body; the clearance without a table is a free value (assumption logs 10, 11 and 12).
-/
def Obligations.QueriesSpellTheRecords : Prop :=
  ∀ (tag subject : Octet) (s : State), QuietPort s →
    let b := atTaking s
    let f := fun k x : Octet => ({ kind := k, tag := tag, body := [x, 0#8] } : Frame)
    let yes := fun x : Bool => if x then 1#8 else 0#8
    let w := b.wmn
    let left := fun t : Option Nat => match t with
      | none => 0#8 :: u16 0
      | some ms => 1#8 :: u16 ms
    let travel := fun t : TravelTimer => match t with
      | .idle => 0#8 :: u16 0
      | .running ms => 1#8 :: u16 ms
      | .halted ms => 2#8 :: u16 ms
    let movement := fun x : Option Movement => match x with
      | none => [0#8, 0#8, 0#8, 0#8]
      | some (.raise .full) => [1#8, 0#8, 0#8, 0#8]
      | some (.raise (.angle cd)) => 1#8 :: 1#8 :: u16 cd
      | some .lower => [2#8, 0#8, 0#8, 0#8]
      | some .recoveryLower => [3#8, 0#8, 0#8, 0#8]
    -- GET_SPAN
    (let cause := match b.sil.cause with
       | .none => [0#8, 0#8]
       | .holdRequest => [1#8, 0#8]
       | .estop => [2#8, 0#8]
       | .consoleLost => [3#8, 0#8]
       | .maintained c => [4#8, BitVec.ofNat 8 c.number]
       | .movementShort => [5#8, 0#8]
     let overrides := b.sil.overrides.map fun e => match e with
       | .barrier i => [0#8, BitVec.ofNat 8 (barrierNumber i)]
       | .complement a => [1#8, BitVec.ofNat 8 (approachNumber a)]
     exec (.getSpan tag 0#8 0#8) s = .next (answered s (f 0x30#8 0#8) b (.ok
       ([0#8, 1#8, BitVec.ofNat 8 b.sil.mode.number, BitVec.ofNat 8 b.sil.phase.number, yes b.sil.held] ++ cause ++
        [yes b.sil.latch, yes b.sil.consoleLost] ++ movement b.sil.order ++
        BitVec.ofNat 8 b.sil.overrides.length :: overrides.flatten ++ left b.sil.adoptTimer ++
        [BitVec.ofNat 8 b.sil.adoptOutcome.number, BitVec.ofNat 8 b.sil.notFresh])))) ∧
    -- GET_LOCKS
    (let lock := fun k : LockId =>
        [BitVec.ofNat 8 (b.locks.get k).command.number, BitVec.ofNat 8 (b.locks.get k).state.number] ++
          travel (b.locks.get k).timer ++ [BitVec.ofNat 8 (b.locks.get k).fault.number]
      let brake := fun l : LeafId =>
        [BitVec.ofNat 8 (b.brakes.get l).command.number, BitVec.ofNat 8 (b.brakes.get l).state.number] ++
          left (b.brakes.get l).timer ++
          [BitVec.ofNat 8 (b.brakes.get l).fault.number, BitVec.ofNat 8 (b.brakes.get l).lastFault.number,
           yes (b.brakes.get l).mismatch]
      exec (.getLocks tag 0#8 0#8) s = .next (answered s (f 0x33#8 0#8) b (.ok
        ([0#8, 1#8] ++ lock .centre ++ lock .northTail ++ lock .southTail ++
          [BitVec.ofNat 8 b.seq.sequence.number, BitVec.ofNat 8 b.seq.step.number, BitVec.ofNat 8 b.seq.status.number]
          ++ brake .north ++ brake .south)))) ∧
    (∀ l : Link, subject.toNat = linkNumber l →
      let r := b.links.get l
      exec (.getLink tag subject 0#8) s = .next (answered s (f 0x34#8 subject) b (.ok
        ([0#8, 1#8, BitVec.ofNat 8 r.state.number, (r.expected.map (BitVec.setWidth 8)).getD 0xFF#8,
          BitVec.ofNat 8 r.confirmations, BitVec.ofNat 8 r.errors] ++ u16 r.windowFrames ++ u16 r.windowErrors ++
          [yes r.excess, BitVec.ofNat 8 r.huntCause.number, (r.prevStatus.map (BitVec.setWidth 8)).getD 0xFF#8,
           BitVec.ofNat 8 r.status.number, yes (stationReady b l), r.txNumber.setWidth 8,
           if r.txCodeword = .hold then 0#8 else 1#8])))) ∧
    exec (.getWind tag 0#8 0#8) s = .next (answered s (f 0x37#8 0#8) b (.ok
      ([0#8, 1#8, BitVec.ofNat 8 w.measure.number] ++ u24 (w.lastPeriod.getD 0xFFFFFF) ++ u16 w.wind ++ u16 w.gust ++
        [BitVec.ofNat 8 w.age, BitVec.ofNat 8 w.gustLevel.number, BitVec.ofNat 8 w.alarm.number,
         if w.sound then 0#8 else 1#8, BitVec.ofNat 8 w.run, BitVec.ofNat 8 w.implausible] ++
        u24 w.period ++ u16 (windCap b)))) ∧
    (let g := fun k x part : Octet => ({ kind := k, tag := tag, body := [x, part] } : Frame)
     let o := fun n : Nat => BitVec.ofNat 8 n
     let known := fun x : Option Int => match x with
       | none => u24 0xFFFFFF
       | some v => s24 v
     -- GET_ROAD
     (let road := fun (part : Octet) (fields : List Octet) =>
        exec (.getRoad tag 0#8 part) s = .next (answered s (g 0x31#8 0#8 part) b (.ok (part :: 4#8 :: fields)))
      let bar := fun i : BarrierId => let x := b.barriers.get i
        [o x.command.number, o x.state.number] ++ travel x.timer ++ [o x.fault.number]
      let lamp := fun y : Lamp => let x := lampRec b y
        [yes x.fitted, if x.command then 0#8 else 1#8, o x.state.number, o x.proofs, o x.timer.number] ++ u16 x.remaining ++
          [yes x.absentSeen]
      road 0#8 ([o b.rsq.phase.number, o b.slu.aspects.north.number, o b.slu.aspects.south.number,
          yes b.rsq.bells.north, yes b.rsq.bells.south, o b.rsq.wait.number, o b.rsq.cause.number,
          o b.rsq.step.number] ++
        (match b.rsq.timer with
         | .idle => 0#8 :: u16 0
         | .running ms => 1#8 :: u16 ms
         | .runOut => 2#8 :: u16 0) ++
        (match b.rsq.clearance with
         | .idle => 0#8 :: u16 0
         | .full => 1#8 :: u16 b.par.clearMs
         | .running ms => 2#8 :: u16 ms
         | .runOut => 3#8 :: u16 0) ++
        [yes b.rsq.exitPaused, o b.nav.aspects.inbound.number, o b.nav.aspects.outbound.number]) ∧
      road 1#8 (bar .northEntry ++ bar .northExit ++ bar .southEntry ++ bar .southExit) ∧
      road 2#8 ([yes b.slu.running, yes b.slu.phaseB, o b.slu.residue] ++ u16 b.slu.remaining ++
        [o b.par.flashFpm, o (b.pend.flashFpm.getD 0xFF)] ++
        lamp (.amber .north) ++ lamp (.redA .north) ++ lamp (.redB .north) ++
        lamp (.amber .south) ++ lamp (.redA .south) ++ lamp (.redB .south)) ∧
      road 3#8 (lamp (.red1 .inbound) ++ lamp (.red2 .inbound) ++ lamp (.green .inbound) ++
        lamp (.red1 .outbound) ++ lamp (.red2 .outbound) ++ lamp (.green .outbound))) ∧
     -- GET_LEAF
     (∀ l : LeafId, subject.toNat = leafNumber l →
       let leaf := fun (part : Octet) (fields : List Octet) =>
         exec (.getLeaf tag subject part) s =
           .next (answered s (g 0x32#8 subject part) b (.ok (part :: 2#8 :: fields)))
       let p := (b.leaves.get l).pos
       let x := (b.leaves.get l).win
       let y := (b.leaves.get l).flt
       let m := (b.leaves.get l).mot
       leaf 0#8 (s24 p.position ++ [if p.certain then 0#8 else 1#8] ++
         known (if p.angleKnown then some (leafAngle b l) else none) ++
         [yes p.angleKnown, yes p.phaseA, yes p.phaseB, o p.errorCount] ++ known p.seatCorrection ++
         known p.openLimitPos ++ [yes x.running, o x.elapsed] ++ s24 x.net ++ u24 x.gross ++ u16 x.speed ++
         [o x.dir.number, (x.stationary.map yes).getD 0xFF#8, o ((y.first.map fun k => k.number + 1).getD 0)] ++
         u16 ((y.kinds.map fun k => 2 ^ k.number).sum) ++ left y.stall ++ u16 y.wrongDir) ∧
       leaf 1#8 ([o m.state.number, yes m.arrived, o m.kind.number] ++
         (match m.target with
          | none => [0#8, 0#8, 0#8]
          | some .full => [1#8, 0#8, 0#8]
          | some (.angle cd) => 2#8 :: u16 cd) ++
         known m.targetCounts ++ [o m.rule.number, yes m.takingPart, yes m.arrivalReached] ++
         movement m.next ++ u16 m.command ++ u16 (driveDuty b l) ++ [o m.driveDir.number, yes m.brakeSetAsked, o m.lastStop.number] ++
         (match m.lastUpdate with
          | none => List.replicate 12 0#8
          | some u => 1#8 :: (s24 u.distance ++ u16 u.zone ++ u16 u.cap ++ u24 u.lead.toNat ++ [yes u.trimmed])) ++
         u16 b.par.vCruise ++ u16 (b.pend.vCruise.getD 0xFFFF) ++
         [o b.par.accel, o (b.pend.accel.getD 0xFF)])) ∧
     -- GET_INPUT
     (∀ i : Fin 41, subject.toNat = i.val + 1 →
       let x := b.iq.recs.get i
       let input := fun (source : List Octet) (n : Nat) (invert report : Bool) =>
         exec (.getInput tag subject 0#8) s = .next (answered s (g 0x35#8 subject 0#8) b (.ok
           (0#8 :: 1#8 :: (source ++ [o n, yes invert, yes report, yes x.qualified,
             (x.candidate.map yes).getD 0xFF#8, o x.agreement, o x.freshness.number, yes x.pendingFirst] ++
             u16 ((x.heldSince.map fun t => b.now - t).getD 0xFFFF)))))
       (24 ≤ i.val → input [1#8, 0#8, 0#8, 0#8] (if i.val = 40 then 2 else b.par.directDebounce) false true) ∧
       ∀ j : Fin 24, j.val = i.val →
         (b.cat.inputs.get j = none → input [3#8, 0#8, 0#8, 0#8] 1 false true) ∧
         (b.cat.inputs.get j = some .notFitted → input [2#8, 0#8, 0#8, 0#8] 1 false true) ∧
         ∀ (k : Link) (p : Position) (n : Nat) (invert report : Bool), inputLink (fieldFn j) = some k →
           b.cat.inputs.get j = some (.position p n invert report) →
             input [0#8, o (linkNumber k), o (p.val / 8 + 1), o (p.val % 8)] n invert report) ∧
     -- GET_QUEUE
     (let queue := fun (part : Octet) (fields : List Octet) =>
        exec (.getQueue tag 0#8 part) s = .next (answered s (g 0x36#8 0#8 part) b (.ok (part :: 4#8 :: fields)))
      let n := b.nav
      let vessel := fun v : Vessel =>
        u16 v.ident ++ [o (dirNumber v.dir)] ++ u16 v.airDraft ++ [o v.cls.number] ++ u16 v.required
      let slot := fun k : Nat => match n.slots[k]? with
        | none => List.replicate 9 0#8
        | some x => o (x.state.number + 1) :: vessel x.vessel
      let listed := fun q : List Vessel => o q.length :: (q.map vessel).flatten
      let direction := fun d : Option Dir => o ((d.map dirNumber).getD 0xFF)
      queue 0#8 ([o (n.queue.length + (n.slots.filter fun x => x.state == .waiting).length), o n.group.number] ++
        (match n.target with
         | .none => [0#8, 0#8, 0#8]
         | .full => [1#8, 0#8, 0#8]
         | .passage cd => 2#8 :: u16 cd) ++
        u16 n.targetAngle ++ slot 0 ++ slot 1 ++ slot 2 ++ slot 3 ++
        [direction n.proceedShown, o n.fall.number, o n.blocked.number] ++
        (match n.gap with
         | none => 0#8 :: u24 0
         | some ms => 1#8 :: u24 ms) ++
        [direction n.lastCleared] ++
        u24 (match candidate n with
          | none => 0
          | some v => if n.gap = none then 0
            else if n.lastCleared = some v.dir then b.par.followMs else b.par.reverseMs) ++
        [o n.aspects.inbound.number, o n.aspects.outbound.number] ++ s24 (effectiveLower b) ++
        u16 (reportedClearance b).toNat) ∧
      queue 1#8 (listed (n.queue.take 6)) ∧ queue 2#8 (listed ((n.queue.drop 6).take 6)) ∧
      queue 3#8 (o n.table.length :: (n.table.map fun p => u16 p.1 ++ u16 p.2).flatten ++ [yes n.loaded] ++
        u16 b.par.angleMarginCd ++ u16 (b.pend.angleMarginCd.getD 0xFFFF) ++ u24 b.par.followMs ++
        u24 (b.pend.followMs.getD 0xFFFFFF) ++ u24 b.par.reverseMs ++ u24 (b.pend.reverseMs.getD 0xFFFFFF))))

/-! ## Field links and inputs -/

/-- FOUND_FRAME and CONFIRMING_FRAME: in HUNT a frame with the marker pattern and a correct check octet moves the link to
CONFIRM, any other changes nothing; in CONFIRM the first confirming frame counts, the second aligns the link with its counts
at 0, and any other frame returns it to HUNT. Only this link's record and its last good frame time change. The event
publishes its input changes, of which it has none, so where no leaf moves in a skew (SkewOk, which every step keeps)
publication leaves these blocks as they are. The expected number kept at entry to ALIGNED is the model's reading (assumption
log 31). -/
def Obligations.LinksFindAndConfirmFrames : Prop :=
  ∀ (l : Link) (fr : BitVec 80) (s : State),
    let r := s.blocks.links.get l
    let good := framePattern fr = 0b1011#4 ∧ crc8 ((frameOctets fr).take 9) = frameOctet fr 9
    let leads := fun (i : Instr) (c : Blocks) => exec i s = .next (eventEnd s (publish s.blocks c)) ∧
      (SkewOk s.blocks → exec i s = .next (eventEnd s c))
    let found := leads (.foundFrame l fr)
    let confirming := leads (.confirmingFrame l fr)
    (r.state = .hunt → good →
      found (setLink l { r with state := .confirm, expected := some (frameNumber fr + 1#4), confirmations := 0 }
        s.blocks)) ∧
    (¬ (r.state = .hunt ∧ good) → found s.blocks) ∧
    (r.state = .confirm → good → r.expected = some (frameNumber fr) → r.confirmations = 0 →
      confirming (setLink l { r with confirmations := 1, expected := some (frameNumber fr + 1#4) } s.blocks)) ∧
    (r.state = .confirm → good → r.expected = some (frameNumber fr) → 1 ≤ r.confirmations →
      confirming (setLastGood l (setLink l
        { r with state := .aligned, expected := some (frameNumber fr), confirmations := 2, errors := 0,
                 windowFrames := 0, windowErrors := 0, excess := false } s.blocks))) ∧
    (r.state = .confirm → ¬ (good ∧ r.expected = some (frameNumber fr)) →
      confirming (setLink l { r with state := .hunt, huntCause := .confirmFailed, expected := none,
                                     confirmations := 0 } s.blocks)) ∧
    (r.state ≠ .confirm → confirming s.blocks)

/-- ALIGNED_FRAME_BOUNDARY on an aligned link: the expected number advances before the frame is judged. A third error in a
row loses the link, and so does an excess of check errors where REHUNT_ON_EXCESS is 1: it hunts with the fields that R34
names at their reset values and its station UNDEFINED, and its records are HELD, or FAILSAFE at once where HOLD_MS is 0. Any
other frame is counted in the error window; an excess makes the link DEGRADED; the 1000th frame ends the window, whose
counts and excess start again, and returns a DEGRADED link below the limit to ALIGNED. The codeword is followed at frame 15.
A frame that is not handed on HOLD_MS or more after the last good one starves the link: its FRESH records are FAILSAFE. On a
link that is not aligned nothing happens, no leaf moving in a skew (SkewOk). No other link changes, and no input record but
those of this link. -/
def Obligations.AlignedLinksJudgeEveryFrame : Prop :=
  ∀ (l : Link) (fr : BitVec 80) (s : State),
    let r := s.blocks.links.get l
    let p := s.blocks.par
    let number := r.expected.getD 0#4 + 1#4
    let marker := ¬ (framePattern fr = 0b1011#4 ∧ frameNumber fr = number)
    let check := crc8 ((frameOctets fr).take 9) ≠ frameOctet fr 9
    let error := marker ∨ (p.lossCriterion ≠ 0 ∧ check)
    let checkErrors := if check then r.windowErrors + 1 else r.windowErrors
    let lost := error ∧ 2 ≤ r.errors
    let excess := ¬ lost ∧ r.excess = false ∧ p.errLimit ≤ checkErrors
    let hunts := lost ∨ (excess ∧ p.rehuntOnExcess = 1)
    let ends := 999 ≤ r.windowFrames
    let state := if excess then LinkState.degraded else r.state
    ((r.state = .hunt ∨ r.state = .confirm) →
      exec (.alignedFrameBoundary l fr) s = .next (eventEnd s (publish s.blocks s.blocks)) ∧
      (SkewOk s.blocks → exec (.alignedFrameBoundary l fr) s = .next (eventEnd s s.blocks))) ∧
    (s.cpt.buffer = [] → (r.state = .aligned ∨ r.state = .degraded) →
      ∃ t : State, exec (.alignedFrameBoundary l fr) s = .next t ∧
        (∀ k : Link, k ≠ l → t.blocks.links.get k = s.blocks.links.get k) ∧
        (∀ i : Fin 41, sourceOnLink s.blocks i l = false → t.blocks.iq.recs.get i = s.blocks.iq.recs.get i) ∧
        (hunts → t.blocks.links.get l =
          { r with state := .hunt, huntCause := if lost then .loss else .excessive, expected := none, errors := 0,
                   windowFrames := 0, windowErrors := 0, excess := false, prevStatus := none, status := .undefined }) ∧
        (¬ hunts → t.blocks.links.get l =
          { r with
            state := if ends ∧ state = .degraded ∧ checkErrors < p.errLimit then .aligned else state
            expected := some number
            errors := if error then r.errors + 1 else 0
            windowFrames := if ends then 0 else r.windowFrames + 1
            windowErrors := if ends then 0 else checkErrors
            excess := if ends then false else if excess then true else r.excess
            prevStatus := if number ≠ 15#4 then r.prevStatus
              else if marker ∨ check then none else some (frameCodeword fr)
            status := if number = 15#4 ∧ ¬ marker ∧ ¬ check ∧ r.prevStatus = some (frameCodeword fr) then
                (if frameCodeword fr = 0xA#4 then .healthy
                 else if frameCodeword fr = 0x5#4 then .localKey
                 else if frameCodeword fr = 0xC#4 then .stationFault else .undefined)
              else r.status }) ∧
        ∀ i : Fin 41, sourceOnLink s.blocks i l = true →
          let x := s.blocks.iq.recs.get i
          let fallen : InputRec := { x with qualified := failSafe (inputAt i), freshness := .failsafe, heldSince := none,
                                            candidate := none, agreement := 0 }
          let starved := ∃ u : Nat, s.blocks.iq.lastGood.get l = some u ∧ p.holdMs ≤ s.blocks.now - u
          (hunts → t.blocks.iq.recs.get i =
            if x.pendingFirst then { x with candidate := none, agreement := 0 }
            else if x.freshness ≠ .fresh then x
            else if p.holdMs = 0 then fallen
            else { x with freshness := .held, heldSince := some s.blocks.now, candidate := none, agreement := 0 }) ∧
          (¬ hunts → marker ∨ check →
            (starved → x.freshness = .fresh → t.blocks.iq.recs.get i = fallen) ∧
            (¬ starved ∨ x.freshness ≠ .fresh → t.blocks.iq.recs.get i = x)))

/-- A good frame at a boundary of an aligned link is one sample of every record whose source lies on the link: a sample
equal to the qualified value ends a candidate, and the n-th agreeing sample of another value qualifies it. -/
def Obligations.GoodFramesSampleTheInputs : Prop :=
  ∀ (l : Link) (fr : BitVec 80) (i : Fin 24) (p : Position) (n : Nat) (invert report : Bool) (s : State),
    s.cpt.buffer = [] →
      let r := s.blocks.links.get l
      let x := s.blocks.iq.recs.get (fieldRec i)
      let sample := xor ((frameOctet fr (p.val / 8 + 1)).getLsbD (p.val % 8)) invert
      let agreeing := if x.candidate = some sample then x.agreement + 1 else 1
      (r.state = .aligned ∨ r.state = .degraded) → framePattern fr = 0b1011#4 →
        r.expected = some (frameNumber fr - 1#4) → crc8 ((frameOctets fr).take 9) = frameOctet fr 9 →
        r.excess = true ∨ r.windowErrors < s.blocks.par.errLimit →
        s.blocks.cat.inputs.get i = some (.position p n invert report) → inputLink (fieldFn i) = some l →
          ∃ t : State, exec (.alignedFrameBoundary l fr) s = .next t ∧
            (x.pendingFirst = false → sample = x.qualified → t.blocks.iq.recs.get (fieldRec i) =
              { x with freshness := .fresh, heldSince := none, candidate := none, agreement := 0 }) ∧
            (x.pendingFirst = false → sample ≠ x.qualified → t.blocks.iq.recs.get (fieldRec i) =
              if n ≤ agreeing then
                { x with qualified := sample, freshness := .fresh, heldSince := none, candidate := none, agreement := 0 }
              else
                { x with freshness := .fresh, heldSince := none, candidate := some sample, agreement := agreeing }) ∧
            (x.pendingFirst = true → t.blocks.iq.recs.get (fieldRec i) =
              if n ≤ agreeing then
                { x with qualified := sample, freshness := .fresh, pendingFirst := false, candidate := none,
                         agreement := 0 }
              else { x with candidate := some sample, agreement := agreeing }) ∧
            t.blocks.iq.lastGood = s.blocks.iq.lastGood.set l (some s.blocks.now)

/-- FIELD_FRAME_START: the frame sent is ten octets, the marker 1011 with the next number, the seven channel octets and
C8 with the codeword, and their check octet. Outside OPERATE every position is 0 under HOLD; in OPERATE every position
carries the present value of its output function under OPERATE. -/
def Obligations.FramesCarryTheOutputs : Prop :=
  ∀ (l : Link) (s : State), s.cpt.buffer = [] →
    let b := s.blocks
    let r := b.links.get l
    let number := if r.txFrame = [] then 0#4 else r.txNumber + 1#4
    ∃ (t : State) (c : List Octet), exec (.fieldFrameStart l) s = .next t ∧ c.length = 8 ∧
      t.blocks.links = b.links.set l
        { r with
          txNumber := number
          txCodeword := if b.sil.mode = .operate then .operate else .hold
          txFrame := ((0b1011#4 ++ number : BitVec 8) :: c) ++ [crc8 ((0b1011#4 ++ number : BitVec 8) :: c)] } ∧
      (b.sil.mode ≠ .operate → c = [0#8, 0#8, 0#8, 0#8, 0#8, 0#8, 0#8, 0x90#8]) ∧
      (b.sil.mode = .operate →
        (c.getD 7 0#8).extractLsb' 4 4 = 0x6#4 ∧
          ∀ p : Position, (c.getD (p.val / 8) 0#8).getLsbD (p.val % 8) =
            match (b.cat.outputs.get l).get p with
            | some f => outputValue b f
            | none => false)

/-- SAMPLING_TIMER_EXPIRY: each machinery record takes one sample of its line, by its debounce count; the field records rest
and the clock moves by 1 ms. The millisecond moves every timer that runs: up the travel timers, without a limit (the model's
choice, assumption log 4), and the speed windows, the gap and the period timer, each to its limit, down all others to 0; a
timer at rest stays. The changes of the samples, like those of a field frame and of a hold, are published as one set.
HOLD_EXPIRY: every HELD record whose source is on the link falls to its fail-safe value and FAILSAFE, and no other record
changes. The clock of milliseconds, and an expiry as the command that says it has come, are the model's choices (assumption
logs 3 and 4). -/
def Obligations.SamplesAndHoldsMoveTheInputs : Prop :=
  (∀ (lines : BitVec 17) (s : State), s.cpt.buffer = [] →
    ∃ t : State, exec (.samplingTimerExpiry lines) s = .next t ∧ t.blocks.now = s.blocks.now + 1 ∧
      t.pending = s.pending ∧
      ∀ i : Fin 41,
        let x := s.blocks.iq.recs.get i
        let sample := lines.getLsbD (i.val - 24)
        let n := if i.val = 40 then 2 else s.blocks.par.directDebounce
        let agreeing := if x.candidate = some sample then x.agreement + 1 else 1
        (i.val < 24 → t.blocks.iq.recs.get i = x) ∧
        (24 ≤ i.val → x.pendingFirst = false → sample = x.qualified →
          t.blocks.iq.recs.get i = { x with candidate := none, agreement := 0 }) ∧
        (24 ≤ i.val → x.pendingFirst = false → sample ≠ x.qualified →
          t.blocks.iq.recs.get i =
            if n ≤ agreeing then { x with qualified := sample, candidate := none, agreement := 0 }
            else { x with candidate := some sample, agreement := agreeing }) ∧
        (24 ≤ i.val → x.pendingFirst = true →
          t.blocks.iq.recs.get i =
            if n ≤ agreeing then
              { x with qualified := sample, freshness := .fresh, pendingFirst := false, candidate := none,
                       agreement := 0 }
            else { x with candidate := some sample, agreement := agreeing })) ∧
  (∀ (l : Link) (frame : BitVec 80) (lines : BitVec 17) (s : State),
    exec (.samplingTimerExpiry lines) s = .next (eventEnd
      { s with cpt := { s.cpt with receiver := match s.cpt.receiver with
        | .hunting => .hunting
        | .inFrame os ms => .inFrame os (ms - 1) } }
      (publish s.blocks (takeLines lines (passMillisecond s.blocks)))) ∧
    exec (.alignedFrameBoundary l frame) s = .next (eventEnd s (publish s.blocks (boundaryFrame l frame s.blocks))) ∧
    exec (.holdExpiry l) s = .next (eventEnd s (publish s.blocks (endHolds l s.blocks)))) ∧
  (∀ b : Blocks,
    let c := passMillisecond b
    let down := fun t : Option Nat => t.map fun ms => ms - 1
    let windowAge := fun w : SpeedRec => if w.running then min (w.elapsed + 1) 100 else w.elapsed
    let travels := fun (t u : TravelTimer) => (∀ ms : Nat, t = .running ms → u = .running (ms + 1)) ∧
      ((∀ ms : Nat, t ≠ .running ms) → u = t)
    c.sil = { b.sil with adoptTimer := down b.sil.adoptTimer } ∧ c.presence = down b.presence ∧
    c.slu = { b.slu with remaining := b.slu.remaining - 1, lamps := c.slu.lamps } ∧
    (∀ g : Lamp, lampRec c g = { lampRec b g with remaining := (lampRec b g).remaining - 1 }) ∧
    c.rsq = { b.rsq with timer := c.rsq.timer, clearance := c.rsq.clearance } ∧
    (∀ ms : Nat, b.rsq.timer = .running ms → c.rsq.timer = .running (ms - 1)) ∧
    ((∀ ms : Nat, b.rsq.timer ≠ .running ms) → c.rsq.timer = b.rsq.timer) ∧
    (∀ ms : Nat, b.rsq.clearance = .running ms → c.rsq.clearance = .running (ms - 1)) ∧
    ((∀ ms : Nat, b.rsq.clearance ≠ .running ms) → c.rsq.clearance = b.rsq.clearance) ∧
    (∀ i : BarrierId, c.barriers.get i = { b.barriers.get i with timer := (c.barriers.get i).timer } ∧
      travels (b.barriers.get i).timer (c.barriers.get i).timer) ∧
    (∀ k : LockId, c.locks.get k = { b.locks.get k with timer := (c.locks.get k).timer } ∧
      travels (b.locks.get k).timer (c.locks.get k).timer) ∧
    (∀ l : LeafId, c.brakes.get l = { b.brakes.get l with timer := down (b.brakes.get l).timer } ∧
      c.leaves.get l = { b.leaves.get l with
        win := { (b.leaves.get l).win with elapsed := windowAge (b.leaves.get l).win }
        flt := { (b.leaves.get l).flt with stall := down (b.leaves.get l).flt.stall }
        mot := { (b.leaves.get l).mot with updateTimer := down (b.leaves.get l).mot.updateTimer } }) ∧
    c.nav = { b.nav with gap := b.nav.gap.map fun ms => min (ms + 1) 300000 } ∧
    c.wmn = { b.wmn with period := if b.wmn.measure = .timing then min (b.wmn.period + 1000) 2000000
                                   else b.wmn.period } ∧
    SameBut [.sil, .slu, .rsq, .barriers, .locks, .brakes, .leaves, .nav, .wmn, .presence, .now] b c) ∧
    ∀ (l : Link) (s : State), s.cpt.buffer = [] →
      ∃ t : State, exec (.holdExpiry l) s = .next t ∧ t.blocks.now = s.blocks.now ∧
        ∀ i : Fin 41,
          let x := s.blocks.iq.recs.get i
          (sourceOnLink s.blocks i l = true → x.freshness = .held →
            t.blocks.iq.recs.get i =
              { x with qualified := failSafe (inputAt i), freshness := .failsafe, heldSince := none, candidate := none,
                       agreement := 0 }) ∧
          (¬ (sourceOnLink s.blocks i l = true ∧ x.freshness = .held) → t.blocks.iq.recs.get i = x)

/-! ## Lamps -/

/-- FLASH_PHASE_BOUNDARY: the phases alternate, each lasting (30000 + e) / f ms with the remainder as the next e; a pending
cadence becomes active with e at 0; a generator at rest stays at rest. The generator starts afresh in phase A with e at 0
and the pending cadence when an approach aspect comes to be RED_FLASH or a channel aspect STANDBY, and stops, back in phase
A, when none is. After k phases of one cadence the phases sum to k × 30000 / f ms, rounded down. That the command itself
says that the phase remaining has reached 0 is the model's choice (assumption log 4). -/
def Obligations.FlashPhasesKeepTheCadence : Prop :=
  (∀ b : Blocks,
    let needed := (∃ a : Approach, b.slu.aspects.get a = .redFlash) ∨ ∃ d : Dir, b.nav.aspects.get d = .standby
    let f := b.pend.flashFpm.getD b.par.flashFpm
    (needed → b.slu.running = false → followDemand b = { b with
      slu := { b.slu with running := true, phaseB := false, residue := 30000 % f, remaining := 30000 / f }
      par := { b.par with flashFpm := f }
      pend := { b.pend with flashFpm := none } }) ∧
    (¬ needed → b.slu.running = true → followDemand b = { b with
      slu := { b.slu with running := false, phaseB := false, remaining := 0 } }) ∧
    ((needed ↔ b.slu.running = true) → followDemand b = b) ∧
    followAspects b = lampGroups.foldl takeCommand (followDemand b)) ∧
  (∀ s : State,
    let b := s.blocks
    (b.slu.running = false → exec .flashPhaseBoundary s = .next (eventEnd s b)) ∧
    (b.slu.running = true →
      let f := b.pend.flashFpm.getD b.par.flashFpm
      let e := if b.pend.flashFpm = none then b.slu.residue else 0
      exec .flashPhaseBoundary s = .next (eventEnd s { b with
        slu := { b.slu with phaseB := !b.slu.phaseB, residue := (30000 + e) % f, remaining := (30000 + e) / f }
        par := { b.par with flashFpm := f }
        pend := { b.pend with flashFpm := none } }))) ∧
    ∀ (f k : Nat), 0 < f →
      let residue := fun n : Nat => iter (fun e => (30000 + e) % f) n 0
      ((List.range k).map fun n => (30000 + residue n) / f).sum = k * 30000 / f

/-- A group takes its command: an unfitted one without more; at an on-edge of a fitted one the current present is a proof
and starts PRESENT, the current absent starts EDGE, and a settle period that is over at that moment is judged first; at an
off-edge an open edge window is a failed on-phase, and SETTLE starts. A change of the current of a fitted group in OPERATE
proves it in EDGE, moves it between PRESENT and ABSENT while it is on, and while it is off and settled finds it stuck on, or
remembers the absence of a STUCK_ON group. The lamp timers of a fitted group in OPERATE: the edge window's expiry is a
failed on-phase; the prove timer's expiry is a proof in PRESENT, which restarts it, and a failed on-phase in ABSENT; the
settle period's expiry finds a group stuck on whose current is present, and otherwise remembers the absence of a STUCK_ON
group. An expiry as the command that says it has come is the model's choice (assumption log 4). -/
def Obligations.LampTimersJudgeTheGroups : Prop :=
  (∀ (g : Lamp) (s0 b : Blocks),
    let r := lampRec b g
    let on := lampCommand b g
    let present := made b (lampInput g)
    let times := fun (x : LampRec) (m : ProveMode) => { x with timer := m, remaining := b.par.lampProveMs }
    let proof := fun x : LampRec => { x with
      state := if (x.state = .failed ∧ x.proofs < 2) ∨ (x.state = .stuckOn ∧ x.absentSeen = false) then x.state
        else .proven
      proofs := if x.state ≠ .failed then x.proofs else if x.proofs < 2 then x.proofs + 1 else 0
      absentSeen := if x.state = .stuckOn then false else x.absentSeen }
    let stuck := fun x : LampRec => { x with
      state := .stuckOn, absentSeen := false, proofs := if x.state = .failed then 0 else x.proofs }
    let absent := fun x : LampRec => { x with absentSeen := if x.state = .stuckOn then true else x.absentSeen }
    let dark : LampRec := { r with state := .failed, proofs := 0
                                   absentSeen := if r.state = .stuckOn then false else r.absentSeen }
    let settled := if r.timer = .settle ∧ r.remaining = 0 then (if present then stuck r else absent r) else r
    let changes := made s0 (lampInput g) ≠ present
    let acts := r.fitted = true ∧ b.sil.mode = .operate
    (on = r.command → takeCommand b g = b) ∧
    (on ≠ r.command → r.fitted = false → takeCommand b g = setLamp g { r with command := on } b) ∧
    (r.fitted = true → on = true → r.command = false → takeCommand b g = setLamp g
      { (if present then times (proof settled) .present else times settled .edge) with command := true } b) ∧
    (r.fitted = true → on = false → r.command = true → takeCommand b g = setLamp g
      { times (if r.timer = .edge then dark else r) .settle with command := false } b) ∧
    (¬ changes ∨ ¬ acts → publishLamp s0 b g = b) ∧
    (changes → acts → r.command = true → publishLamp s0 b g = setLamp g
      (if r.timer = .edge ∧ present = true then times (proof r) .present
       else if r.timer = .present ∧ present = false then times r .absent
       else if (r.timer = .absent ∨ r.timer = .idle) ∧ present = true then times r .present else r) b) ∧
    (changes → acts → r.command = false → publishLamp s0 b g = setLamp g
      (if r.timer = .settle then r else if present then stuck r else absent r) b)) ∧
  ∀ (g : Lamp) (s : State), s.blocks.sil.mode = .operate → (lampRec s.blocks g).fitted = true →
    let r := lampRec s.blocks g
    let becomes := fun (i : Instr) (x : LampRec) => exec i s = .next (eventEnd s (setLamp g x s.blocks))
    let idle : LampRec := { r with timer := .idle, remaining := 0 }
    let failed : LampRec := { idle with state := .failed, proofs := 0,
                                        absentSeen := if r.state = .stuckOn then false else r.absentSeen }
    (r.timer = .edge → becomes (.edgeWindowExpiry g) failed) ∧
    (r.timer ≠ .edge → becomes (.edgeWindowExpiry g) r) ∧
    (r.timer = .absent → becomes (.proveTimerExpiry g) failed) ∧
    (r.timer = .present → r.state = .untested ∨ r.state = .proven →
      becomes (.proveTimerExpiry g) { r with state := .proven, remaining := s.blocks.par.lampProveMs }) ∧
    (r.timer = .present → r.state = .failed →
      becomes (.proveTimerExpiry g) { r with
        state := if r.proofs < 2 then .failed else .proven
        proofs := if r.proofs < 2 then r.proofs + 1 else 0
        remaining := s.blocks.par.lampProveMs }) ∧
    (r.timer = .present → r.state = .stuckOn →
      becomes (.proveTimerExpiry g) { r with
        state := if r.absentSeen then .proven else .stuckOn
        absentSeen := false
        remaining := s.blocks.par.lampProveMs }) ∧
    (r.timer = .settle → made s.blocks (lampInput g) = true →
      becomes (.settleExpiry g) { idle with state := .stuckOn, absentSeen := false,
                                            proofs := if r.state = .failed then 0 else r.proofs }) ∧
    (r.timer = .settle → made s.blocks (lampInput g) = false →
      becomes (.settleExpiry g) { idle with absentSeen := if r.state = .stuckOn then true else r.absentSeen })

/-! ## Holding and stopping -/

/-- The E-stop (R188, R189, R100). SAMPLING_TIMER_EXPIRY in OPERATE with the latch clear, at whose samples ESTOP ceases to
be made, sets the latch and the HELD flag and leaves nothing moving; outside OPERATE no sample sets the latch. The input
changes of one event are published in one order, the E-stop after the leaves and the locks and before the barriers and the
lamps (the model's choice, assumption log 7). At the E-stop every leaf in motion is at rest at once with its command 0, both
brakes are asked to set, every travelling lock is INTERRUPTED, every travelling barrier STOPPED with its timer halted, and
an UNPROVEN barrier whose timer runs takes STOP with its timer halted. The ESTOP note lists the leaves, the locks and the
barriers so stopped, the UNPROVEN barrier among them (the model's choice, assumption log 10). -/
def Obligations.EstopStopsEverything : Prop :=
  (∀ (lines : BitVec 17) (s : State),
    let x := takeLines lines (passMillisecond s.blocks)
    ∃ c : Blocks, exec (.samplingTimerExpiry lines) s = .next (eventEnd (tickReceiver s) c) ∧ c = publish s.blocks x ∧
      (s.blocks.sil.mode = .operate → s.blocks.sil.latch = false → made s.blocks .estop = true → made x .estop = false →
        c.sil = { x.sil with latch := true, held := true, cause := .estop } ∧
        (∀ l : LeafId, leafInMotion c l = false ∧ (c.brakes.get l).state ≠ .released ∧
          (c.brakes.get l).state ≠ .releasing) ∧
        (∀ k : LockId, (c.locks.get k).state ≠ .driving ∧ (c.locks.get k).state ≠ .withdrawing) ∧
        (∀ i : BarrierId, (c.barriers.get i).state ≠ .lowering ∧ (c.barriers.get i).state ≠ .raising) ∧
        ∃ leaves locks barriers, Note.estop leaves locks barriers ∈ c.notes) ∧
      (s.blocks.sil.mode ≠ .operate ∨ s.blocks.sil.latch = true ∨ made s.blocks .estop = false ∨
        made x .estop = true → c.sil = x.sil)) ∧
  (∀ s0 b : Blocks,
    let locks := LockId.all.foldl (publishLock s0) (publishLeaves s0 b)
    (b.sil.mode = .operate → publish s0 b =
      lampGroups.foldl (publishLamp s0) (BarrierId.all.foldl (publishBarrier s0) (publishEstop s0 locks))) ∧
    (b.sil.mode ≠ .operate → publish s0 b = publishLeaves s0 b)) ∧
  (∀ b : Blocks,
    let c := estopEvent b
    c.sil = { b.sil with latch := true, held := true, cause := .estop } ∧
    (∀ l : LeafId,
      (leafInMotion b l = true →
        leafState c l = (if made b (.seated l) then .seated else .parked) ∧ (c.leaves.get l).mot.command = 0 ∧
        (c.leaves.get l).mot.updateTimer = none ∧ (c.leaves.get l).mot.next = none ∧
        (c.leaves.get l).flt.stall = none ∧
        (c.leaves.get l).mot.arrived = (b.leaves.get l).mot.arrivalReached ∧
        (c.leaves.get l).mot.lastStop = .stoppedByEstop ∧ (c.leaves.get l).pos = (b.leaves.get l).pos) ∧
      (leafInMotion b l = false → c.leaves.get l = b.leaves.get l) ∧
      ((b.brakes.get l).state = .released → c.brakes.get l =
        { b.brakes.get l with command := .set, state := .setting, timer := some b.par.brakeProveMs }) ∧
      ((b.brakes.get l).state = .set ∨ (b.brakes.get l).state = .setting → c.brakes.get l = b.brakes.get l)) ∧
    (∀ (k : LockId) (ms : Nat), (b.locks.get k).state = .driving ∨ (b.locks.get k).state = .withdrawing →
      (b.locks.get k).timer = .running ms →
        c.locks.get k = { b.locks.get k with state := .interrupted, timer := .halted ms }) ∧
    (∀ k : LockId, (b.locks.get k).state ≠ .driving → (b.locks.get k).state ≠ .withdrawing →
      c.locks.get k = b.locks.get k) ∧
    (∀ (i : BarrierId) (ms : Nat), (b.barriers.get i).state = .lowering ∨ (b.barriers.get i).state = .raising →
      (b.barriers.get i).timer = .running ms →
        c.barriers.get i = { b.barriers.get i with command := .stop, state := .stopped, timer := .halted ms }) ∧
    (∀ (i : BarrierId) (ms : Nat), (b.barriers.get i).state = .unproven → (b.barriers.get i).timer = .running ms →
      c.barriers.get i = { b.barriers.get i with command := .stop, timer := .halted ms }) ∧
    (∀ i : BarrierId, (b.barriers.get i).state = .up ∨ (b.barriers.get i).state = .down →
      c.barriers.get i = b.barriers.get i) ∧
    c.notes = b.notes ++ [.estop (LeafId.all.filter fun l => leafInMotion b l)
      (LockId.all.filter fun k => decide ((b.locks.get k).state = .driving ∨ (b.locks.get k).state = .withdrawing))
      (BarrierId.all.filter fun i => decide ((b.barriers.get i).state = .lowering ∨ (b.barriers.get i).state = .raising ∨
        ((b.barriers.get i).state = .unproven ∧ (b.barriers.get i).timer.isRunning = true)))] ∧
    SameBut [.sil, .leaves, .brakes, .locks, .barriers, .notes] b c) ∧
  ∀ s0 b : Blocks,
    (made s0 .estop = true → made b .estop = false → b.sil.latch = false → publishEstop s0 b = estopEvent b) ∧
      (made s0 .estop = false ∨ made b .estop = true ∨ b.sil.latch = true → publishEstop s0 b = b)

/-! ## The road -/

/-- AMBER_EXPIRY, RED_WARN_EXPIRY and CLEARANCE_TIMER_EXPIRY move the closure on when their timer runs in its phase and the
HELD flag is clear; under HELD the timer stands at RUN_OUT with the step pending; a failing complement holds RED_WARN; in
another phase, and in its phase while its timer does not run, nothing happens. An approach fails where it has neither its
signal complement nor an override (R84, R90). An expiry as the command that says it has come is the model's choice
(assumption log 4). By itself RSQ goes on when its phase is done: from ENTRY_LOWERING to CLEARANCE and from EXIT_LOWERING to
ROAD_CLOSED when the barriers are DOWN or overridden, from EXIT_RAISING to ENTRY_RAISING (a pending step under HELD) when
the exit barriers are UP and from ENTRY_RAISING to ROAD_OPEN when the entry barriers are, whatever the others do (the
model's choice, assumption log 43); the clearance timer follows the loops, an occupied loop in EXIT_LOWERING stops the exit
barriers and returns to CLEARANCE, a seat or lock loss takes ROAD_OPEN to ALERT and AMBER to RED_WARN, and the cause of
ALERT follows the inputs. While the wait of R90 stands in RED_WARN, a changed failing set changes it, and when both
approaches pass RSQ enters ENTRY_LOWERING or, under HELD, the step is pending. These are tested on the state (the model's
reading, assumption log 21), and an occupied loop before the barriers (assumption log 7). -/
def Obligations.RoadTimersMoveTheClosure : Prop :=
  (∀ b : Blocks,
    let c := roadAdvance b
    let occupied := ∃ a : Approach, made b (.loopA a) = true ∨ made b (.loopB a) = true
    let seatLost := ∃ l : LeafId, made b (.seated l) = false
    let lockLost := ∃ k : LockId, made b (.lockDriven k) = false
    let down := fun i : BarrierId => (b.barriers.get i).state = .down ∨ Override.barrier i ∈ b.sil.overrides
    let up := fun i : BarrierId => (b.barriers.get i).state = .up
    let entries := fun p : BarrierId → Prop => ∀ i : BarrierId, isEntry i = true → p i
    let exits := fun p : BarrierId → Prop => ∀ i : BarrierId, isEntry i = false → p i
    let turned := fun i : BarrierId => (b.barriers.get i).command = .lower ∧ (b.barriers.get i).state = .down →
      c.barriers.get i = { b.barriers.get i with command := .raise, state := .raising, timer := .running 0 }
    (b.rsq.phase = .entryLowering →
      (entries down → c.rsq.phase = .clearance ∧ c.rsq.bells = ⟨false, false⟩ ∧
        (occupied → c.rsq.clearance = .full) ∧ (¬ occupied → c.rsq.clearance = .running b.par.clearMs)) ∧
      (¬ entries down → c = b)) ∧
    (b.rsq.phase = .clearance →
      (∀ ms : Nat, occupied → b.rsq.clearance = .running ms → c = { b with rsq := { b.rsq with clearance := .full } }) ∧
      (occupied → b.rsq.clearance = .runOut →
        c = { b with rsq := { b.rsq with clearance := .full, step := .none } }) ∧
      (¬ occupied → b.rsq.clearance = .full →
        c = { b with rsq := { b.rsq with clearance := .running b.par.clearMs } }) ∧
      ((occupied ↔ b.rsq.clearance = .full) → c = b)) ∧
    (b.rsq.phase = .exitLowering →
      (occupied → c.rsq.phase = .clearance ∧ c.rsq.clearance = .full ∧ c.rsq.exitPaused = true ∧
        exits fun i => (∀ ms : Nat, (b.barriers.get i).state = .lowering → (b.barriers.get i).timer = .running ms →
            c.barriers.get i = { b.barriers.get i with command := .stop, state := .stopped, timer := .halted ms }) ∧
          ((b.barriers.get i).state = .down → c.barriers.get i = { b.barriers.get i with command := .stop })) ∧
      (¬ occupied → (∀ i : BarrierId, down i) → c.rsq.phase = .roadClosed ∧ c.rsq.bells = ⟨false, false⟩ ∧
        ∀ i : BarrierId, (b.barriers.get i).command = .lower → (b.barriers.get i).state ≠ .fault →
          c.barriers.get i = b.barriers.get i) ∧
      (¬ occupied → ¬ (∀ i : BarrierId, down i) → c = b)) ∧
    (b.rsq.phase = .exitRaising →
      (exits up → b.sil.held = false → c.rsq.phase = .entryRaising ∧ entries turned) ∧
      (exits up → b.sil.held = true → c = { b with rsq := { b.rsq with step := .enterEntryRaising } }) ∧
      (¬ exits up → c = b)) ∧
    (b.rsq.phase = .entryRaising →
      (entries up → c.rsq.phase = (if lossStands b then .alert else .roadOpen) ∧ c.sil = { b.sil with overrides := [] } ∧
        c.slu = { b.slu with aspects := if lossStands b then ⟨.redFlash, .redFlash⟩ else ⟨.dark, .dark⟩ }) ∧
      (¬ entries up → c = b)) ∧
    (lossStands b = true ↔ seatLost ∨ lockLost) ∧
    (b.rsq.phase = .roadOpen →
      (lossStands b = true → c.rsq.phase = .alert ∧ c.rsq.bells = ⟨true, true⟩ ∧
        c.slu = { b.slu with aspects := ⟨.redFlash, .redFlash⟩ } ∧ c.notes = b.notes ++ [.road] ∧
        (seatLost → lockLost → c.rsq.cause = .seatAndLock) ∧ (seatLost → ¬ lockLost → c.rsq.cause = .seat) ∧
        (¬ seatLost → c.rsq.cause = .lock) ∧
        SameBut [.rsq, .slu, .notes] b c) ∧
      (lossStands b = false → c = b)) ∧
    (b.rsq.phase = .amber →
      (lossStands b = true → c.rsq.phase = .redWarn ∧ c.rsq.timer = .running b.par.preEntryMs) ∧
      (lossStands b = false → c = b)) ∧
    (let holds := fun a : Approach =>
       ((lampRec b (.redA a)).fitted = true ∧ (lampRec b (.redA a)).state ≠ .failed) ∨
         ((lampRec b (.redB a)).fitted = true ∧ (lampRec b (.redB a)).state ≠ .failed)
     let passes := fun a : Approach => holds a ∨ Override.complement a ∈ b.sil.overrides
     (complementFailing b = .none ↔ passes .north ∧ passes .south) ∧
     (complementFailing b = .north ↔ ¬ passes .north ∧ passes .south) ∧
     (complementFailing b = .south ↔ passes .north ∧ ¬ passes .south) ∧
     (complementFailing b = .both ↔ ¬ passes .north ∧ ¬ passes .south)) ∧
    (b.rsq.phase = .redWarn →
      let stands := b.rsq.timer = .runOut ∧ b.rsq.wait ≠ .none
      (¬ stands ∨ b.rsq.wait = complementFailing b → c = b) ∧
      (stands → complementFailing b = .none → b.sil.held = false →
        c.rsq = { b.rsq with phase := .entryLowering, timer := .idle, clearance := .idle, wait := .none, cause := .none,
                             step := .none, bells := ⟨true, true⟩ } ∧
        c.slu = { b.slu with aspects := ⟨.redFlash, .redFlash⟩ } ∧
        entries (fun i => (b.barriers.get i).state = .up → (b.barriers.get i).command = .raise →
          c.barriers.get i = { b.barriers.get i with command := .lower, state := .lowering, timer := .running 0 }) ∧
        SameBut [.rsq, .slu, .barriers] b c) ∧
      (stands → complementFailing b = .none → b.sil.held = true →
        c = { b with rsq := { b.rsq with wait := .none, step := .enterEntryLowering } }) ∧
      (stands → complementFailing b ≠ .none → c = { b with rsq := { b.rsq with wait := complementFailing b } })) ∧
    (b.rsq.phase = .roadClosed → c = b) ∧
    (b.rsq.phase = .alert →
      (b.rsq.cause = .recovery → c = b) ∧
      (b.rsq.cause ≠ .recovery → c = { b with rsq := { b.rsq with cause := c.rsq.cause } } ∧
        (seatLost → lockLost → c.rsq.cause = .seatAndLock) ∧ (seatLost → ¬ lockLost → c.rsq.cause = .seat) ∧
        (¬ seatLost → lockLost → c.rsq.cause = .lock) ∧ (¬ seatLost → ¬ lockLost → c.rsq.cause = .cleared)))) ∧
  ∀ s : State,
    let b := s.blocks
    let leads := fun (i : Instr) (facts : Blocks → Prop) =>
      ∃ c : Blocks, exec i s = .next (eventEnd s c) ∧ facts c ∧ SameBut [.rsq, .slu, .barriers] b c
    (∀ ms : Nat, b.rsq.phase = .amber → b.rsq.timer = .running ms →
      (b.sil.held = false → leads .amberExpiry fun c => c.rsq.phase = .redWarn ∧
        c.rsq.timer = .running b.par.preEntryMs ∧ c.rsq.bells = ⟨true, true⟩ ∧ c.rsq.step = .none ∧
        c.slu = { b.slu with aspects := ⟨.redFlash, .redFlash⟩ }) ∧
      (b.sil.held = true → exec .amberExpiry s =
        .next (eventEnd s { b with rsq := { b.rsq with timer := .runOut, step := .enterRedWarn } }))) ∧
    (∀ ms : Nat, b.rsq.phase = .redWarn → b.rsq.timer = .running ms →
      (complementFailing b = .none → b.sil.held = false → leads .redWarnExpiry fun c => c.rsq.phase = .entryLowering ∧
        c.rsq.timer = .idle ∧ c.rsq.wait = .none ∧ c.rsq.bells = ⟨true, true⟩ ∧
        ∀ i : BarrierId, isEntry i = true → (b.barriers.get i).state = .up → (b.barriers.get i).command = .raise →
          c.barriers.get i = { b.barriers.get i with command := .lower, state := .lowering, timer := .running 0 }) ∧
      (complementFailing b = .none → b.sil.held = true → exec .redWarnExpiry s =
        .next (eventEnd s { b with rsq := { b.rsq with timer := .runOut, wait := .none, step := .enterEntryLowering } })) ∧
      (complementFailing b ≠ .none → exec .redWarnExpiry s =
        .next (eventEnd s { b with rsq := { b.rsq with timer := .runOut, wait := complementFailing b } }))) ∧
    (∀ ms : Nat, b.rsq.phase = .clearance → b.rsq.clearance = .running ms →
      (b.sil.held = false → leads .clearanceTimerExpiry fun c => c.rsq.phase = .exitLowering ∧
        c.rsq.clearance = .idle ∧ c.rsq.bells = ⟨false, false⟩ ∧
        ∀ i : BarrierId, isEntry i = false → (b.barriers.get i).state = .up → (b.barriers.get i).command = .raise →
          c.barriers.get i = { b.barriers.get i with command := .lower, state := .lowering, timer := .running 0 }) ∧
      (b.sil.held = true → exec .clearanceTimerExpiry s =
        .next (eventEnd s { b with rsq := { b.rsq with clearance := .runOut, step := .enterExitLowering } }))) ∧
    (b.rsq.phase ≠ .amber ∨ (∀ ms : Nat, b.rsq.timer ≠ .running ms) → exec .amberExpiry s = .next (eventEnd s b)) ∧
    (b.rsq.phase ≠ .redWarn ∨ (∀ ms : Nat, b.rsq.timer ≠ .running ms) → exec .redWarnExpiry s = .next (eventEnd s b)) ∧
    (b.rsq.phase ≠ .clearance ∨ (∀ ms : Nat, b.rsq.clearance ≠ .running ms) →
      exec .clearanceTimerExpiry s = .next (eventEnd s b))

/-- What a barrier does with a command (R102) and a lock with its (R151), by its state; only that record changes. -/
def Obligations.BarriersAndLocksTakeCommands : Prop :=
  (∀ (i : BarrierId) (b : Blocks),
    let r := b.barriers.get i
    let takes := fun (c : BarrierCmd) (x : BarrierRec) => barrierCommand i c b = setBarrier i x b
    let down : BarrierRec := { r with command := .lower, state := .lowering, timer := .running 0 }
    let up : BarrierRec := { r with command := .raise, state := .raising, timer := .running 0 }
    let consistent := barrierFresh b i = true ∧ barrierShows b i ≠ .conflict
    (r.state = .up → takes .raise { r with command := .raise, timer := .idle } ∧ takes .lower down ∧
      takes .stop { r with command := .stop }) ∧
    (r.state = .down → takes .lower { r with command := .lower, timer := .idle } ∧ takes .raise up ∧
      takes .stop { r with command := .stop }) ∧
    (r.state = .lowering → takes .lower r ∧ takes .raise up) ∧
    (r.state = .raising → takes .raise r ∧ takes .lower down) ∧
    (r.state = .lowering ∨ r.state = .raising → ∀ ms : Nat, r.timer = .running ms →
      takes .stop { r with command := .stop, state := .stopped, timer := .halted ms }) ∧
    (r.state = .stopped →
      takes .lower (if barrierFresh b i = true ∧ barrierShows b i = .second then
          { r with command := .lower, state := .down, timer := .idle }
        else down) ∧
      takes .raise (if barrierFresh b i = true ∧ barrierShows b i = .first then
          { r with command := .raise, state := .up, timer := .idle }
        else up) ∧ takes .stop r) ∧
    (r.state = .unproven → takes .lower { r with command := .lower, timer := .running 0 } ∧
      takes .raise { r with command := .raise, timer := .running 0 } ∧
      (∀ ms : Nat, r.timer = .running ms → takes .stop { r with command := .stop, timer := .halted ms }) ∧
      ((∀ ms : Nat, r.timer ≠ .running ms) → takes .stop { r with command := .stop })) ∧
    (r.state = .fault → takes .stop { r with command := .stop } ∧
      (¬ consistent → takes .lower { r with command := .lower } ∧ takes .raise { r with command := .raise }) ∧
      (consistent →
        takes .lower (if barrierShows b i = .second then
            { command := .lower, state := .down, timer := .idle, fault := .none }
          else { down with fault := .none }) ∧
        takes .raise (if barrierShows b i = .first then
            { command := .raise, state := .up, timer := .idle, fault := .none }
          else { up with fault := .none })))) ∧
  ∀ (k : LockId) (b : Blocks),
    let r := b.locks.get k
    let takes := fun (c : LockCmd) (x : LockRec) => lockCommand k c b = setLock k x b
    let interrupts := fun x : LockRec => lockInterrupt k b = setLock k x b
    let out : LockRec := { r with command := .withdraw, state := .withdrawing, timer := .running 0 }
    let home : LockRec := { r with command := .drive, state := .driving, timer := .running 0 }
    (r.state = .driven → takes .drive { r with command := .drive } ∧ takes .withdraw out ∧ interrupts r) ∧
    (r.state = .withdrawn → takes .withdraw { r with command := .withdraw } ∧ takes .drive home ∧ interrupts r) ∧
    (r.state = .driving → takes .drive r ∧ takes .withdraw out) ∧
    (r.state = .withdrawing → takes .withdraw r ∧ takes .drive home) ∧
    (r.state = .driving ∨ r.state = .withdrawing → ∀ ms : Nat, r.timer = .running ms →
      interrupts { r with state := .interrupted, timer := .halted ms }) ∧
    (r.state = .interrupted → interrupts r ∧
      takes .drive (if lockShows b k = .first then { r with command := .drive, state := .driven, timer := .idle }
        else home) ∧
      takes .withdraw (if lockShows b k = .second then
        { r with command := .withdraw, state := .withdrawn, timer := .idle } else out)) ∧
    (r.state = .fault → takes .drive { r with command := .drive } ∧ takes .withdraw { r with command := .withdraw } ∧
      interrupts r)

/-- The travel and brake timeouts, and the switches. At the expiry of its timer a travelling barrier or lock whose target is
proven completes its travel, and another one, or an UNPROVEN barrier, goes to FAULT with TRAVEL_TIMEOUT; a RELEASING or
SETTING brake that does not prove itself is a finding on its leaf in OPERATE, and the brake stays in FAULT while its
feedback shows it released; a leaf in FAULT adds the finding to its kinds, and outside OPERATE the brake alone goes to
FAULT. Otherwise nothing happens. At a published change of its switches a barrier or lock is judged: a conflict is
SWITCH_CONFLICT, a lost position LOST_POSITION, the target proven ends the travel; a barrier whose switches are not both
FRESH is UNPROVEN, and is judged afresh by its timer and command when they are. An expiry as the command that says it has
come, a travel whose target is already proven as it starts, the mismatch of a brake that leaves FAULT for SET, and a barrier
adopted with a switch that was never FRESH, are the model's readings (assumption logs 4, 40, 37 and 41). -/
def Obligations.TimeoutsAreFaults : Prop :=
  (∀ (i : BarrierId) (s0 b : Blocks),
    let r := b.barriers.get i
    let shows := barrierShows b i
    let moves := made s0 (upSwitch i) ≠ made b (upSwitch i) ∨ made s0 (downSwitch i) ≠ made b (downSwitch i) ∨
      (inputRec s0 (upSwitch i)).freshness ≠ (inputRec b (upSwitch i)).freshness ∨
      (inputRec s0 (downSwitch i)).freshness ≠ (inputRec b (downSwitch i)).freshness
    let becomes := fun x : BarrierRec => publishBarrier s0 b i = setBarrier i x b
    let faulted := fun f : TravelFault => becomes { r with state := .fault, fault := f, timer := .idle }
    let at_ := fun x : BarrierState => becomes { r with state := x, timer := .idle }
    (¬ moves ∨ r.state = .fault → publishBarrier s0 b i = b) ∧
    (moves → r.state ≠ .fault → barrierFresh b i = false → becomes { r with state := .unproven }) ∧
    (moves → r.state ≠ .fault → barrierFresh b i = true → shows = .conflict → faulted .switchConflict) ∧
    (moves → barrierFresh b i = true → shows ≠ .conflict →
      (r.state = .up → (shows = .first → becomes r) ∧ (shows ≠ .first → faulted .lostPosition)) ∧
      (r.state = .down → (shows = .second → becomes r) ∧ (shows ≠ .second → faulted .lostPosition)) ∧
      (r.state = .lowering → (shows = .second → at_ .down) ∧ (shows ≠ .second → becomes r)) ∧
      (r.state = .raising → (shows = .first → at_ .up) ∧ (shows ≠ .first → becomes r)) ∧
      (r.state = .stopped → (shows = .first → at_ .up) ∧ (shows = .second → at_ .down) ∧
        (shows = .between → becomes r)) ∧
      (r.state = .unproven →
        (∀ ms : Nat, r.timer = .running ms →
          (r.command = .lower → (shows = .second → at_ .down) ∧
            (shows ≠ .second → becomes { r with state := .lowering })) ∧
          (r.command = .raise → (shows = .first → at_ .up) ∧ (shows ≠ .first → becomes { r with state := .raising }))) ∧
        (∀ ms : Nat, r.timer = .halted ms → (shows = .first → at_ .up) ∧ (shows = .second → at_ .down) ∧
          (shows = .between → becomes { r with state := .stopped })) ∧
        (r.timer = .idle →
          (r.command = .lower → (shows = .second → at_ .down) ∧ (shows ≠ .second → faulted .lostPosition)) ∧
          (r.command = .raise → (shows = .first → at_ .up) ∧ (shows ≠ .first → faulted .lostPosition)) ∧
          (r.command = .stop → (shows = .first → at_ .up) ∧ (shows = .second → at_ .down) ∧
            (shows = .between → faulted .lostPosition)))))) ∧
  (∀ (k : LockId) (s0 b : Blocks),
    let r := b.locks.get k
    let shows := lockShows b k
    let moves := made s0 (.lockDriven k) ≠ made b (.lockDriven k) ∨ made s0 (.lockWithdrawn k) ≠ made b (.lockWithdrawn k)
    let becomes := fun x : LockRec => publishLock s0 b k = setLock k x b
    let faulted := fun f : TravelFault => becomes { r with state := .fault, fault := f, timer := .idle }
    let at_ := fun x : LockState => becomes { r with state := x, timer := .idle }
    (r.state = .fault → publishLock s0 b k = b) ∧
    (moves → r.state ≠ .fault → shows = .conflict → faulted .switchConflict) ∧
    (moves → shows ≠ .conflict →
      (r.state = .driven → (shows = .first → becomes r) ∧ (shows ≠ .first → faulted .lostPosition)) ∧
      (r.state = .withdrawn → (shows = .second → becomes r) ∧ (shows ≠ .second → faulted .lostPosition)) ∧
      (r.state = .driving → (shows = .first → at_ .driven) ∧ (shows ≠ .first → becomes r)) ∧
      (r.state = .withdrawing → (shows = .second → at_ .withdrawn) ∧ (shows ≠ .second → becomes r)) ∧
      (r.state = .interrupted →
        (r.command = .drive → (shows = .first → at_ .driven) ∧ (shows ≠ .first → becomes r)) ∧
        (r.command = .withdraw → (shows = .second → at_ .withdrawn) ∧ (shows ≠ .second → becomes r))))) ∧
  ∀ s : State,
    let b := s.blocks
    (∀ (i : BarrierId) (ms : Nat), (b.barriers.get i).timer = .running ms →
      let r := b.barriers.get i
      let proves := fun x : Proven => barrierFresh b i = true ∧ barrierShows b i = x
      let expires := fun x : BarrierRec => exec (.barrierTravelTimeout i) s = .next (eventEnd s (setBarrier i x b))
      (r.state = .lowering → proves .second → expires { r with state := .down, timer := .idle }) ∧
      (r.state = .raising → proves .first → expires { r with state := .up, timer := .idle }) ∧
      ((r.state = .lowering ∧ ¬ proves .second) ∨ (r.state = .raising ∧ ¬ proves .first) ∨ r.state = .unproven →
        expires { r with state := .fault, fault := .travelTimeout, timer := .idle })) ∧
    (∀ i : BarrierId, (∀ ms : Nat, (b.barriers.get i).timer ≠ .running ms) →
      exec (.barrierTravelTimeout i) s = .next (eventEnd s b)) ∧
    (∀ k : LockId,
      let r := b.locks.get k
      let expires := fun x : LockRec => exec (.lockTravelTimeout k) s = .next (eventEnd s (setLock k x b))
      (r.state = .driving → lockShows b k = .first → expires { r with state := .driven, timer := .idle }) ∧
      (r.state = .withdrawing → lockShows b k = .second → expires { r with state := .withdrawn, timer := .idle }) ∧
      ((r.state = .driving ∧ lockShows b k ≠ .first) ∨ (r.state = .withdrawing ∧ lockShows b k ≠ .second) →
        expires { r with state := .fault, fault := .travelTimeout, timer := .idle })) ∧
    (∀ k : LockId, (b.locks.get k).state ≠ .driving → (b.locks.get k).state ≠ .withdrawing →
      exec (.lockTravelTimeout k) s = .next (eventEnd s b)) ∧
    ∀ (l : LeafId) (i : Instr) (q : BrakeState) (k : LeafFault) (w : BrakeFault),
      (i = .brakeReleaseTimeout l ∧ q = .releasing ∧ k = .brakeNotReleased ∧ w = .brakeNotReleased) ∨
        (i = .brakeSetTimeout l ∧ q = .setting ∧ k = .brakeNotSet ∧ w = .brakeNotSet) →
      let r := b.brakes.get l
      let late : BrakeRec := { r with state := .fault, timer := none, fault := w, lastFault := w }
      (r.state ≠ q ∨ r.timer = none → exec i s = .next (eventEnd s b)) ∧
      (r.state = q → r.timer ≠ none →
        (b.sil.mode ≠ .operate → exec i s = .next (eventEnd s (setBrake l late b))) ∧
        (b.sil.mode = .operate →
          ∃ c : Blocks, exec i s = .next (eventEnd s c) ∧ FaultFound k l b c ∧
            (leafState b l = .fault → c.brakes.get l = late) ∧
            (leafState b l ≠ .fault → c.brakes.get l =
              if made b (.brakeReleased l) then { late with command := .set }
              else { late with command := .set, state := .set, fault := .none, mismatch := false }) ∧
            c.brakes.get (otherLeaf l) = b.brakes.get (otherLeaf l) ∧ SameBut [.leaves, .brakes] b c))

/-! ## Leaves -/

/-- ENCODER_COUNT moves the phase pair one step, adds the count to the position unless SEATED is made and to the running
speed window in every case; beyond a bound the position is held there and the leaf UNCERTAIN. A count against the movement
of a leaf in motion raises its wrong-direction count by 1 and no other changes it. A RUNNING stall timer restarts at
STALL_MS, but that a finding leaves it IDLE (R117, R119). In OPERATE the counted leaves are judged: a wrong-direction count
above WRONG_DIR_COUNTS is the finding WRONG_DIRECTION (R120), a LOWER of a CERTAIN leaf that reaches −SEAT_SEARCH off its
seat SEAT_NOT_FOUND (R123), and a difference of the angles of SKEW_LIMIT_CD or more while a leaf moves and both are CERTAIN
SKEW on each leaf in motion (R142); there is no other finding, and without one no leaf changes its state and no brake. Which
of two findings is the first, and that SKEW comes before the arrival a count makes too, is the model's choice (assumption
log 7). ILLEGAL_TRANSITION inverts both phases, counts an encoder error up to 255 and makes a leaf off its seat UNCERTAIN. A
published SEATED that comes to be made is the seat reference: the position is 0 and CERTAIN, a PARKED leaf is SEATED, a
raise is BY_TARGET again, and a lowering arrives, its command 0 and its brake asked to set. A SEATED leaf that loses its
SEATED input is PARKED with a speed window started, and OPEN_LIMIT coming to be made records the position. That the seat
reference and the open limit act in every mode, and that a newly SEATED leaf keeps the flag of its last window, are the
model's readings (assumption logs 17 and 30). -/
def Obligations.CountsMoveThePosition : Prop :=
  (∀ (l : LeafId) (s0 b : Blocks),
    let r := b.leaves.get l
    let c := publishPosition s0 b l
    let moves := fun f : InputFn => made s0 f ≠ made b f
    let inMotion := leafInMotion b l = true
    (¬ moves (.seated l) → ¬ moves (.openLimit l) → c = b) ∧
    (moves (.seated l) → made b (.seated l) = true → ¬ moves (.openLimit l) →
      (c.leaves.get l).pos = { r.pos with
        seatCorrection := some r.pos.position, position := 0, certain := true, angleKnown := true } ∧
      c.notes = (if r.pos.position = 0 then b.notes else b.notes ++ [.leaf l]) ∧
      (b.sil.mode ≠ .operate ∨ leafState b l = .seated ∨ leafState b l = .fault →
        (c.leaves.get l).mot = r.mot ∧ (c.leaves.get l).win = r.win ∧ c.brakes = b.brakes) ∧
      (b.sil.mode = .operate → leafState b l = .parked → (c.leaves.get l).mot = { r.mot with
          state := .seated, arrived := false } ∧
        (c.leaves.get l).win = { r.win with running := false, elapsed := 0, net := 0, gross := 0, speed := 0,
                                            dir := .none }) ∧
      (b.sil.mode = .operate → inMotion → r.mot.kind = .raise →
        (c.leaves.get l).mot = { r.mot with rule := .byTarget } ∧ c.brakes = b.brakes) ∧
      (b.sil.mode = .operate → inMotion → r.mot.kind = .lower ∨ r.mot.kind = .recoveryLower →
        leafState c l = .stopping ∧ (c.leaves.get l).mot.command = 0 ∧ (c.leaves.get l).mot.arrivalReached = true ∧
        (c.leaves.get l).mot.brakeSetAsked = true ∧
        ((b.brakes.get l).state = .released → c.brakes.get l =
          { b.brakes.get l with command := .set, state := .setting, timer := some b.par.brakeProveMs })) ∧
      c.leaves.get (otherLeaf l) = b.leaves.get (otherLeaf l) ∧ SameBut [.leaves, .brakes, .notes] b c) ∧
    (moves (.seated l) → made b (.seated l) = false → ¬ moves (.openLimit l) →
      (b.sil.mode = .operate → leafState b l = .seated → c = setLeaf l { r with
        mot := { r.mot with state := .parked, arrived := false }
        win := { r.win with running := true, elapsed := 0, net := 0, gross := 0 } } b) ∧
      (b.sil.mode ≠ .operate ∨ leafState b l ≠ .seated → c = b)) ∧
    (¬ moves (.seated l) → moves (.openLimit l) → made b (.openLimit l) = true →
      c = { (setLeaf l { r with pos := { r.pos with openLimitPos := some r.pos.position } } b) with
        notes := b.notes ++ [.leaf l] }) ∧
    (¬ moves (.seated l) → made b (.openLimit l) = false → c = b)) ∧
  ∀ (l : LeafId) (s : State),
    let b := s.blocks
    let r := b.leaves.get l
    (∀ forward : Bool,
      let step : Int := if forward then 1 else -1
      ∃ c : Blocks, exec (.encoderCount l forward) s = .next (eventEnd s c) ∧
        (c.leaves.get l).pos.phaseA = (if forward then !r.pos.phaseB else r.pos.phaseB) ∧
        (c.leaves.get l).pos.phaseB = (if forward then r.pos.phaseA else !r.pos.phaseA) ∧
        (c.leaves.get l).pos.errorCount = r.pos.errorCount ∧
        (made b (.seated l) = true → (c.leaves.get l).pos.position = r.pos.position ∧
          (c.leaves.get l).pos.certain = r.pos.certain) ∧
        (made b (.seated l) = false → -131071 ≤ r.pos.position + step → r.pos.position + step ≤ 131071 →
          (c.leaves.get l).pos.position = r.pos.position + step ∧ (c.leaves.get l).pos.certain = r.pos.certain) ∧
        (made b (.seated l) = false → r.pos.position + step < -131071 →
          (c.leaves.get l).pos.position = -131071 ∧ (c.leaves.get l).pos.certain = false) ∧
        (made b (.seated l) = false → 131071 < r.pos.position + step →
          (c.leaves.get l).pos.position = 131071 ∧ (c.leaves.get l).pos.certain = false) ∧
        (c.leaves.get l).win = (if r.win.running then { r.win with net := r.win.net + step, gross := r.win.gross + 1 }
          else r.win) ∧
        (leafInMotion b l = false → (c.leaves.get l).flt =
          { r.flt with stall := r.flt.stall.map fun _ => b.par.stallMs }) ∧
        (let x := c.leaves.get l
         let inMotion := fun m : LeafId => leafInMotion b m = true
         let opposes := (r.mot.kind = .raise ∧ forward = false) ∨
           ((r.mot.kind = .lower ∨ r.mot.kind = .recoveryLower) ∧ forward = true)
         let wrong := inMotion l ∧ b.par.wrongDirCounts < x.flt.wrongDir
         let missed := r.mot.kind = .lower ∧ r.mot.rule = .seatSearch ∧ (r.mot.state = .moving ∨ r.mot.state = .stopping) ∧
           x.pos.certain = true ∧ made b (.seated l) = false ∧ x.pos.position ≤ -(b.par.seatSearch : Int)
         let skewed := (∃ m : LeafId, leafState b m = .moving ∧
             ((b.leaves.get m).mot.kind = .raise ∨ (b.leaves.get m).mot.kind = .lower)) ∧
           (∀ m : LeafId, (c.leaves.get m).pos.certain = true) ∧
             b.par.skewLimitCd ≤ (leafAngle c .north - leafAngle c .south).natAbs
         (inMotion l → (b.sil.mode ≠ .operate ∨ (¬ wrong ∧ ¬ missed ∧ ¬ skewed) →
             x.flt.stall = r.flt.stall.map fun _ => b.par.stallMs) ∧
           (b.sil.mode = .operate → wrong ∨ missed ∨ skewed → x.flt.stall = none)) ∧
         (inMotion l → opposes → x.flt.wrongDir = r.flt.wrongDir + 1) ∧
         (¬ inMotion l ∨ ¬ opposes → x.flt.wrongDir = r.flt.wrongDir) ∧
         (b.sil.mode = .operate →
           (wrong → leafState c l = .fault ∧ .wrongDirection ∈ x.flt.kinds) ∧
           (missed → leafState c l = .fault ∧ .seatNotFound ∈ x.flt.kinds) ∧
           (skewed → ∀ m : LeafId, inMotion m → leafState c m = .fault ∧ .skew ∈ (c.leaves.get m).flt.kinds) ∧
           (wrong → ¬ missed → ¬ skewed → FaultFound .wrongDirection l b c) ∧
           (missed → ¬ wrong → ¬ skewed → FaultFound .seatNotFound l b c)) ∧
         (∀ k ∈ x.flt.kinds, k ∈ r.flt.kinds ∨ (wrong ∧ k = .wrongDirection) ∨ (missed ∧ k = .seatNotFound) ∨
           (skewed ∧ k = .skew)) ∧
         (b.sil.mode ≠ .operate ∨ (¬ wrong ∧ ¬ missed ∧ ¬ skewed) → c.brakes = b.brakes ∧
           x.flt.first = r.flt.first ∧ x.flt.kinds = r.flt.kinds ∧ x.mot = { r.mot with rule := x.mot.rule } ∧
           c.leaves.get (otherLeaf l) = b.leaves.get (otherLeaf l))) ∧
        (c.leaves.get (otherLeaf l)).pos = (b.leaves.get (otherLeaf l)).pos ∧
        (c.leaves.get (otherLeaf l)).win = (b.leaves.get (otherLeaf l)).win ∧ SameBut [.leaves, .brakes] b c) ∧
    ∃ c : Blocks, exec (.illegalTransition l) s = .next (eventEnd s c) ∧
      (c.leaves.get l).pos = { r.pos with
        phaseA := !r.pos.phaseA
        phaseB := !r.pos.phaseB
        errorCount := min (r.pos.errorCount + 1) 255
        certain := if made b (.seated l) then r.pos.certain else false } ∧
      (c.leaves.get l).win = r.win ∧ (c.leaves.get l).flt = r.flt ∧ leafState c l = leafState b l ∧
      c.leaves.get (otherLeaf l) = b.leaves.get (otherLeaf l) ∧ c.notes = b.notes ++ [.leaf l] ∧
      SameBut [.leaves, .notes] b c

/-- SPEED_WINDOW_END: the speed is |net| × 10 × 1000 / RATED_CPS in ‰, up to 2000, the direction that of the net
count, and the leaf was stationary when no count came; a speed above OVERSPEED_PM is the finding OVERSPEED; a
stationary window of a STOPPING leaf at command 0 asks its brake to set. STALL_TIMER_EXPIRY is the finding STALL
while the timer runs. An expiry as the command that says it has come is the model's choice (assumption log 4). A STOPPING
leaf whose brake is SET comes to rest, SEATED by its input or PARKED with arrived as its arrival was reached. A published
change of the brake feedback proves a release or a setting, shows a mismatch on a SET record, or drops a RELEASED brake; a
RELEASED brake that drops, a drive that is lost in motion and a made OVERTRAVEL are findings in OPERATE, and all that come in
one event enter the kinds. Every change of the inputs of a leaf is published, positions before brakes and findings, and the
skew is judged on the positions, a seat arrival among them. The mismatch of a record that leaves FAULT for SET, the flag of
the last window that a leaf keeps as it rests on its seat, the brake feedback in every mode, and the order of publication,
are the model's readings (assumption logs 37, 30, 17 and 7). -/
def Obligations.SpeedWindowsJudgeTheLeaf : Prop :=
  (∀ (l : LeafId) (b : Blocks),
    let r := b.leaves.get l
    let rested := { r.mot with updateTimer := none, command := 0 }
    (leafState b l = .stopping → (b.brakes.get l).state = .set →
      leafRest l b = setLeaf l (if made b (.seated l) then
          { r with mot := { rested with state := .seated }, flt := { r.flt with stall := none }
                   win := { r.win with running := false, elapsed := 0, net := 0, gross := 0, speed := 0, dir := .none } }
        else { r with mot := { rested with state := .parked, arrived := r.mot.arrivalReached }
                      flt := { r.flt with stall := none } }) b) ∧
    (leafState b l ≠ .stopping ∨ (b.brakes.get l).state ≠ .set → leafRest l b = b)) ∧
  (∀ (l : LeafId) (s0 b : Blocks),
    let q := b.brakes.get l
    let c := publishDrive s0 b l
    let rises := fun f : InputFn => made s0 f = false ∧ made b f = true
    let falls := fun f : InputFn => made s0 f = true ∧ made b f = false
    let quiet := ¬ falls (.driveReady l) ∧ ¬ rises (.overtravel l)
    (quiet → rises (.brakeReleased l) →
      (q.state = .releasing → c = setBrake l { q with state := .released, timer := none } b) ∧
      (q.state = .set → c = setBrake l { q with mismatch := true } b) ∧
      (q.state ≠ .releasing → q.state ≠ .set → c = b)) ∧
    (quiet → falls (.brakeReleased l) →
      (q.state = .setting → c = setBrake l { q with state := .set, timer := none } b) ∧
      (q.state = .set → c = setBrake l { q with mismatch := false } b) ∧
      (q.state = .fault → q.command = .set →
        c = setBrake l { q with state := .set, fault := .none, timer := none, mismatch := false } b) ∧
      (q.state = .released → leafInMotion b l = false → c = setBrake l
        { q with command := .set, state := .fault, fault := .brakeDropped, lastFault := .brakeDropped } b)) ∧
    (quiet → ¬ rises (.brakeReleased l) → ¬ falls (.brakeReleased l) → c = b) ∧
    (b.sil.mode = .operate →
      (leafInMotion b l = true → falls (.brakeReleased l) → q.state = .released →
        leafState c l = .fault ∧ LeafFault.brakeDropped ∈ (c.leaves.get l).flt.kinds ∧ (c.brakes.get l).state = .set ∧
          (c.brakes.get l).lastFault = .brakeDropped) ∧
      (leafInMotion b l = true → falls (.driveReady l) →
        leafState c l = .fault ∧ LeafFault.driveNotReady ∈ (c.leaves.get l).flt.kinds) ∧
      (leafInMotion b l = false → falls (.driveReady l) → ¬ rises (.overtravel l) → c.leaves = b.leaves) ∧
      (rises (.overtravel l) → leafState c l = .fault ∧ LeafFault.overtravel ∈ (c.leaves.get l).flt.kinds)) ∧
    SameBut [.leaves, .brakes] b c) ∧
  (∀ s0 b : Blocks,
    let placed := publishPosition s0 (publishPosition s0 b .north) .south
    publishLeaves s0 b =
      skewFinding placed (skewStands placed) (publishDrive s0 (publishDrive s0 placed .north) .south)) ∧
  ∀ (l : LeafId) (s : State),
    let b := s.blocks
    let r := b.leaves.get l
    let speed := min (r.win.net.natAbs * 10 * 1000 / b.par.ratedCps.get l) 2000
    (r.win.running = false → exec (.speedWindowEnd l) s = .next (eventEnd s b)) ∧
    (r.win.running = true → ∃ c : Blocks, exec (.speedWindowEnd l) s = .next (eventEnd s c) ∧
      (c.leaves.get l).win = { running := true, elapsed := 0, net := 0, gross := 0, speed := speed
                               dir := if 0 < r.win.net then .raise else if r.win.net < 0 then .lower else .none
                               stationary := some (decide (r.win.gross = 0)) } ∧
      (c.leaves.get l).pos = r.pos ∧
      (b.sil.mode = .operate → b.par.overspeedPm < speed → FaultFound .overspeed l b c) ∧
      (speed ≤ b.par.overspeedPm → r.mot.state = .stopping → r.mot.command = 0 → r.win.gross = 0 →
        (b.brakes.get l).state = .released →
          (c.leaves.get l).mot = { r.mot with brakeSetAsked := true } ∧
          c.brakes.get l = { b.brakes.get l with command := .set, state := .setting,
                                                 timer := some b.par.brakeProveMs }) ∧
      (speed ≤ b.par.overspeedPm → ¬ (r.mot.state = .stopping ∧ r.mot.command = 0 ∧ r.win.gross = 0) →
        (c.leaves.get l).mot = r.mot ∧ (c.leaves.get l).flt = r.flt ∧ c.brakes = b.brakes) ∧
      SameBut [.leaves, .brakes] b c) ∧
    (r.flt.stall = none → exec (.stallTimerExpiry l) s = .next (eventEnd s b)) ∧
    (r.flt.stall ≠ none → b.sil.mode = .operate → ∃ c : Blocks,
      exec (.stallTimerExpiry l) s = .next (eventEnd s c) ∧ FaultFound .stall l b c ∧
      (c.leaves.get l).pos = r.pos ∧ SameBut [.leaves, .brakes] b c)

/-- The wind cap (R137): V_CREEP while the sensor is FAILED and from W_STOP_DMS on, 1000 up to W_KNEE_DMS, and the slope
between them, which reaches both ends; for a V_CREEP of at most 1000 the cap is never below it. -/
def Obligations.WindCapSlopesToCreep : Prop :=
  ∀ b : Blocks, b.par.wKneeDms < b.par.wStopDms →
    (b.wmn.sound = false → windCap b = b.par.vCreep) ∧
    (b.par.wStopDms ≤ b.wmn.gust → windCap b = b.par.vCreep) ∧
    (b.wmn.sound = true → b.wmn.gust ≤ b.par.wKneeDms → windCap b = 1000) ∧
    (b.wmn.sound = true → b.par.wKneeDms < b.wmn.gust → b.wmn.gust < b.par.wStopDms →
      windCap b = b.par.vCreep +
        (1000 - b.par.vCreep) * (b.par.wStopDms - b.wmn.gust) / (b.par.wStopDms - b.par.wKneeDms)) ∧
    (b.par.vCreep ≤ 1000 → b.par.vCreep ≤ windCap b ∧ windCap b ≤ 1000)

/-- PROFILE_UPDATE. A MOVING leaf takes the smallest of its zone limit, the wind cap and its command plus ACCEL; a lead
between SKEW_TRIM_CD and SKEW_LIMIT_CD trims it, and one of SKEW_LIMIT_CD or more faults the leaf; a raise at its target
stops, its stall timer IDLE. The update's distance, zone limit, wind cap and lead, and whether the trim applied, are the
last update shown (R126); the lead of a RECOVERY_LOWER is a free value (assumption log 13). A STOPPING leaf loses DECEL
under its ceiling, and the last update shown stays; that, and what an update shows of the stages it does not reach, are the
model's choices (assumption log 36). A leaf in any other state takes no update. An update as the command that says it is due
is the model's choice (assumption log 4). The profile starts once every leaf taking part has its brake RELEASED or has
arrived at its seat in RELEASING, where the other goes on until its own (R133; that the start is at that arrival, and so in
a LOWER too, is the model's choice, assumption log 45): the RELEASING leaves are MOVING from command 0 and take their first
update, or have the finding SKEW where the start fails for skew. A raise arrives at its target under BY_TARGET, and at its
open limit, while MOVING or STOPPING. -/
def Obligations.ProfileUpdateSetsTheCommand : Prop :=
  (∀ (l : LeafId) (b : Blocks),
    let m := (b.leaves.get l).mot
    let reached := (m.rule = .byTarget ∧ m.targetCounts.getD 0 ≤ (b.leaves.get l).pos.position) ∨
      ((m.rule = .byTarget ∨ m.rule = .openLimitOnly) ∧ made b (.openLimit l) = true)
    let arrives := m.kind = .raise ∧ (m.state = .moving ∨ m.state = .stopping) ∧ m.arrivalReached = false ∧ reached
    (arrives → judgeRaiseArrival l b = setLeaf l { b.leaves.get l with
      mot := { m with state := .stopping, command := 0, arrivalReached := true } } b) ∧
    (¬ arrives → judgeRaiseArrival l b = b)) ∧
  (∀ b : Blocks,
    let ready := (∃ l : LeafId, leafState b l = .releasing) ∧
      ∀ l : LeafId, (b.leaves.get l).mot.takingPart = true →
        (b.leaves.get l).mot.arrivalReached = true ∨ (b.brakes.get l).state = .released
    let tested := (∃ l : LeafId, leafState b l = .releasing ∧
        ((b.leaves.get l).mot.kind = .raise ∨ (b.leaves.get l).mot.kind = .lower)) ∧
      (∀ l : LeafId, (b.leaves.get l).pos.certain = true) ∧
      b.par.skewLimitCd ≤ (leafAngle b .north - leafAngle b .south).natAbs
    let begins := fun r : LeafRec => if r.mot.state = .releasing then
      { r with mot := { r.mot with state := .moving, command := 0, updateTimer := some 10 } } else r
    let begun : Blocks := { b with leaves := ⟨begins b.leaves.north, begins b.leaves.south⟩ }
    let first := fun (l : LeafId) (x : Blocks) => if leafState b l = .releasing then leafUpdate l x else x
    (¬ ready → profileStart b = b) ∧
    (ready → ¬ tested → profileStart b = first .south (first .north begun)) ∧
    (ready → tested → b.sil.mode = .operate →
      (∀ l : LeafId, leafState b l = .releasing → leafState (profileStart b) l = .fault ∧
        LeafFault.skew ∈ ((profileStart b).leaves.get l).flt.kinds) ∧
      (∀ l : LeafId, leafState (profileStart b) l = .moving → leafState b l = .moving) ∧
      SameBut [.leaves, .brakes] b (profileStart b))) ∧
  (∀ (l : LeafId) (s : State), exec (.profileUpdate l) s = .next (eventEnd s (leafUpdate l s.blocks))) ∧
  ∀ (l : LeafId) (s : State),
    let b := s.blocks
    let r := b.leaves.get l
    let p := b.par
    let d : Int := if r.mot.kind = .raise then r.mot.targetCounts.getD 0 - r.pos.position else r.pos.position
    let slope := if d ≤ p.creepZone then p.vCreep
      else if (p.creepZone + p.slowZone : Int) ≤ d then p.vCruise
      else p.vCreep + (p.vCruise - p.vCreep) * (d.toNat - p.creepZone) / p.slowZone
    let creeps := r.pos.certain = false ∨ r.mot.kind = .recoveryLower ∨ r.mot.rule = .openLimitOnly ∨
      r.mot.rule = .seatOnly
    let limit := min (if creeps then min slope p.vCreep else slope) (windCap b)
    let ahead : Int := if r.mot.kind = .raise then leafAngle b l - leafAngle b (otherLeaf l)
      else leafAngle b (otherLeaf l) - leafAngle b l
    let trims := trimApplies b = true
    let stall := fun v : Nat => if p.vCreep ≤ v then some (r.flt.stall.getD p.stallMs) else none
    let shown := fun (u : UpdateRec) (trimmed : Bool) => u.distance = d ∧
      u.zone = (if creeps then min slope p.vCreep else slope) ∧ u.cap = windCap b ∧ u.trimmed = trimmed ∧
      (r.mot.kind ≠ .recoveryLower → u.lead = BitVec.ofInt 24 ahead)
    (r.mot.state ≠ .moving → r.mot.state ≠ .stopping → exec (.profileUpdate l) s = .next (eventEnd s b)) ∧
    (r.mot.state = .stopping →
      let v := min (r.mot.command - p.decel) (ceiling b l)
      exec (.profileUpdate l) s = .next (eventEnd s (setLeaf l { r with
        mot := { r.mot with command := v, updateTimer := some 10 }
        flt := { r.flt with stall := stall v } } b))) ∧
    (r.mot.state = .moving → r.mot.kind = .raise → r.mot.rule = .byTarget → d ≤ 0 →
      ∃ (c : Blocks) (u : UpdateRec), exec (.profileUpdate l) s = .next (eventEnd s c) ∧ shown u false ∧
        c.leaves.get l = { r with
          mot := { r.mot with
            state := .stopping, command := 0, arrivalReached := true, updateTimer := some 10, lastUpdate := some u }
          flt := { r.flt with stall := none } } ∧
        c.leaves.get (otherLeaf l) = b.leaves.get (otherLeaf l) ∧ SameBut [.leaves] b c) ∧
    (r.mot.state = .moving → ¬ (r.mot.kind = .raise ∧ r.mot.rule = .byTarget ∧ d ≤ 0) →
      (¬ trims ∨ ahead < p.skewLimitCd →
        let v := min (if trims ∧ (p.skewTrimCd : Int) < ahead then
          limit * ((p.skewLimitCd : Int) - ahead).toNat / (p.skewLimitCd - p.skewTrimCd) else limit)
            (r.mot.command + p.accel)
        ∃ (c : Blocks) (u : UpdateRec), exec (.profileUpdate l) s = .next (eventEnd s c) ∧ shown u (trimApplies b) ∧
          c.leaves.get l = { r with
            mot := { r.mot with command := v, updateTimer := some 10, lastUpdate := some u }
            flt := { r.flt with stall := stall v } } ∧
          c.leaves.get (otherLeaf l) = b.leaves.get (otherLeaf l) ∧ SameBut [.leaves] b c) ∧
      (trims → p.skewLimitCd ≤ ahead → b.sil.mode = .operate → ∃ (c : Blocks) (u : UpdateRec),
        exec (.profileUpdate l) s = .next (eventEnd s c) ∧ shown u true ∧ (c.leaves.get l).mot.lastUpdate = some u ∧
        (∀ k : LeafId, leafState c k = .fault ∧ (c.leaves.get k).flt.first = some .skew ∧
          (c.leaves.get k).flt.stall = none ∧ (c.leaves.get k).mot.command = 0) ∧
        SameBut [.leaves, .brakes] b c))

/-! ## Passage and wind -/

/-- The required angle of an air draft (R161): over a table that R160 accepts and an air draft above the closed clearance
and no greater than the full clearance, it lies on the first segment that reaches the air draft, rounded up; it is at
least 1, no greater than the last angle, and the lowest angle at which the clearance reaches the air draft. -/
def Obligations.RequiredAngleIsTheLowest : Prop :=
  ∀ (t : List (Nat × Nat)) (h : Nat), TableOk t → closedClearance t < h → h ≤ fullClearance t →
    let a := requiredAngle t h
    (∃ (before after : List (Nat × Nat)) (p q : Nat × Nat), t = before ++ p :: q :: after ∧ p.2 < h ∧ h ≤ q.2 ∧
      (∀ x ∈ before, x.2 < h) ∧
        a = p.1 + ((h - p.2) * (q.1 - p.1) + (q.2 - p.2) - 1) / (q.2 - p.2)) ∧
      1 ≤ a ∧ a ≤ (t.map Prod.fst).getLastD 0 ∧ h ≤ clearanceAt t a ∧ (∀ x : Nat, x < a → clearanceAt t x < h) ∧
        ∀ x y : Nat, x ≤ y → y ≤ (t.map Prod.fst).getLastD 0 → clearanceAt t x ≤ clearanceAt t y

/-- GAP_RUN_OUT lets the gap timer stand at the gap that the candidate needs. The grant test makes the candidate of a
PASSING group PROCEED when no vessel is PROCEEDING, its gap has run out and P_PROCEED holds for it, and records what blocks
it otherwise: GAP, or the first failing condition of P_PROCEED in the order of R19. GAP_RUN_OUT as the command that says the
gap is over is the model's choice (assumption log 4). By itself a group passes from AWAITING_OPEN to PASSING when both
leaves are PARKED with arrived set, also while a movement waits for a brake (the model's choice, assumption log 46), and
from PASSING to COMPLETE when no vessel is WAITING or PROCEEDING. A shown proceed falls, its vessel still PROCEEDING, when a
leaf leaves PARKED or the effective lower angle falls below the required one, with a CLEARANCE_LOST posting, and when the
GREEN group of its direction is FAILED, without one. That the posting names LEAF_NOT_PARKED where both parts fail is the
model's choice (assumption log 38). -/
def Obligations.GapsAndGrants : Prop :=
  (∀ b : Blocks,
    let opens := b.nav.group = .awaitingOpen ∧
      ∀ l : LeafId, leafState b l = .parked ∧ (b.leaves.get l).mot.arrived = true
    let done := b.nav.group = .passing ∧ ∀ x ∈ b.nav.slots, x.state ≠ .waiting ∧ x.state ≠ .proceeding
    (opens → openGroup b = { b with nav := { b.nav with group := .passing } }) ∧ (¬ opens → openGroup b = b) ∧
    (done → completeGroup b = { b with nav := { b.nav with group := .complete } }) ∧ (¬ done → completeGroup b = b) ∧
    (b.nav.proceedShown = none ∨ proceedingVessel b.nav = none → watchProceed b = b) ∧
    ∀ (d : Dir) (v : Vessel), b.nav.proceedShown = some d → proceedingVessel b.nav = some v →
      let parked := ∀ l : LeafId, leafState b l = .parked
      let clear := (v.required : Int) ≤ effectiveLower b
      let dark := (lampRec b (.green d)).state = .failed
      let falls := fun (f : ProceedFall) (ns : List Note) => watchProceed b =
        { b with nav := { b.nav with proceedShown := none, fall := f }, notes := b.notes ++ ns }
      (¬ parked → falls .clearanceLost [.clearanceLost v false]) ∧
      (parked → ¬ clear → falls .clearanceLost [.clearanceLost v true]) ∧
      (parked → clear → dark → falls .greenFailed []) ∧
      (parked → clear → ¬ dark → watchProceed b = b)) ∧
  (∀ s : State,
    let b := s.blocks
    (∀ (ms : Nat) (v : Vessel), b.nav.gap = some ms → candidate b.nav = some v →
      exec .gapRunOut s = .next (eventEnd s { b with nav := { b.nav with
        gap := some (max ms (if b.nav.lastCleared = some v.dir then b.par.followMs else b.par.reverseMs)) } })) ∧
    (b.nav.gap = none ∨ candidate b.nav = none → exec .gapRunOut s = .next (eventEnd s b))) ∧
  ∀ (b : Blocks) (v : Vessel), b.nav.group = .passing → proceedingVessel b.nav = none → candidate b.nav = some v →
    let gapDone := ∀ ms : Nat, b.nav.gap = some ms →
      (if b.nav.lastCleared = some v.dir then b.par.followMs else b.par.reverseMs) ≤ ms
    let permitted := stationReady b .p = true ∧ (lampRec b (.green v.dir)).state ≠ .failed ∧ b.sil.latch = false ∧
      b.sil.consoleLost = false ∧ (∀ l : LeafId, leafState b l = .parked) ∧
      (∀ l : LeafId, (b.leaves.get l).pos.certain = true ∨ made b (.openLimit l) = true) ∧
      (v.required : Int) ≤ effectiveLower b
    (gapDone → permitted → grantTest b = { b with nav := { b.nav with
      slots := b.nav.slots.map fun x => if x.vessel.ident = v.ident then { x with state := .proceeding } else x
      proceedShown := some v.dir
      fall := .none
      blocked := .none } }) ∧
    (¬ gapDone → grantTest b = { b with nav := { b.nav with blocked := .gap } }) ∧
    let fails := fun w : Blocked => match w with
      | .none => False
      | .gap => False
      | .pierNotReady => stationReady b .p = false
      | .greenFailed => (lampRec b (.green v.dir)).state = .failed
      | .estopLatched => b.sil.latch = true
      | .consoleLost => b.sil.consoleLost = true
      | .leafNotParked => ∃ l : LeafId, leafState b l ≠ .parked
      | .positionUncertain => ∃ l : LeafId, (b.leaves.get l).pos.certain = false ∧ made b (.openLimit l) = false
      | .angleLow => effectiveLower b < (v.required : Int)
    (gapDone → ¬ permitted → ∃ (before after : List Blocked) (w : Blocked),
      [.pierNotReady, .greenFailed, .estopLatched, .consoleLost, .leafNotParked, .positionUncertain, .angleLow] =
        before ++ w :: after ∧ fails w ∧ (∀ x ∈ before, ¬ fails x) ∧
      grantTest b = { b with nav := { b.nav with blocked := w } })

/-- The wind monitor. A falling edge in FIRST_EDGE or CALM, or at the calm limit, only starts the timing. In TIMING
a period of at least ANEMO_MIN_US gives the wind ANEMO_K / p, up to 999, judges the gust and counts toward a sound
sensor; a shorter one fails the sensor and gives no wind. CALM gives the wind 0, and the gust age rises to 255. The
level follows the gust with hysteresis. The period as an operand of the edge, also of 0 µs, the plausible run that an edge at
the calm limit keeps, and CALM and GUST_AGE_RISE as the commands that say they have come, whatever time has been counted, are
the model's choices (assumption logs 6 and 4). -/
def Obligations.WindFollowsTheAnemometer : Prop :=
  (∀ (elapsed : Nat) (s : State),
    let b := s.blocks
    let w := b.wmn
    let leads := fun (i : Instr) (x : Wmn) => exec i s = .next (eventEnd s { b with wmn := x })
    let level := fun g : Nat => gustLevelOf b.par g w.gustLevel
    let gusts := fun (value age : Nat) => value ≥ w.gust ∨ b.par.gustHoldS ≤ age
    (w.measure ≠ .timing ∨ 2000000 ≤ elapsed →
      leads (.anemoFallingEdge elapsed) { w with measure := .timing, period := 0 }) ∧
    (w.measure = .timing → elapsed < 2000000 → elapsed < b.par.anemoMinUs →
      leads (.anemoFallingEdge elapsed) { w with
        period := 0, lastPeriod := some elapsed, implausible := min (w.implausible + 1) 255, run := 0, sound := false
        gustLevel := level w.gust, alarm := .stop }) ∧
    (w.measure = .timing → elapsed < 2000000 → b.par.anemoMinUs ≤ elapsed →
      let wind := min (b.par.anemoK / elapsed) 999
      let sound := w.sound = true ∨ 3 ≤ w.run + 1
      let gust := if gusts wind w.age then wind else w.gust
      leads (.anemoFallingEdge elapsed) { w with
        period := 0, lastPeriod := some elapsed, wind := wind, gust := gust
        age := if gusts wind w.age then 0 else w.age
        run := if sound then 0 else w.run + 1
        sound := decide sound
        gustLevel := level gust
        alarm := if sound then level gust else .stop }) ∧
    (w.measure = .timing →
      let gust := if gusts 0 w.age then 0 else w.gust
      leads .calm { w with
        measure := .calm, period := 2000000, wind := 0, run := 0, gust := gust
        age := if gusts 0 w.age then 0 else w.age
        gustLevel := level gust
        alarm := if w.sound then level gust else .stop }) ∧
    (w.measure ≠ .timing → leads .calm w) ∧
    (w.measure ≠ .calm → leads .gustAgeRise { w with age := min (w.age + 1) 255 }) ∧
    (w.measure = .calm →
      let age := min (w.age + 1) 255
      let gust := if gusts 0 age then 0 else w.gust
      leads .gustAgeRise { w with
        gust := gust
        age := if gusts 0 age then 0 else age
        gustLevel := level gust
        alarm := if w.sound then level gust else .stop })) ∧
  ∀ (p : Params) (g : Nat), p.wHystDms < p.wKneeDms → p.wKneeDms < p.wStopDms →
    gustLevelOf p g .normal = (if p.wStopDms ≤ g then .stop else if p.wKneeDms ≤ g then .high else .normal) ∧
    gustLevelOf p g .high =
      (if p.wStopDms ≤ g then .stop else if g < p.wKneeDms - p.wHystDms then .normal else .high) ∧
    gustLevelOf p g .stop =
      (if g < p.wKneeDms - p.wHystDms then .normal else if g < p.wStopDms - p.wHystDms then .high else .stop)

/-! ## Adoption -/

/-- ADOPT_TIMEOUT in ADOPT with the adopt timer running: OPERATE begins, and every block is set from the inputs as they
stand. In any other case nothing happens. The same is done, with the outcome ALL_FRESH, at the end of the first event in
ADOPT after which every link is aligned and every input FRESH. The parameters stay, but for a pending cadence where the
generator starts (R71). An expiry as the command that says it has come, the reading of HELD switches at their presented
value, and OVERTRAVEL after the phases are the model's choices (assumption logs 4, 16 and 18). -/
def Obligations.AdoptTimeoutFindsTheBridge : Prop :=
  (∀ s0 b : Blocks, b.sil.mode = .adopt →
    let ready := (∀ l : Link, (b.links.get l).state = .aligned ∨ (b.links.get l).state = .degraded) ∧
      ∀ i : Fin 41, (b.iq.recs.get i).freshness = .fresh
    (¬ ready → following s0 b = { b with notes := [] }) ∧
    (ready → ∃ c : Blocks, following s0 b = following s0 c ∧
      (∀ s : State, s.blocks = b → b.sil.adoptTimer ≠ none → exec .adoptTimeout s = .next (eventEnd s
        { c with sil := { c.sil with adoptOutcome := .timeout } })) ∧
      c.sil.mode = .operate ∧ c.sil.adoptOutcome = .allFresh ∧ c.sil.notFresh = 0 ∧ c.sil.adoptTimer = none ∧
      c.sil.latch = !(made b .estop) ∧ c.presence = some b.par.presenceMs)) ∧
  ∀ s : State,
    let b := s.blocks
    (b.sil.mode ≠ .adopt ∨ b.sil.adoptTimer = none → exec .adoptTimeout s = .next (eventEnd s b)) ∧
    (b.sil.mode = .adopt → b.sil.adoptTimer ≠ none →
      let seats := LeafId.all.all fun l => made b (.seated l)
      let locks := fun x : Proven => LockId.all.all fun k => decide (lockShows b k = x)
      let barriers := fun x : Proven => BarrierId.all.all fun i => decide (barrierShows b i = x)
      ∃ c : Blocks, exec .adoptTimeout s = .next (eventEnd s c) ∧
        c.sil = { mode := .operate
                  phase := if seats ∧ locks .first ∧ barriers .first then .traffic
                    else if seats ∧ locks .first ∧ barriers .second then .closed
                    else if seats ∧ locks .second ∧ barriers .second then .unlocked else .recovery
                  held := false
                  cause := .none
                  latch := !(made b .estop)
                  consoleLost := false
                  order := none
                  overrides := []
                  adoptTimer := none
                  adoptOutcome := .timeout
                  notFresh := (b.iq.recs.toList.filter fun r => r.freshness != .fresh).length } ∧
        c.rsq.phase = (if seats ∧ locks .first ∧ barriers .first then .roadOpen
          else if seats ∧ (locks .first ∨ locks .second) ∧ barriers .second then .roadClosed else .alert) ∧
        (c.rsq.phase = .alert → c.rsq.cause = .recovery ∧ c.rsq.bells = ⟨false, false⟩) ∧
        c.presence = some b.par.presenceMs ∧
        (∀ i : BarrierId,
          (barrierShows b i = .first → c.barriers.get i = { command := .raise, state := .up }) ∧
          (barrierShows b i = .second → c.barriers.get i = { command := .lower, state := .down }) ∧
          (barrierShows b i = .between → c.barriers.get i = { command := .stop, state := .fault, fault := .lostPosition }) ∧
          (barrierShows b i = .conflict →
            c.barriers.get i = { command := .stop, state := .fault, fault := .switchConflict })) ∧
        (∀ k : LockId,
          (lockShows b k = .first → c.locks.get k = { command := .drive, state := .driven }) ∧
          (lockShows b k = .second → c.locks.get k = { command := .withdraw, state := .withdrawn }) ∧
          (lockShows b k = .between → c.locks.get k = { command := .off, state := .fault, fault := .lostPosition }) ∧
          (lockShows b k = .conflict →
            c.locks.get k = { command := .off, state := .fault, fault := .switchConflict })) ∧
        (∀ l : LeafId,
          (made b (.seated l) = true → (c.leaves.get l).pos.position = 0 ∧ (c.leaves.get l).pos.certain = true) ∧
          (made b (.seated l) = false → (c.leaves.get l).pos.certain = false ∧
            (c.leaves.get l).pos.position = (if made b (.openLimit l) then (b.par.fullCounts.get l : Int) else 0) ∧
            (c.leaves.get l).pos.angleKnown = made b (.openLimit l) ∧ (c.leaves.get l).win.running = true) ∧
          leafState c l = (if made b (.overtravel l) then .fault else if made b (.seated l) then .seated else .parked)) ∧
        c.nav = { table := b.nav.table, loaded := b.nav.loaded, aspects := c.nav.aspects } ∧
        (∀ g : Lamp, (lampRec c g).fitted = outputFitted b (lampOutput g)) ∧
        (let started := c.slu.running = true ∧ b.slu.running = false
         c.par = (if started then { b.par with flashFpm := b.pend.flashFpm.getD b.par.flashFpm } else b.par) ∧
           c.pend = (if started then { b.pend with flashFpm := none } else b.pend)) ∧
        SameBut [.sil, .rsq, .slu, .barriers, .locks, .leaves, .brakes, .nav, .par, .pend, .presence, .notes] b c)

/-! ## The whole machine -/

/-- The outputs. No barrier has both its command outputs on and no lock both its motor lines; a line or a drive
reference is on only in OPERATE with the latch clear, a drive reference then is command × 4095 / 1000, a released
brake's command RELEASE, and a motor line only that of a travelling lock. A barrier output carries the barrier's command
unless it is in FAULT, a BELL output the road sequencer's bell, and a lamp output the command of its group. The lamp commands
follow from the approach
aspects, the channel aspects, the generator phase and the FAILED standing of RED_1. -/
def Obligations.OutputsFollowTheRecords : Prop :=
  ∀ b : Blocks, BarrierOutputsOk b ∧ LockLinesOk b ∧
    (b.sil.mode ≠ .operate ∨ b.sil.latch = true → MachineryAtRest b) ∧
    (b.sil.mode = .operate → b.sil.latch = false →
      (∀ l : LeafId, driveDuty b l = (b.leaves.get l).mot.command * 4095 / 1000 ∧
        (brakeLine b l = true ↔ (b.brakes.get l).command = .release ∧
          ((b.brakes.get l).state = .releasing ∨ (b.brakes.get l).state = .released))) ∧
      ∀ k : LockId, (lockDriveLine b k = true ↔ (b.locks.get k).state = .driving) ∧
        (lockWithdrawLine b k = true ↔ (b.locks.get k).state = .withdrawing)) ∧
    (∀ i : BarrierId, (b.barriers.get i).state = .fault →
      outputValue b (.lower i) = false ∧ outputValue b (.raise i) = false) ∧
    (∀ i : BarrierId, (b.barriers.get i).state ≠ .fault →
      (outputValue b (.lower i) = true ↔ (b.barriers.get i).command = .lower) ∧
      (outputValue b (.raise i) = true ↔ (b.barriers.get i).command = .raise)) ∧
    (∀ a : Approach, outputValue b (.bell a) = b.rsq.bells.get a) ∧
    (∀ g : Lamp, outputValue b (lampOutput g) = (lampRec b g).command) ∧
    (∀ a : Approach, lampCommand b (.amber a) = decide (b.slu.aspects.get a = .amber) ∧
      lampCommand b (.redA a) = decide (b.slu.aspects.get a = .redFlash ∧ b.slu.phaseB = false) ∧
      lampCommand b (.redB a) = decide (b.slu.aspects.get a = .redFlash ∧ b.slu.phaseB = true)) ∧
    ∀ d : Dir,
      let failed := (lampRec b (.red1 d)).state = .failed
      (b.nav.aspects.get d = .red → lampCommand b (.red1 d) = true ∧ lampCommand b (.red2 d) = decide failed ∧
        lampCommand b (.green d) = false) ∧
      (b.nav.aspects.get d = .standby → lampCommand b (.red1 d) = !b.slu.phaseB ∧
        lampCommand b (.red2 d) = (!b.slu.phaseB && decide failed) ∧ lampCommand b (.green d) = false) ∧
      (b.nav.aspects.get d = .proceed → lampCommand b (.red1 d) = false ∧ lampCommand b (.red2 d) = false ∧
        lampCommand b (.green d) = true) ∧
      (b.nav.aspects.get d = .outOfService → lampCommand b (.red1 d) = true ∧ lampCommand b (.red2 d) = true ∧
        lampCommand b (.green d) = false)

/-- Whatever command is run, in every state: a speed command stays under its ceiling, no leaf moves on in a skew,
PROCEED shows in at most one direction, and the HELD flag is set exactly while it has a cause. That the ceiling and
the skew are judged once more at the end of every event is the model's reading (assumption log 7). -/
def Obligations.SafetyInvariantsAreKept : Prop :=
  ∀ s t : State, NotesOk s → HoldOk s.blocks.sil → SpeedOk s.blocks → SkewOk s.blocks → ProceedOk s.blocks.nav →
    step s = .next t →
      NotesOk t ∧ HoldOk t.blocks.sil ∧ SpeedOk t.blocks ∧ SkewOk t.blocks ∧ ProceedOk t.blocks.nav

/-- Through every step from every state the active and the pending parameter values stay in their ranges, and the passage
queue stays in rank order with at most twelve places in use. -/
def Obligations.ParametersAndQueueStayInRange : Prop :=
  ∀ s t : State, ParamsOk s.blocks.par → PendingOk s.blocks.pend → RankOrder s.blocks.nav.queue →
    placesInUse s.blocks.nav ≤ 12 → step s = .next t →
      ParamsOk t.blocks.par ∧ PendingOk t.blocks.pend ∧ RankOrder t.blocks.nav.queue ∧ placesInUse t.blocks.nav ≤ 12
end

