-- ==== Sys2Proof/Laws/State.lean ====
section
/-! SUPPORT. One lemma per field per update of the records: what each named write leaves in each field. -/

namespace Sys2Proof.Machine

@[simp] theorem PerLink.get_set_same {α : Type} (r : PerLink α) (i : Link) (a : α) : (r.set i a).get i = a := by
  cases i <;> rfl

theorem PerLink.get_set_other {α : Type} (r : PerLink α) (i j : Link) (a : α) (h : j ≠ i) :
    (r.set i a).get j = r.get j := by
  cases i <;> cases j <;> first | rfl | exact absurd rfl h

@[simp] theorem PerApproach.get_set_same {α : Type} (r : PerApproach α) (i : Approach) (a : α) : (r.set i a).get i = a := by
  cases i <;> rfl

theorem PerApproach.get_set_other {α : Type} (r : PerApproach α) (i j : Approach) (a : α) (h : j ≠ i) :
    (r.set i a).get j = r.get j := by
  cases i <;> cases j <;> first | rfl | exact absurd rfl h

@[simp] theorem PerLeaf.get_set_same {α : Type} (r : PerLeaf α) (i : LeafId) (a : α) : (r.set i a).get i = a := by
  cases i <;> rfl

theorem PerLeaf.get_set_other {α : Type} (r : PerLeaf α) (i j : LeafId) (a : α) (h : j ≠ i) :
    (r.set i a).get j = r.get j := by
  cases i <;> cases j <;> first | rfl | exact absurd rfl h

@[simp] theorem PerLock.get_set_same {α : Type} (r : PerLock α) (i : LockId) (a : α) : (r.set i a).get i = a := by
  cases i <;> rfl

theorem PerLock.get_set_other {α : Type} (r : PerLock α) (i j : LockId) (a : α) (h : j ≠ i) :
    (r.set i a).get j = r.get j := by
  cases i <;> cases j <;> first | rfl | exact absurd rfl h

@[simp] theorem PerBarrier.get_set_same {α : Type} (r : PerBarrier α) (i : BarrierId) (a : α) : (r.set i a).get i = a := by
  cases i <;> rfl

theorem PerBarrier.get_set_other {α : Type} (r : PerBarrier α) (i j : BarrierId) (a : α) (h : j ≠ i) :
    (r.set i a).get j = r.get j := by
  cases i <;> cases j <;> first | rfl | exact absurd rfl h

@[simp] theorem PerDir.get_set_same {α : Type} (r : PerDir α) (i : Dir) (a : α) : (r.set i a).get i = a := by
  cases i <;> rfl

theorem PerDir.get_set_other {α : Type} (r : PerDir α) (i j : Dir) (a : α) (h : j ≠ i) :
    (r.set i a).get j = r.get j := by
  cases i <;> cases j <;> first | rfl | exact absurd rfl h

/-! `setLeaf` -/

@[simp] theorem setLeaf_sil (l : LeafId) (r : LeafRec) (b : Blocks) : (setLeaf l r b).sil = b.sil := rfl
@[simp] theorem setLeaf_links (l : LeafId) (r : LeafRec) (b : Blocks) : (setLeaf l r b).links = b.links := rfl
@[simp] theorem setLeaf_iq (l : LeafId) (r : LeafRec) (b : Blocks) : (setLeaf l r b).iq = b.iq := rfl
@[simp] theorem setLeaf_cat (l : LeafId) (r : LeafRec) (b : Blocks) : (setLeaf l r b).cat = b.cat := rfl
@[simp] theorem setLeaf_slu (l : LeafId) (r : LeafRec) (b : Blocks) : (setLeaf l r b).slu = b.slu := rfl
@[simp] theorem setLeaf_rsq (l : LeafId) (r : LeafRec) (b : Blocks) : (setLeaf l r b).rsq = b.rsq := rfl
@[simp] theorem setLeaf_barriers (l : LeafId) (r : LeafRec) (b : Blocks) : (setLeaf l r b).barriers = b.barriers := rfl
@[simp] theorem setLeaf_leaves (l : LeafId) (r : LeafRec) (b : Blocks) : (setLeaf l r b).leaves = b.leaves.set l r := rfl
@[simp] theorem setLeaf_brakes (l : LeafId) (r : LeafRec) (b : Blocks) : (setLeaf l r b).brakes = b.brakes := rfl
@[simp] theorem setLeaf_locks (l : LeafId) (r : LeafRec) (b : Blocks) : (setLeaf l r b).locks = b.locks := rfl
@[simp] theorem setLeaf_seq (l : LeafId) (r : LeafRec) (b : Blocks) : (setLeaf l r b).seq = b.seq := rfl
@[simp] theorem setLeaf_nav (l : LeafId) (r : LeafRec) (b : Blocks) : (setLeaf l r b).nav = b.nav := rfl
@[simp] theorem setLeaf_wmn (l : LeafId) (r : LeafRec) (b : Blocks) : (setLeaf l r b).wmn = b.wmn := rfl
@[simp] theorem setLeaf_par (l : LeafId) (r : LeafRec) (b : Blocks) : (setLeaf l r b).par = b.par := rfl
@[simp] theorem setLeaf_pend (l : LeafId) (r : LeafRec) (b : Blocks) : (setLeaf l r b).pend = b.pend := rfl
@[simp] theorem setLeaf_presence (l : LeafId) (r : LeafRec) (b : Blocks) : (setLeaf l r b).presence = b.presence := rfl
@[simp] theorem setLeaf_presRanOut (l : LeafId) (r : LeafRec) (b : Blocks) : (setLeaf l r b).presRanOut = b.presRanOut := rfl
@[simp] theorem setLeaf_now (l : LeafId) (r : LeafRec) (b : Blocks) : (setLeaf l r b).now = b.now := rfl
@[simp] theorem setLeaf_notes (l : LeafId) (r : LeafRec) (b : Blocks) : (setLeaf l r b).notes = b.notes := rfl

/-! `setMot` -/

@[simp] theorem setMot_sil (l : LeafId) (m : MotionRec) (b : Blocks) : (setMot l m b).sil = b.sil := rfl
@[simp] theorem setMot_links (l : LeafId) (m : MotionRec) (b : Blocks) : (setMot l m b).links = b.links := rfl
@[simp] theorem setMot_iq (l : LeafId) (m : MotionRec) (b : Blocks) : (setMot l m b).iq = b.iq := rfl
@[simp] theorem setMot_cat (l : LeafId) (m : MotionRec) (b : Blocks) : (setMot l m b).cat = b.cat := rfl
@[simp] theorem setMot_slu (l : LeafId) (m : MotionRec) (b : Blocks) : (setMot l m b).slu = b.slu := rfl
@[simp] theorem setMot_rsq (l : LeafId) (m : MotionRec) (b : Blocks) : (setMot l m b).rsq = b.rsq := rfl
@[simp] theorem setMot_barriers (l : LeafId) (m : MotionRec) (b : Blocks) : (setMot l m b).barriers = b.barriers := rfl
@[simp] theorem setMot_leaves (l : LeafId) (m : MotionRec) (b : Blocks) : (setMot l m b).leaves = b.leaves.set l { b.leaves.get l with mot := m } := rfl
@[simp] theorem setMot_brakes (l : LeafId) (m : MotionRec) (b : Blocks) : (setMot l m b).brakes = b.brakes := rfl
@[simp] theorem setMot_locks (l : LeafId) (m : MotionRec) (b : Blocks) : (setMot l m b).locks = b.locks := rfl
@[simp] theorem setMot_seq (l : LeafId) (m : MotionRec) (b : Blocks) : (setMot l m b).seq = b.seq := rfl
@[simp] theorem setMot_nav (l : LeafId) (m : MotionRec) (b : Blocks) : (setMot l m b).nav = b.nav := rfl
@[simp] theorem setMot_wmn (l : LeafId) (m : MotionRec) (b : Blocks) : (setMot l m b).wmn = b.wmn := rfl
@[simp] theorem setMot_par (l : LeafId) (m : MotionRec) (b : Blocks) : (setMot l m b).par = b.par := rfl
@[simp] theorem setMot_pend (l : LeafId) (m : MotionRec) (b : Blocks) : (setMot l m b).pend = b.pend := rfl
@[simp] theorem setMot_presence (l : LeafId) (m : MotionRec) (b : Blocks) : (setMot l m b).presence = b.presence := rfl
@[simp] theorem setMot_presRanOut (l : LeafId) (m : MotionRec) (b : Blocks) : (setMot l m b).presRanOut = b.presRanOut := rfl
@[simp] theorem setMot_now (l : LeafId) (m : MotionRec) (b : Blocks) : (setMot l m b).now = b.now := rfl
@[simp] theorem setMot_notes (l : LeafId) (m : MotionRec) (b : Blocks) : (setMot l m b).notes = b.notes := rfl

/-! `setPos` -/

@[simp] theorem setPos_sil (l : LeafId) (p : PositionRec) (b : Blocks) : (setPos l p b).sil = b.sil := rfl
@[simp] theorem setPos_links (l : LeafId) (p : PositionRec) (b : Blocks) : (setPos l p b).links = b.links := rfl
@[simp] theorem setPos_iq (l : LeafId) (p : PositionRec) (b : Blocks) : (setPos l p b).iq = b.iq := rfl
@[simp] theorem setPos_cat (l : LeafId) (p : PositionRec) (b : Blocks) : (setPos l p b).cat = b.cat := rfl
@[simp] theorem setPos_slu (l : LeafId) (p : PositionRec) (b : Blocks) : (setPos l p b).slu = b.slu := rfl
@[simp] theorem setPos_rsq (l : LeafId) (p : PositionRec) (b : Blocks) : (setPos l p b).rsq = b.rsq := rfl
@[simp] theorem setPos_barriers (l : LeafId) (p : PositionRec) (b : Blocks) : (setPos l p b).barriers = b.barriers := rfl
@[simp] theorem setPos_leaves (l : LeafId) (p : PositionRec) (b : Blocks) : (setPos l p b).leaves = b.leaves.set l { b.leaves.get l with pos := p } := rfl
@[simp] theorem setPos_brakes (l : LeafId) (p : PositionRec) (b : Blocks) : (setPos l p b).brakes = b.brakes := rfl
@[simp] theorem setPos_locks (l : LeafId) (p : PositionRec) (b : Blocks) : (setPos l p b).locks = b.locks := rfl
@[simp] theorem setPos_seq (l : LeafId) (p : PositionRec) (b : Blocks) : (setPos l p b).seq = b.seq := rfl
@[simp] theorem setPos_nav (l : LeafId) (p : PositionRec) (b : Blocks) : (setPos l p b).nav = b.nav := rfl
@[simp] theorem setPos_wmn (l : LeafId) (p : PositionRec) (b : Blocks) : (setPos l p b).wmn = b.wmn := rfl
@[simp] theorem setPos_par (l : LeafId) (p : PositionRec) (b : Blocks) : (setPos l p b).par = b.par := rfl
@[simp] theorem setPos_pend (l : LeafId) (p : PositionRec) (b : Blocks) : (setPos l p b).pend = b.pend := rfl
@[simp] theorem setPos_presence (l : LeafId) (p : PositionRec) (b : Blocks) : (setPos l p b).presence = b.presence := rfl
@[simp] theorem setPos_presRanOut (l : LeafId) (p : PositionRec) (b : Blocks) : (setPos l p b).presRanOut = b.presRanOut := rfl
@[simp] theorem setPos_now (l : LeafId) (p : PositionRec) (b : Blocks) : (setPos l p b).now = b.now := rfl
@[simp] theorem setPos_notes (l : LeafId) (p : PositionRec) (b : Blocks) : (setPos l p b).notes = b.notes := rfl

/-! `setWin` -/

@[simp] theorem setWin_sil (l : LeafId) (w : SpeedRec) (b : Blocks) : (setWin l w b).sil = b.sil := rfl
@[simp] theorem setWin_links (l : LeafId) (w : SpeedRec) (b : Blocks) : (setWin l w b).links = b.links := rfl
@[simp] theorem setWin_iq (l : LeafId) (w : SpeedRec) (b : Blocks) : (setWin l w b).iq = b.iq := rfl
@[simp] theorem setWin_cat (l : LeafId) (w : SpeedRec) (b : Blocks) : (setWin l w b).cat = b.cat := rfl
@[simp] theorem setWin_slu (l : LeafId) (w : SpeedRec) (b : Blocks) : (setWin l w b).slu = b.slu := rfl
@[simp] theorem setWin_rsq (l : LeafId) (w : SpeedRec) (b : Blocks) : (setWin l w b).rsq = b.rsq := rfl
@[simp] theorem setWin_barriers (l : LeafId) (w : SpeedRec) (b : Blocks) : (setWin l w b).barriers = b.barriers := rfl
@[simp] theorem setWin_leaves (l : LeafId) (w : SpeedRec) (b : Blocks) : (setWin l w b).leaves = b.leaves.set l { b.leaves.get l with win := w } := rfl
@[simp] theorem setWin_brakes (l : LeafId) (w : SpeedRec) (b : Blocks) : (setWin l w b).brakes = b.brakes := rfl
@[simp] theorem setWin_locks (l : LeafId) (w : SpeedRec) (b : Blocks) : (setWin l w b).locks = b.locks := rfl
@[simp] theorem setWin_seq (l : LeafId) (w : SpeedRec) (b : Blocks) : (setWin l w b).seq = b.seq := rfl
@[simp] theorem setWin_nav (l : LeafId) (w : SpeedRec) (b : Blocks) : (setWin l w b).nav = b.nav := rfl
@[simp] theorem setWin_wmn (l : LeafId) (w : SpeedRec) (b : Blocks) : (setWin l w b).wmn = b.wmn := rfl
@[simp] theorem setWin_par (l : LeafId) (w : SpeedRec) (b : Blocks) : (setWin l w b).par = b.par := rfl
@[simp] theorem setWin_pend (l : LeafId) (w : SpeedRec) (b : Blocks) : (setWin l w b).pend = b.pend := rfl
@[simp] theorem setWin_presence (l : LeafId) (w : SpeedRec) (b : Blocks) : (setWin l w b).presence = b.presence := rfl
@[simp] theorem setWin_presRanOut (l : LeafId) (w : SpeedRec) (b : Blocks) : (setWin l w b).presRanOut = b.presRanOut := rfl
@[simp] theorem setWin_now (l : LeafId) (w : SpeedRec) (b : Blocks) : (setWin l w b).now = b.now := rfl
@[simp] theorem setWin_notes (l : LeafId) (w : SpeedRec) (b : Blocks) : (setWin l w b).notes = b.notes := rfl

/-! `setFlt` -/

@[simp] theorem setFlt_sil (l : LeafId) (f : FaultRec) (b : Blocks) : (setFlt l f b).sil = b.sil := rfl
@[simp] theorem setFlt_links (l : LeafId) (f : FaultRec) (b : Blocks) : (setFlt l f b).links = b.links := rfl
@[simp] theorem setFlt_iq (l : LeafId) (f : FaultRec) (b : Blocks) : (setFlt l f b).iq = b.iq := rfl
@[simp] theorem setFlt_cat (l : LeafId) (f : FaultRec) (b : Blocks) : (setFlt l f b).cat = b.cat := rfl
@[simp] theorem setFlt_slu (l : LeafId) (f : FaultRec) (b : Blocks) : (setFlt l f b).slu = b.slu := rfl
@[simp] theorem setFlt_rsq (l : LeafId) (f : FaultRec) (b : Blocks) : (setFlt l f b).rsq = b.rsq := rfl
@[simp] theorem setFlt_barriers (l : LeafId) (f : FaultRec) (b : Blocks) : (setFlt l f b).barriers = b.barriers := rfl
@[simp] theorem setFlt_leaves (l : LeafId) (f : FaultRec) (b : Blocks) : (setFlt l f b).leaves = b.leaves.set l { b.leaves.get l with flt := f } := rfl
@[simp] theorem setFlt_brakes (l : LeafId) (f : FaultRec) (b : Blocks) : (setFlt l f b).brakes = b.brakes := rfl
@[simp] theorem setFlt_locks (l : LeafId) (f : FaultRec) (b : Blocks) : (setFlt l f b).locks = b.locks := rfl
@[simp] theorem setFlt_seq (l : LeafId) (f : FaultRec) (b : Blocks) : (setFlt l f b).seq = b.seq := rfl
@[simp] theorem setFlt_nav (l : LeafId) (f : FaultRec) (b : Blocks) : (setFlt l f b).nav = b.nav := rfl
@[simp] theorem setFlt_wmn (l : LeafId) (f : FaultRec) (b : Blocks) : (setFlt l f b).wmn = b.wmn := rfl
@[simp] theorem setFlt_par (l : LeafId) (f : FaultRec) (b : Blocks) : (setFlt l f b).par = b.par := rfl
@[simp] theorem setFlt_pend (l : LeafId) (f : FaultRec) (b : Blocks) : (setFlt l f b).pend = b.pend := rfl
@[simp] theorem setFlt_presence (l : LeafId) (f : FaultRec) (b : Blocks) : (setFlt l f b).presence = b.presence := rfl
@[simp] theorem setFlt_presRanOut (l : LeafId) (f : FaultRec) (b : Blocks) : (setFlt l f b).presRanOut = b.presRanOut := rfl
@[simp] theorem setFlt_now (l : LeafId) (f : FaultRec) (b : Blocks) : (setFlt l f b).now = b.now := rfl
@[simp] theorem setFlt_notes (l : LeafId) (f : FaultRec) (b : Blocks) : (setFlt l f b).notes = b.notes := rfl

/-! `setBrake` -/

@[simp] theorem setBrake_sil (l : LeafId) (r : BrakeRec) (b : Blocks) : (setBrake l r b).sil = b.sil := rfl
@[simp] theorem setBrake_links (l : LeafId) (r : BrakeRec) (b : Blocks) : (setBrake l r b).links = b.links := rfl
@[simp] theorem setBrake_iq (l : LeafId) (r : BrakeRec) (b : Blocks) : (setBrake l r b).iq = b.iq := rfl
@[simp] theorem setBrake_cat (l : LeafId) (r : BrakeRec) (b : Blocks) : (setBrake l r b).cat = b.cat := rfl
@[simp] theorem setBrake_slu (l : LeafId) (r : BrakeRec) (b : Blocks) : (setBrake l r b).slu = b.slu := rfl
@[simp] theorem setBrake_rsq (l : LeafId) (r : BrakeRec) (b : Blocks) : (setBrake l r b).rsq = b.rsq := rfl
@[simp] theorem setBrake_barriers (l : LeafId) (r : BrakeRec) (b : Blocks) : (setBrake l r b).barriers = b.barriers := rfl
@[simp] theorem setBrake_leaves (l : LeafId) (r : BrakeRec) (b : Blocks) : (setBrake l r b).leaves = b.leaves := rfl
@[simp] theorem setBrake_brakes (l : LeafId) (r : BrakeRec) (b : Blocks) : (setBrake l r b).brakes = b.brakes.set l r := rfl
@[simp] theorem setBrake_locks (l : LeafId) (r : BrakeRec) (b : Blocks) : (setBrake l r b).locks = b.locks := rfl
@[simp] theorem setBrake_seq (l : LeafId) (r : BrakeRec) (b : Blocks) : (setBrake l r b).seq = b.seq := rfl
@[simp] theorem setBrake_nav (l : LeafId) (r : BrakeRec) (b : Blocks) : (setBrake l r b).nav = b.nav := rfl
@[simp] theorem setBrake_wmn (l : LeafId) (r : BrakeRec) (b : Blocks) : (setBrake l r b).wmn = b.wmn := rfl
@[simp] theorem setBrake_par (l : LeafId) (r : BrakeRec) (b : Blocks) : (setBrake l r b).par = b.par := rfl
@[simp] theorem setBrake_pend (l : LeafId) (r : BrakeRec) (b : Blocks) : (setBrake l r b).pend = b.pend := rfl
@[simp] theorem setBrake_presence (l : LeafId) (r : BrakeRec) (b : Blocks) : (setBrake l r b).presence = b.presence := rfl
@[simp] theorem setBrake_presRanOut (l : LeafId) (r : BrakeRec) (b : Blocks) : (setBrake l r b).presRanOut = b.presRanOut := rfl
@[simp] theorem setBrake_now (l : LeafId) (r : BrakeRec) (b : Blocks) : (setBrake l r b).now = b.now := rfl
@[simp] theorem setBrake_notes (l : LeafId) (r : BrakeRec) (b : Blocks) : (setBrake l r b).notes = b.notes := rfl

/-! `setBarrier` -/

@[simp] theorem setBarrier_sil (i : BarrierId) (r : BarrierRec) (b : Blocks) : (setBarrier i r b).sil = b.sil := rfl
@[simp] theorem setBarrier_links (i : BarrierId) (r : BarrierRec) (b : Blocks) : (setBarrier i r b).links = b.links := rfl
@[simp] theorem setBarrier_iq (i : BarrierId) (r : BarrierRec) (b : Blocks) : (setBarrier i r b).iq = b.iq := rfl
@[simp] theorem setBarrier_cat (i : BarrierId) (r : BarrierRec) (b : Blocks) : (setBarrier i r b).cat = b.cat := rfl
@[simp] theorem setBarrier_slu (i : BarrierId) (r : BarrierRec) (b : Blocks) : (setBarrier i r b).slu = b.slu := rfl
@[simp] theorem setBarrier_rsq (i : BarrierId) (r : BarrierRec) (b : Blocks) : (setBarrier i r b).rsq = b.rsq := rfl
@[simp] theorem setBarrier_barriers (i : BarrierId) (r : BarrierRec) (b : Blocks) : (setBarrier i r b).barriers = b.barriers.set i r := rfl
@[simp] theorem setBarrier_leaves (i : BarrierId) (r : BarrierRec) (b : Blocks) : (setBarrier i r b).leaves = b.leaves := rfl
@[simp] theorem setBarrier_brakes (i : BarrierId) (r : BarrierRec) (b : Blocks) : (setBarrier i r b).brakes = b.brakes := rfl
@[simp] theorem setBarrier_locks (i : BarrierId) (r : BarrierRec) (b : Blocks) : (setBarrier i r b).locks = b.locks := rfl
@[simp] theorem setBarrier_seq (i : BarrierId) (r : BarrierRec) (b : Blocks) : (setBarrier i r b).seq = b.seq := rfl
@[simp] theorem setBarrier_nav (i : BarrierId) (r : BarrierRec) (b : Blocks) : (setBarrier i r b).nav = b.nav := rfl
@[simp] theorem setBarrier_wmn (i : BarrierId) (r : BarrierRec) (b : Blocks) : (setBarrier i r b).wmn = b.wmn := rfl
@[simp] theorem setBarrier_par (i : BarrierId) (r : BarrierRec) (b : Blocks) : (setBarrier i r b).par = b.par := rfl
@[simp] theorem setBarrier_pend (i : BarrierId) (r : BarrierRec) (b : Blocks) : (setBarrier i r b).pend = b.pend := rfl
@[simp] theorem setBarrier_presence (i : BarrierId) (r : BarrierRec) (b : Blocks) : (setBarrier i r b).presence = b.presence := rfl
@[simp] theorem setBarrier_presRanOut (i : BarrierId) (r : BarrierRec) (b : Blocks) : (setBarrier i r b).presRanOut = b.presRanOut := rfl
@[simp] theorem setBarrier_now (i : BarrierId) (r : BarrierRec) (b : Blocks) : (setBarrier i r b).now = b.now := rfl
@[simp] theorem setBarrier_notes (i : BarrierId) (r : BarrierRec) (b : Blocks) : (setBarrier i r b).notes = b.notes := rfl

/-! `setLock` -/

@[simp] theorem setLock_sil (k : LockId) (r : LockRec) (b : Blocks) : (setLock k r b).sil = b.sil := rfl
@[simp] theorem setLock_links (k : LockId) (r : LockRec) (b : Blocks) : (setLock k r b).links = b.links := rfl
@[simp] theorem setLock_iq (k : LockId) (r : LockRec) (b : Blocks) : (setLock k r b).iq = b.iq := rfl
@[simp] theorem setLock_cat (k : LockId) (r : LockRec) (b : Blocks) : (setLock k r b).cat = b.cat := rfl
@[simp] theorem setLock_slu (k : LockId) (r : LockRec) (b : Blocks) : (setLock k r b).slu = b.slu := rfl
@[simp] theorem setLock_rsq (k : LockId) (r : LockRec) (b : Blocks) : (setLock k r b).rsq = b.rsq := rfl
@[simp] theorem setLock_barriers (k : LockId) (r : LockRec) (b : Blocks) : (setLock k r b).barriers = b.barriers := rfl
@[simp] theorem setLock_leaves (k : LockId) (r : LockRec) (b : Blocks) : (setLock k r b).leaves = b.leaves := rfl
@[simp] theorem setLock_brakes (k : LockId) (r : LockRec) (b : Blocks) : (setLock k r b).brakes = b.brakes := rfl
@[simp] theorem setLock_locks (k : LockId) (r : LockRec) (b : Blocks) : (setLock k r b).locks = b.locks.set k r := rfl
@[simp] theorem setLock_seq (k : LockId) (r : LockRec) (b : Blocks) : (setLock k r b).seq = b.seq := rfl
@[simp] theorem setLock_nav (k : LockId) (r : LockRec) (b : Blocks) : (setLock k r b).nav = b.nav := rfl
@[simp] theorem setLock_wmn (k : LockId) (r : LockRec) (b : Blocks) : (setLock k r b).wmn = b.wmn := rfl
@[simp] theorem setLock_par (k : LockId) (r : LockRec) (b : Blocks) : (setLock k r b).par = b.par := rfl
@[simp] theorem setLock_pend (k : LockId) (r : LockRec) (b : Blocks) : (setLock k r b).pend = b.pend := rfl
@[simp] theorem setLock_presence (k : LockId) (r : LockRec) (b : Blocks) : (setLock k r b).presence = b.presence := rfl
@[simp] theorem setLock_presRanOut (k : LockId) (r : LockRec) (b : Blocks) : (setLock k r b).presRanOut = b.presRanOut := rfl
@[simp] theorem setLock_now (k : LockId) (r : LockRec) (b : Blocks) : (setLock k r b).now = b.now := rfl
@[simp] theorem setLock_notes (k : LockId) (r : LockRec) (b : Blocks) : (setLock k r b).notes = b.notes := rfl

/-! `setLink` -/

@[simp] theorem setLink_sil (i : Link) (r : LinkRec) (b : Blocks) : (setLink i r b).sil = b.sil := rfl
@[simp] theorem setLink_links (i : Link) (r : LinkRec) (b : Blocks) : (setLink i r b).links = b.links.set i r := rfl
@[simp] theorem setLink_iq (i : Link) (r : LinkRec) (b : Blocks) : (setLink i r b).iq = b.iq := rfl
@[simp] theorem setLink_cat (i : Link) (r : LinkRec) (b : Blocks) : (setLink i r b).cat = b.cat := rfl
@[simp] theorem setLink_slu (i : Link) (r : LinkRec) (b : Blocks) : (setLink i r b).slu = b.slu := rfl
@[simp] theorem setLink_rsq (i : Link) (r : LinkRec) (b : Blocks) : (setLink i r b).rsq = b.rsq := rfl
@[simp] theorem setLink_barriers (i : Link) (r : LinkRec) (b : Blocks) : (setLink i r b).barriers = b.barriers := rfl
@[simp] theorem setLink_leaves (i : Link) (r : LinkRec) (b : Blocks) : (setLink i r b).leaves = b.leaves := rfl
@[simp] theorem setLink_brakes (i : Link) (r : LinkRec) (b : Blocks) : (setLink i r b).brakes = b.brakes := rfl
@[simp] theorem setLink_locks (i : Link) (r : LinkRec) (b : Blocks) : (setLink i r b).locks = b.locks := rfl
@[simp] theorem setLink_seq (i : Link) (r : LinkRec) (b : Blocks) : (setLink i r b).seq = b.seq := rfl
@[simp] theorem setLink_nav (i : Link) (r : LinkRec) (b : Blocks) : (setLink i r b).nav = b.nav := rfl
@[simp] theorem setLink_wmn (i : Link) (r : LinkRec) (b : Blocks) : (setLink i r b).wmn = b.wmn := rfl
@[simp] theorem setLink_par (i : Link) (r : LinkRec) (b : Blocks) : (setLink i r b).par = b.par := rfl
@[simp] theorem setLink_pend (i : Link) (r : LinkRec) (b : Blocks) : (setLink i r b).pend = b.pend := rfl
@[simp] theorem setLink_presence (i : Link) (r : LinkRec) (b : Blocks) : (setLink i r b).presence = b.presence := rfl
@[simp] theorem setLink_presRanOut (i : Link) (r : LinkRec) (b : Blocks) : (setLink i r b).presRanOut = b.presRanOut := rfl
@[simp] theorem setLink_now (i : Link) (r : LinkRec) (b : Blocks) : (setLink i r b).now = b.now := rfl
@[simp] theorem setLink_notes (i : Link) (r : LinkRec) (b : Blocks) : (setLink i r b).notes = b.notes := rfl

/-! `note` -/

@[simp] theorem note_sil (n : Note) (b : Blocks) : (note n b).sil = b.sil := rfl
@[simp] theorem note_links (n : Note) (b : Blocks) : (note n b).links = b.links := rfl
@[simp] theorem note_iq (n : Note) (b : Blocks) : (note n b).iq = b.iq := rfl
@[simp] theorem note_cat (n : Note) (b : Blocks) : (note n b).cat = b.cat := rfl
@[simp] theorem note_slu (n : Note) (b : Blocks) : (note n b).slu = b.slu := rfl
@[simp] theorem note_rsq (n : Note) (b : Blocks) : (note n b).rsq = b.rsq := rfl
@[simp] theorem note_barriers (n : Note) (b : Blocks) : (note n b).barriers = b.barriers := rfl
@[simp] theorem note_leaves (n : Note) (b : Blocks) : (note n b).leaves = b.leaves := rfl
@[simp] theorem note_brakes (n : Note) (b : Blocks) : (note n b).brakes = b.brakes := rfl
@[simp] theorem note_locks (n : Note) (b : Blocks) : (note n b).locks = b.locks := rfl
@[simp] theorem note_seq (n : Note) (b : Blocks) : (note n b).seq = b.seq := rfl
@[simp] theorem note_nav (n : Note) (b : Blocks) : (note n b).nav = b.nav := rfl
@[simp] theorem note_wmn (n : Note) (b : Blocks) : (note n b).wmn = b.wmn := rfl
@[simp] theorem note_par (n : Note) (b : Blocks) : (note n b).par = b.par := rfl
@[simp] theorem note_pend (n : Note) (b : Blocks) : (note n b).pend = b.pend := rfl
@[simp] theorem note_presence (n : Note) (b : Blocks) : (note n b).presence = b.presence := rfl
@[simp] theorem note_presRanOut (n : Note) (b : Blocks) : (note n b).presRanOut = b.presRanOut := rfl
@[simp] theorem note_now (n : Note) (b : Blocks) : (note n b).now = b.now := rfl
@[simp] theorem note_notes (n : Note) (b : Blocks) : (note n b).notes = b.notes ++ [n] := rfl

/-! `setHeld` -/

@[simp] theorem setHeld_sil (c : HoldCause) (b : Blocks) : (setHeld c b).sil = { b.sil with held := true, cause := c } := rfl
@[simp] theorem setHeld_links (c : HoldCause) (b : Blocks) : (setHeld c b).links = b.links := rfl
@[simp] theorem setHeld_iq (c : HoldCause) (b : Blocks) : (setHeld c b).iq = b.iq := rfl
@[simp] theorem setHeld_cat (c : HoldCause) (b : Blocks) : (setHeld c b).cat = b.cat := rfl
@[simp] theorem setHeld_slu (c : HoldCause) (b : Blocks) : (setHeld c b).slu = b.slu := rfl
@[simp] theorem setHeld_rsq (c : HoldCause) (b : Blocks) : (setHeld c b).rsq = b.rsq := rfl
@[simp] theorem setHeld_barriers (c : HoldCause) (b : Blocks) : (setHeld c b).barriers = b.barriers := rfl
@[simp] theorem setHeld_leaves (c : HoldCause) (b : Blocks) : (setHeld c b).leaves = b.leaves := rfl
@[simp] theorem setHeld_brakes (c : HoldCause) (b : Blocks) : (setHeld c b).brakes = b.brakes := rfl
@[simp] theorem setHeld_locks (c : HoldCause) (b : Blocks) : (setHeld c b).locks = b.locks := rfl
@[simp] theorem setHeld_seq (c : HoldCause) (b : Blocks) : (setHeld c b).seq = b.seq := rfl
@[simp] theorem setHeld_nav (c : HoldCause) (b : Blocks) : (setHeld c b).nav = b.nav := rfl
@[simp] theorem setHeld_wmn (c : HoldCause) (b : Blocks) : (setHeld c b).wmn = b.wmn := rfl
@[simp] theorem setHeld_par (c : HoldCause) (b : Blocks) : (setHeld c b).par = b.par := rfl
@[simp] theorem setHeld_pend (c : HoldCause) (b : Blocks) : (setHeld c b).pend = b.pend := rfl
@[simp] theorem setHeld_presence (c : HoldCause) (b : Blocks) : (setHeld c b).presence = b.presence := rfl
@[simp] theorem setHeld_presRanOut (c : HoldCause) (b : Blocks) : (setHeld c b).presRanOut = b.presRanOut := rfl
@[simp] theorem setHeld_now (c : HoldCause) (b : Blocks) : (setHeld c b).now = b.now := rfl
@[simp] theorem setHeld_notes (c : HoldCause) (b : Blocks) : (setHeld c b).notes = b.notes := rfl

/-! `setPhase` -/

@[simp] theorem setPhase_sil (p : SpanPhase) (b : Blocks) : (setPhase p b).sil = { b.sil with phase := p } := rfl
@[simp] theorem setPhase_links (p : SpanPhase) (b : Blocks) : (setPhase p b).links = b.links := rfl
@[simp] theorem setPhase_iq (p : SpanPhase) (b : Blocks) : (setPhase p b).iq = b.iq := rfl
@[simp] theorem setPhase_cat (p : SpanPhase) (b : Blocks) : (setPhase p b).cat = b.cat := rfl
@[simp] theorem setPhase_slu (p : SpanPhase) (b : Blocks) : (setPhase p b).slu = b.slu := rfl
@[simp] theorem setPhase_rsq (p : SpanPhase) (b : Blocks) : (setPhase p b).rsq = b.rsq := rfl
@[simp] theorem setPhase_barriers (p : SpanPhase) (b : Blocks) : (setPhase p b).barriers = b.barriers := rfl
@[simp] theorem setPhase_leaves (p : SpanPhase) (b : Blocks) : (setPhase p b).leaves = b.leaves := rfl
@[simp] theorem setPhase_brakes (p : SpanPhase) (b : Blocks) : (setPhase p b).brakes = b.brakes := rfl
@[simp] theorem setPhase_locks (p : SpanPhase) (b : Blocks) : (setPhase p b).locks = b.locks := rfl
@[simp] theorem setPhase_seq (p : SpanPhase) (b : Blocks) : (setPhase p b).seq = b.seq := rfl
@[simp] theorem setPhase_nav (p : SpanPhase) (b : Blocks) : (setPhase p b).nav = b.nav := rfl
@[simp] theorem setPhase_wmn (p : SpanPhase) (b : Blocks) : (setPhase p b).wmn = b.wmn := rfl
@[simp] theorem setPhase_par (p : SpanPhase) (b : Blocks) : (setPhase p b).par = b.par := rfl
@[simp] theorem setPhase_pend (p : SpanPhase) (b : Blocks) : (setPhase p b).pend = b.pend := rfl
@[simp] theorem setPhase_presence (p : SpanPhase) (b : Blocks) : (setPhase p b).presence = b.presence := rfl
@[simp] theorem setPhase_presRanOut (p : SpanPhase) (b : Blocks) : (setPhase p b).presRanOut = b.presRanOut := rfl
@[simp] theorem setPhase_now (p : SpanPhase) (b : Blocks) : (setPhase p b).now = b.now := rfl
@[simp] theorem setPhase_notes (p : SpanPhase) (b : Blocks) : (setPhase p b).notes = b.notes := rfl

/-! `setOrder` -/

@[simp] theorem setOrder_sil (m : Option Movement) (b : Blocks) : (setOrder m b).sil = { b.sil with order := m } := rfl
@[simp] theorem setOrder_links (m : Option Movement) (b : Blocks) : (setOrder m b).links = b.links := rfl
@[simp] theorem setOrder_iq (m : Option Movement) (b : Blocks) : (setOrder m b).iq = b.iq := rfl
@[simp] theorem setOrder_cat (m : Option Movement) (b : Blocks) : (setOrder m b).cat = b.cat := rfl
@[simp] theorem setOrder_slu (m : Option Movement) (b : Blocks) : (setOrder m b).slu = b.slu := rfl
@[simp] theorem setOrder_rsq (m : Option Movement) (b : Blocks) : (setOrder m b).rsq = b.rsq := rfl
@[simp] theorem setOrder_barriers (m : Option Movement) (b : Blocks) : (setOrder m b).barriers = b.barriers := rfl
@[simp] theorem setOrder_leaves (m : Option Movement) (b : Blocks) : (setOrder m b).leaves = b.leaves := rfl
@[simp] theorem setOrder_brakes (m : Option Movement) (b : Blocks) : (setOrder m b).brakes = b.brakes := rfl
@[simp] theorem setOrder_locks (m : Option Movement) (b : Blocks) : (setOrder m b).locks = b.locks := rfl
@[simp] theorem setOrder_seq (m : Option Movement) (b : Blocks) : (setOrder m b).seq = b.seq := rfl
@[simp] theorem setOrder_nav (m : Option Movement) (b : Blocks) : (setOrder m b).nav = b.nav := rfl
@[simp] theorem setOrder_wmn (m : Option Movement) (b : Blocks) : (setOrder m b).wmn = b.wmn := rfl
@[simp] theorem setOrder_par (m : Option Movement) (b : Blocks) : (setOrder m b).par = b.par := rfl
@[simp] theorem setOrder_pend (m : Option Movement) (b : Blocks) : (setOrder m b).pend = b.pend := rfl
@[simp] theorem setOrder_presence (m : Option Movement) (b : Blocks) : (setOrder m b).presence = b.presence := rfl
@[simp] theorem setOrder_presRanOut (m : Option Movement) (b : Blocks) : (setOrder m b).presRanOut = b.presRanOut := rfl
@[simp] theorem setOrder_now (m : Option Movement) (b : Blocks) : (setOrder m b).now = b.now := rfl
@[simp] theorem setOrder_notes (m : Option Movement) (b : Blocks) : (setOrder m b).notes = b.notes := rfl

/-! `setOverrides` -/

@[simp] theorem setOverrides_sil (os : List Override) (b : Blocks) : (setOverrides os b).sil = { b.sil with overrides := os } := rfl
@[simp] theorem setOverrides_links (os : List Override) (b : Blocks) : (setOverrides os b).links = b.links := rfl
@[simp] theorem setOverrides_iq (os : List Override) (b : Blocks) : (setOverrides os b).iq = b.iq := rfl
@[simp] theorem setOverrides_cat (os : List Override) (b : Blocks) : (setOverrides os b).cat = b.cat := rfl
@[simp] theorem setOverrides_slu (os : List Override) (b : Blocks) : (setOverrides os b).slu = b.slu := rfl
@[simp] theorem setOverrides_rsq (os : List Override) (b : Blocks) : (setOverrides os b).rsq = b.rsq := rfl
@[simp] theorem setOverrides_barriers (os : List Override) (b : Blocks) : (setOverrides os b).barriers = b.barriers := rfl
@[simp] theorem setOverrides_leaves (os : List Override) (b : Blocks) : (setOverrides os b).leaves = b.leaves := rfl
@[simp] theorem setOverrides_brakes (os : List Override) (b : Blocks) : (setOverrides os b).brakes = b.brakes := rfl
@[simp] theorem setOverrides_locks (os : List Override) (b : Blocks) : (setOverrides os b).locks = b.locks := rfl
@[simp] theorem setOverrides_seq (os : List Override) (b : Blocks) : (setOverrides os b).seq = b.seq := rfl
@[simp] theorem setOverrides_nav (os : List Override) (b : Blocks) : (setOverrides os b).nav = b.nav := rfl
@[simp] theorem setOverrides_wmn (os : List Override) (b : Blocks) : (setOverrides os b).wmn = b.wmn := rfl
@[simp] theorem setOverrides_par (os : List Override) (b : Blocks) : (setOverrides os b).par = b.par := rfl
@[simp] theorem setOverrides_pend (os : List Override) (b : Blocks) : (setOverrides os b).pend = b.pend := rfl
@[simp] theorem setOverrides_presence (os : List Override) (b : Blocks) : (setOverrides os b).presence = b.presence := rfl
@[simp] theorem setOverrides_presRanOut (os : List Override) (b : Blocks) : (setOverrides os b).presRanOut = b.presRanOut := rfl
@[simp] theorem setOverrides_now (os : List Override) (b : Blocks) : (setOverrides os b).now = b.now := rfl
@[simp] theorem setOverrides_notes (os : List Override) (b : Blocks) : (setOverrides os b).notes = b.notes := rfl

/-! `changeOverrides` -/

@[simp] theorem changeOverrides_sil (os : List Override) (b : Blocks) : (changeOverrides os b).sil = { b.sil with overrides := os } := rfl
@[simp] theorem changeOverrides_links (os : List Override) (b : Blocks) : (changeOverrides os b).links = b.links := rfl
@[simp] theorem changeOverrides_iq (os : List Override) (b : Blocks) : (changeOverrides os b).iq = b.iq := rfl
@[simp] theorem changeOverrides_cat (os : List Override) (b : Blocks) : (changeOverrides os b).cat = b.cat := rfl
@[simp] theorem changeOverrides_slu (os : List Override) (b : Blocks) : (changeOverrides os b).slu = b.slu := rfl
@[simp] theorem changeOverrides_rsq (os : List Override) (b : Blocks) : (changeOverrides os b).rsq = b.rsq := rfl
@[simp] theorem changeOverrides_barriers (os : List Override) (b : Blocks) : (changeOverrides os b).barriers = b.barriers := rfl
@[simp] theorem changeOverrides_leaves (os : List Override) (b : Blocks) : (changeOverrides os b).leaves = b.leaves := rfl
@[simp] theorem changeOverrides_brakes (os : List Override) (b : Blocks) : (changeOverrides os b).brakes = b.brakes := rfl
@[simp] theorem changeOverrides_locks (os : List Override) (b : Blocks) : (changeOverrides os b).locks = b.locks := rfl
@[simp] theorem changeOverrides_seq (os : List Override) (b : Blocks) : (changeOverrides os b).seq = b.seq := rfl
@[simp] theorem changeOverrides_nav (os : List Override) (b : Blocks) : (changeOverrides os b).nav = b.nav := rfl
@[simp] theorem changeOverrides_wmn (os : List Override) (b : Blocks) : (changeOverrides os b).wmn = b.wmn := rfl
@[simp] theorem changeOverrides_par (os : List Override) (b : Blocks) : (changeOverrides os b).par = b.par := rfl
@[simp] theorem changeOverrides_pend (os : List Override) (b : Blocks) : (changeOverrides os b).pend = b.pend := rfl
@[simp] theorem changeOverrides_presence (os : List Override) (b : Blocks) : (changeOverrides os b).presence = b.presence := rfl
@[simp] theorem changeOverrides_presRanOut (os : List Override) (b : Blocks) : (changeOverrides os b).presRanOut = b.presRanOut := rfl
@[simp] theorem changeOverrides_now (os : List Override) (b : Blocks) : (changeOverrides os b).now = b.now := rfl
@[simp] theorem changeOverrides_notes (os : List Override) (b : Blocks) : (changeOverrides os b).notes = b.notes ++ [.span] := rfl

/-! `setRoadTimer` -/

@[simp] theorem setRoadTimer_sil (t : PhaseTimer) (b : Blocks) : (setRoadTimer t b).sil = b.sil := rfl
@[simp] theorem setRoadTimer_links (t : PhaseTimer) (b : Blocks) : (setRoadTimer t b).links = b.links := rfl
@[simp] theorem setRoadTimer_iq (t : PhaseTimer) (b : Blocks) : (setRoadTimer t b).iq = b.iq := rfl
@[simp] theorem setRoadTimer_cat (t : PhaseTimer) (b : Blocks) : (setRoadTimer t b).cat = b.cat := rfl
@[simp] theorem setRoadTimer_slu (t : PhaseTimer) (b : Blocks) : (setRoadTimer t b).slu = b.slu := rfl
@[simp] theorem setRoadTimer_rsq (t : PhaseTimer) (b : Blocks) : (setRoadTimer t b).rsq = { b.rsq with timer := t } := rfl
@[simp] theorem setRoadTimer_barriers (t : PhaseTimer) (b : Blocks) : (setRoadTimer t b).barriers = b.barriers := rfl
@[simp] theorem setRoadTimer_leaves (t : PhaseTimer) (b : Blocks) : (setRoadTimer t b).leaves = b.leaves := rfl
@[simp] theorem setRoadTimer_brakes (t : PhaseTimer) (b : Blocks) : (setRoadTimer t b).brakes = b.brakes := rfl
@[simp] theorem setRoadTimer_locks (t : PhaseTimer) (b : Blocks) : (setRoadTimer t b).locks = b.locks := rfl
@[simp] theorem setRoadTimer_seq (t : PhaseTimer) (b : Blocks) : (setRoadTimer t b).seq = b.seq := rfl
@[simp] theorem setRoadTimer_nav (t : PhaseTimer) (b : Blocks) : (setRoadTimer t b).nav = b.nav := rfl
@[simp] theorem setRoadTimer_wmn (t : PhaseTimer) (b : Blocks) : (setRoadTimer t b).wmn = b.wmn := rfl
@[simp] theorem setRoadTimer_par (t : PhaseTimer) (b : Blocks) : (setRoadTimer t b).par = b.par := rfl
@[simp] theorem setRoadTimer_pend (t : PhaseTimer) (b : Blocks) : (setRoadTimer t b).pend = b.pend := rfl
@[simp] theorem setRoadTimer_presence (t : PhaseTimer) (b : Blocks) : (setRoadTimer t b).presence = b.presence := rfl
@[simp] theorem setRoadTimer_presRanOut (t : PhaseTimer) (b : Blocks) : (setRoadTimer t b).presRanOut = b.presRanOut := rfl
@[simp] theorem setRoadTimer_now (t : PhaseTimer) (b : Blocks) : (setRoadTimer t b).now = b.now := rfl
@[simp] theorem setRoadTimer_notes (t : PhaseTimer) (b : Blocks) : (setRoadTimer t b).notes = b.notes := rfl

/-! `setClearance` -/

@[simp] theorem setClearance_sil (t : ClearanceTimer) (b : Blocks) : (setClearance t b).sil = b.sil := rfl
@[simp] theorem setClearance_links (t : ClearanceTimer) (b : Blocks) : (setClearance t b).links = b.links := rfl
@[simp] theorem setClearance_iq (t : ClearanceTimer) (b : Blocks) : (setClearance t b).iq = b.iq := rfl
@[simp] theorem setClearance_cat (t : ClearanceTimer) (b : Blocks) : (setClearance t b).cat = b.cat := rfl
@[simp] theorem setClearance_slu (t : ClearanceTimer) (b : Blocks) : (setClearance t b).slu = b.slu := rfl
@[simp] theorem setClearance_rsq (t : ClearanceTimer) (b : Blocks) : (setClearance t b).rsq = { b.rsq with clearance := t } := rfl
@[simp] theorem setClearance_barriers (t : ClearanceTimer) (b : Blocks) : (setClearance t b).barriers = b.barriers := rfl
@[simp] theorem setClearance_leaves (t : ClearanceTimer) (b : Blocks) : (setClearance t b).leaves = b.leaves := rfl
@[simp] theorem setClearance_brakes (t : ClearanceTimer) (b : Blocks) : (setClearance t b).brakes = b.brakes := rfl
@[simp] theorem setClearance_locks (t : ClearanceTimer) (b : Blocks) : (setClearance t b).locks = b.locks := rfl
@[simp] theorem setClearance_seq (t : ClearanceTimer) (b : Blocks) : (setClearance t b).seq = b.seq := rfl
@[simp] theorem setClearance_nav (t : ClearanceTimer) (b : Blocks) : (setClearance t b).nav = b.nav := rfl
@[simp] theorem setClearance_wmn (t : ClearanceTimer) (b : Blocks) : (setClearance t b).wmn = b.wmn := rfl
@[simp] theorem setClearance_par (t : ClearanceTimer) (b : Blocks) : (setClearance t b).par = b.par := rfl
@[simp] theorem setClearance_pend (t : ClearanceTimer) (b : Blocks) : (setClearance t b).pend = b.pend := rfl
@[simp] theorem setClearance_presence (t : ClearanceTimer) (b : Blocks) : (setClearance t b).presence = b.presence := rfl
@[simp] theorem setClearance_presRanOut (t : ClearanceTimer) (b : Blocks) : (setClearance t b).presRanOut = b.presRanOut := rfl
@[simp] theorem setClearance_now (t : ClearanceTimer) (b : Blocks) : (setClearance t b).now = b.now := rfl
@[simp] theorem setClearance_notes (t : ClearanceTimer) (b : Blocks) : (setClearance t b).notes = b.notes := rfl

/-! `setWait` -/

@[simp] theorem setWait_sil (w : ComplementWait) (b : Blocks) : (setWait w b).sil = b.sil := rfl
@[simp] theorem setWait_links (w : ComplementWait) (b : Blocks) : (setWait w b).links = b.links := rfl
@[simp] theorem setWait_iq (w : ComplementWait) (b : Blocks) : (setWait w b).iq = b.iq := rfl
@[simp] theorem setWait_cat (w : ComplementWait) (b : Blocks) : (setWait w b).cat = b.cat := rfl
@[simp] theorem setWait_slu (w : ComplementWait) (b : Blocks) : (setWait w b).slu = b.slu := rfl
@[simp] theorem setWait_rsq (w : ComplementWait) (b : Blocks) : (setWait w b).rsq = { b.rsq with wait := w } := rfl
@[simp] theorem setWait_barriers (w : ComplementWait) (b : Blocks) : (setWait w b).barriers = b.barriers := rfl
@[simp] theorem setWait_leaves (w : ComplementWait) (b : Blocks) : (setWait w b).leaves = b.leaves := rfl
@[simp] theorem setWait_brakes (w : ComplementWait) (b : Blocks) : (setWait w b).brakes = b.brakes := rfl
@[simp] theorem setWait_locks (w : ComplementWait) (b : Blocks) : (setWait w b).locks = b.locks := rfl
@[simp] theorem setWait_seq (w : ComplementWait) (b : Blocks) : (setWait w b).seq = b.seq := rfl
@[simp] theorem setWait_nav (w : ComplementWait) (b : Blocks) : (setWait w b).nav = b.nav := rfl
@[simp] theorem setWait_wmn (w : ComplementWait) (b : Blocks) : (setWait w b).wmn = b.wmn := rfl
@[simp] theorem setWait_par (w : ComplementWait) (b : Blocks) : (setWait w b).par = b.par := rfl
@[simp] theorem setWait_pend (w : ComplementWait) (b : Blocks) : (setWait w b).pend = b.pend := rfl
@[simp] theorem setWait_presence (w : ComplementWait) (b : Blocks) : (setWait w b).presence = b.presence := rfl
@[simp] theorem setWait_presRanOut (w : ComplementWait) (b : Blocks) : (setWait w b).presRanOut = b.presRanOut := rfl
@[simp] theorem setWait_now (w : ComplementWait) (b : Blocks) : (setWait w b).now = b.now := rfl
@[simp] theorem setWait_notes (w : ComplementWait) (b : Blocks) : (setWait w b).notes = b.notes := rfl

/-! `setStep` -/

@[simp] theorem setStep_sil (p : PendingStep) (b : Blocks) : (setStep p b).sil = b.sil := rfl
@[simp] theorem setStep_links (p : PendingStep) (b : Blocks) : (setStep p b).links = b.links := rfl
@[simp] theorem setStep_iq (p : PendingStep) (b : Blocks) : (setStep p b).iq = b.iq := rfl
@[simp] theorem setStep_cat (p : PendingStep) (b : Blocks) : (setStep p b).cat = b.cat := rfl
@[simp] theorem setStep_slu (p : PendingStep) (b : Blocks) : (setStep p b).slu = b.slu := rfl
@[simp] theorem setStep_rsq (p : PendingStep) (b : Blocks) : (setStep p b).rsq = { b.rsq with step := p } := rfl
@[simp] theorem setStep_barriers (p : PendingStep) (b : Blocks) : (setStep p b).barriers = b.barriers := rfl
@[simp] theorem setStep_leaves (p : PendingStep) (b : Blocks) : (setStep p b).leaves = b.leaves := rfl
@[simp] theorem setStep_brakes (p : PendingStep) (b : Blocks) : (setStep p b).brakes = b.brakes := rfl
@[simp] theorem setStep_locks (p : PendingStep) (b : Blocks) : (setStep p b).locks = b.locks := rfl
@[simp] theorem setStep_seq (p : PendingStep) (b : Blocks) : (setStep p b).seq = b.seq := rfl
@[simp] theorem setStep_nav (p : PendingStep) (b : Blocks) : (setStep p b).nav = b.nav := rfl
@[simp] theorem setStep_wmn (p : PendingStep) (b : Blocks) : (setStep p b).wmn = b.wmn := rfl
@[simp] theorem setStep_par (p : PendingStep) (b : Blocks) : (setStep p b).par = b.par := rfl
@[simp] theorem setStep_pend (p : PendingStep) (b : Blocks) : (setStep p b).pend = b.pend := rfl
@[simp] theorem setStep_presence (p : PendingStep) (b : Blocks) : (setStep p b).presence = b.presence := rfl
@[simp] theorem setStep_presRanOut (p : PendingStep) (b : Blocks) : (setStep p b).presRanOut = b.presRanOut := rfl
@[simp] theorem setStep_now (p : PendingStep) (b : Blocks) : (setStep p b).now = b.now := rfl
@[simp] theorem setStep_notes (p : PendingStep) (b : Blocks) : (setStep p b).notes = b.notes := rfl

/-! `setLamp` -/

@[simp] theorem setLamp_sil (g : Lamp) (r : LampRec) (b : Blocks) : (setLamp g r b).sil = b.sil := rfl
@[simp] theorem setLamp_links (g : Lamp) (r : LampRec) (b : Blocks) : (setLamp g r b).links = b.links := rfl
@[simp] theorem setLamp_iq (g : Lamp) (r : LampRec) (b : Blocks) : (setLamp g r b).iq = b.iq := rfl
@[simp] theorem setLamp_cat (g : Lamp) (r : LampRec) (b : Blocks) : (setLamp g r b).cat = b.cat := rfl
@[simp] theorem setLamp_rsq (g : Lamp) (r : LampRec) (b : Blocks) : (setLamp g r b).rsq = b.rsq := rfl
@[simp] theorem setLamp_barriers (g : Lamp) (r : LampRec) (b : Blocks) : (setLamp g r b).barriers = b.barriers := rfl
@[simp] theorem setLamp_leaves (g : Lamp) (r : LampRec) (b : Blocks) : (setLamp g r b).leaves = b.leaves := rfl
@[simp] theorem setLamp_brakes (g : Lamp) (r : LampRec) (b : Blocks) : (setLamp g r b).brakes = b.brakes := rfl
@[simp] theorem setLamp_locks (g : Lamp) (r : LampRec) (b : Blocks) : (setLamp g r b).locks = b.locks := rfl
@[simp] theorem setLamp_seq (g : Lamp) (r : LampRec) (b : Blocks) : (setLamp g r b).seq = b.seq := rfl
@[simp] theorem setLamp_nav (g : Lamp) (r : LampRec) (b : Blocks) : (setLamp g r b).nav = b.nav := rfl
@[simp] theorem setLamp_wmn (g : Lamp) (r : LampRec) (b : Blocks) : (setLamp g r b).wmn = b.wmn := rfl
@[simp] theorem setLamp_par (g : Lamp) (r : LampRec) (b : Blocks) : (setLamp g r b).par = b.par := rfl
@[simp] theorem setLamp_pend (g : Lamp) (r : LampRec) (b : Blocks) : (setLamp g r b).pend = b.pend := rfl
@[simp] theorem setLamp_presence (g : Lamp) (r : LampRec) (b : Blocks) : (setLamp g r b).presence = b.presence := rfl
@[simp] theorem setLamp_presRanOut (g : Lamp) (r : LampRec) (b : Blocks) : (setLamp g r b).presRanOut = b.presRanOut := rfl
@[simp] theorem setLamp_now (g : Lamp) (r : LampRec) (b : Blocks) : (setLamp g r b).now = b.now := rfl
@[simp] theorem setLamp_notes (g : Lamp) (r : LampRec) (b : Blocks) : (setLamp g r b).notes = b.notes := rfl

@[simp] theorem lampRec_setLamp_same (g : Lamp) (r : LampRec) (b : Blocks) : lampRec (setLamp g r b) g = r := by
  exact Vector.getElem_set_self (xs := b.slu.lamps) (lampIndex g).isLt

/-! `mapInputs` -/

@[simp] theorem mapInputs_sil (h : Fin 41 → InputRec → InputRec) (b : Blocks) : (mapInputs h b).sil = b.sil := by simp only [mapInputs]
@[simp] theorem mapInputs_links (h : Fin 41 → InputRec → InputRec) (b : Blocks) : (mapInputs h b).links = b.links := by simp only [mapInputs]
@[simp] theorem mapInputs_cat (h : Fin 41 → InputRec → InputRec) (b : Blocks) : (mapInputs h b).cat = b.cat := by simp only [mapInputs]
@[simp] theorem mapInputs_slu (h : Fin 41 → InputRec → InputRec) (b : Blocks) : (mapInputs h b).slu = b.slu := by simp only [mapInputs]
@[simp] theorem mapInputs_rsq (h : Fin 41 → InputRec → InputRec) (b : Blocks) : (mapInputs h b).rsq = b.rsq := by simp only [mapInputs]
@[simp] theorem mapInputs_barriers (h : Fin 41 → InputRec → InputRec) (b : Blocks) : (mapInputs h b).barriers = b.barriers := by simp only [mapInputs]
@[simp] theorem mapInputs_leaves (h : Fin 41 → InputRec → InputRec) (b : Blocks) : (mapInputs h b).leaves = b.leaves := by simp only [mapInputs]
@[simp] theorem mapInputs_brakes (h : Fin 41 → InputRec → InputRec) (b : Blocks) : (mapInputs h b).brakes = b.brakes := by simp only [mapInputs]
@[simp] theorem mapInputs_locks (h : Fin 41 → InputRec → InputRec) (b : Blocks) : (mapInputs h b).locks = b.locks := by simp only [mapInputs]
@[simp] theorem mapInputs_seq (h : Fin 41 → InputRec → InputRec) (b : Blocks) : (mapInputs h b).seq = b.seq := by simp only [mapInputs]
@[simp] theorem mapInputs_nav (h : Fin 41 → InputRec → InputRec) (b : Blocks) : (mapInputs h b).nav = b.nav := by simp only [mapInputs]
@[simp] theorem mapInputs_wmn (h : Fin 41 → InputRec → InputRec) (b : Blocks) : (mapInputs h b).wmn = b.wmn := by simp only [mapInputs]
@[simp] theorem mapInputs_par (h : Fin 41 → InputRec → InputRec) (b : Blocks) : (mapInputs h b).par = b.par := by simp only [mapInputs]
@[simp] theorem mapInputs_pend (h : Fin 41 → InputRec → InputRec) (b : Blocks) : (mapInputs h b).pend = b.pend := by simp only [mapInputs]
@[simp] theorem mapInputs_presence (h : Fin 41 → InputRec → InputRec) (b : Blocks) : (mapInputs h b).presence = b.presence := by simp only [mapInputs]
@[simp] theorem mapInputs_presRanOut (h : Fin 41 → InputRec → InputRec) (b : Blocks) : (mapInputs h b).presRanOut = b.presRanOut := by simp only [mapInputs]
@[simp] theorem mapInputs_now (h : Fin 41 → InputRec → InputRec) (b : Blocks) : (mapInputs h b).now = b.now := by simp only [mapInputs]
@[simp] theorem mapInputs_notes (h : Fin 41 → InputRec → InputRec) (b : Blocks) : (mapInputs h b).notes = b.notes := by simp only [mapInputs]

@[simp] theorem mapInputs_get (h : Fin 41 → InputRec → InputRec) (b : Blocks) (i : Fin 41) :
    (mapInputs h b).iq.recs.get i = h i (b.iq.recs.get i) := by
  exact Vector.getElem_ofFn (f := fun i => h i (b.iq.recs.get i)) i.isLt

end Sys2Proof.Machine
end

