-- ==== Sys2Proof/Laws/Frames.lean ====
section
/-! SUPPORT. The frames of the shared operations: which records of the blocks each of them can change, and how frames
compose. -/

namespace Sys2Proof.Machine

open Sys2Proof.Safety

/-! ## Frames compose -/

theorem sameBut_refl (fs : List BlockField) (a : Blocks) : SameBut fs a a := by
  intro f _
  cases f <;> rfl

theorem sameBut_trans {fs : List BlockField} {a b c : Blocks} (h : SameBut fs a b) (k : SameBut fs b c) :
    SameBut fs a c := by
  intro f hf
  have h1 := h f hf
  have h2 := k f hf
  cases f <;> exact h2.trans h1

theorem sameBut_mono {fs gs : List BlockField} {a b : Blocks} (h : SameBut fs a b) (hs : ∀ f ∈ fs, f ∈ gs) :
    SameBut gs a b := fun f hf => h f fun hm => hf (hs f hm)

/-- A fold of operations that keep a frame keeps it. -/
theorem sameBut_foldl {α : Type} {fs : List BlockField} (op : Blocks → α → Blocks)
    (h : ∀ b x, SameBut fs b (op b x)) : ∀ (xs : List α) (b : Blocks), SameBut fs b (xs.foldl op b)
  | [], b => sameBut_refl fs b
  | x :: xs, b => sameBut_trans (h b x) (sameBut_foldl op h xs (op b x))

/-! ## A record written back as it stands -/

theorem setLeaf_self (l : LeafId) (b : Blocks) : setLeaf l (b.leaves.get l) b = b := by cases l <;> rfl

theorem setBrake_self (l : LeafId) (b : Blocks) : setBrake l (b.brakes.get l) b = b := by cases l <;> rfl

theorem setBarrier_self (i : BarrierId) (b : Blocks) : setBarrier i (b.barriers.get i) b = b := by cases i <;> rfl

theorem setLock_self (k : LockId) (b : Blocks) : setLock k (b.locks.get k) b = b := by cases k <;> rfl

theorem setLink_self (l : Link) (b : Blocks) : setLink l (b.links.get l) b = b := by cases l <;> rfl

/-! ## One record -/

theorem setLeaf_sameBut (l : LeafId) (r : LeafRec) (b : Blocks) : SameBut [.leaves] b (setLeaf l r b) := by
  intro f hf
  cases f <;> first | rfl | exact absurd (by decide) hf

theorem setMot_sameBut (l : LeafId) (r : MotionRec) (b : Blocks) : SameBut [.leaves] b (setMot l r b) := by
  intro f hf
  cases f <;> first | rfl | exact absurd (by decide) hf

theorem setPos_sameBut (l : LeafId) (r : PositionRec) (b : Blocks) : SameBut [.leaves] b (setPos l r b) := by
  intro f hf
  cases f <;> first | rfl | exact absurd (by decide) hf

theorem setWin_sameBut (l : LeafId) (r : SpeedRec) (b : Blocks) : SameBut [.leaves] b (setWin l r b) := by
  intro f hf
  cases f <;> first | rfl | exact absurd (by decide) hf

theorem setFlt_sameBut (l : LeafId) (r : FaultRec) (b : Blocks) : SameBut [.leaves] b (setFlt l r b) := by
  intro f hf
  cases f <;> first | rfl | exact absurd (by decide) hf

theorem setBrake_sameBut (l : LeafId) (r : BrakeRec) (b : Blocks) : SameBut [.brakes] b (setBrake l r b) := by
  intro f hf
  cases f <;> first | rfl | exact absurd (by decide) hf

theorem setBarrier_sameBut (i : BarrierId) (r : BarrierRec) (b : Blocks) : SameBut [.barriers] b (setBarrier i r b) := by
  intro f hf
  cases f <;> first | rfl | exact absurd (by decide) hf

theorem setLock_sameBut (k : LockId) (r : LockRec) (b : Blocks) : SameBut [.locks] b (setLock k r b) := by
  intro f hf
  cases f <;> first | rfl | exact absurd (by decide) hf

theorem setLink_sameBut (i : Link) (r : LinkRec) (b : Blocks) : SameBut [.links] b (setLink i r b) := by
  intro f hf
  cases f <;> first | rfl | exact absurd (by decide) hf

theorem setLamp_sameBut (g : Lamp) (r : LampRec) (b : Blocks) : SameBut [.slu] b (setLamp g r b) := by
  intro f hf
  cases f <;> first | rfl | exact absurd (by decide) hf

theorem note_sameBut (n : Note) (b : Blocks) : SameBut [.notes] b (note n b) := by
  intro f hf
  cases f <;> first | rfl | exact absurd (by decide) hf

theorem setHeld_sameBut (c : HoldCause) (b : Blocks) : SameBut [.sil] b (setHeld c b) := by
  intro f hf
  cases f <;> first | rfl | exact absurd (by decide) hf

theorem setNext_sameBut (m : Option Movement) (b : Blocks) : SameBut [.leaves] b (setNext m b) := by
  intro f hf
  cases f <;> first | rfl | exact absurd (by decide) hf

theorem showPhase_sameBut (p : RoadPhase) (c : AlertCause) (b : Blocks) : SameBut [.rsq, .slu] b (showPhase p c b) := by
  intro f hf
  cases f <;> first | rfl | exact absurd (by decide) hf

theorem setRoadTimer_sameBut (t : PhaseTimer) (b : Blocks) : SameBut [.rsq] b (setRoadTimer t b) := by
  intro f hf
  cases f <;> first | rfl | exact absurd (by decide) hf

theorem setClearance_sameBut (t : ClearanceTimer) (b : Blocks) : SameBut [.rsq] b (setClearance t b) := by
  intro f hf
  cases f <;> first | rfl | exact absurd (by decide) hf

theorem setWait_sameBut (w : ComplementWait) (b : Blocks) : SameBut [.rsq] b (setWait w b) := by
  intro f hf
  cases f <;> first | rfl | exact absurd (by decide) hf

theorem setStep_sameBut (p : PendingStep) (b : Blocks) : SameBut [.rsq] b (setStep p b) := by
  intro f hf
  cases f <;> first | rfl | exact absurd (by decide) hf

theorem setPhase_sameBut (p : SpanPhase) (b : Blocks) : SameBut [.sil] b (setPhase p b) := by
  intro f hf
  cases f <;> first | rfl | exact absurd (by decide) hf

theorem setOrder_sameBut (m : Option Movement) (b : Blocks) : SameBut [.sil] b (setOrder m b) := by
  intro f hf
  cases f <;> first | rfl | exact absurd (by decide) hf

theorem startSequence_sameBut (q : LockSequence) (b : Blocks) : SameBut [.seq, .notes] b (startSequence q b) := by
  intro f hf
  unfold startSequence
  dsimp only
  split
  · cases f <;> rfl
  · cases f <;> first | rfl | exact absurd (by decide) hf

theorem applyPendingSpeeds_sameBut (b : Blocks) : SameBut [.par, .pend] b (applyPendingSpeeds b) := by
  intro f hf
  cases f <;> first | rfl | exact absurd (by decide) hf

theorem applyCadence_sameBut (b : Blocks) : SameBut [.par, .pend] b (applyCadence b) := by
  intro f hf
  cases f <;> first | rfl | exact absurd (by decide) hf

theorem dissolveGroup_sameBut (b : Blocks) : SameBut [.nav] b (dissolveGroup b) := by
  intro f hf
  cases f <;> first | rfl | exact absurd (by decide) hf

theorem formGroup_sameBut (passage newOpening : Bool) (b : Blocks) : SameBut [.nav, .par, .pend, .notes] b (formGroup passage newOpening b) := by
  intro f hf
  cases f <;> first | rfl | exact absurd (by decide) hf

/-- A selection of an aspect changes the navigation record, and notes a change. -/
theorem selectAspect_sameBut (b : Blocks) (d : Dir) : SameBut [.nav, .notes] b (selectAspect b d) := by
  unfold selectAspect
  dsimp only
  split
  · exact sameBut_refl _ b
  · intro f hf
    cases f <;> first | rfl | exact absurd (by decide) hf

theorem selectAspects_sameBut (b : Blocks) : SameBut [.nav, .notes] b (selectAspects b) :=
  sameBut_trans (selectAspect_sameBut b .inbound) (selectAspect_sameBut _ .outbound)

theorem clearVessel_sameBut (v : Vessel) (b : Blocks) : SameBut [.nav, .par, .pend, .notes] b (clearVessel v b) := by
  unfold clearVessel
  refine sameBut_trans ?_ (sameBut_mono (selectAspects_sameBut _) (by decide))
  intro f hf
  cases f <;> first | rfl | exact absurd (by decide) hf

theorem recordCount_sameBut (l : LeafId) (forward : Bool) (b : Blocks) : SameBut [.leaves] b (recordCount l forward b) := by
  intro f hf
  cases f <;> first | rfl | exact absurd (by decide) hf

theorem onWind_sameBut (g : Params → Wmn → Wmn) (b : Blocks) : SameBut [.wmn] b (onWind g b) := by
  intro f hf
  cases f <;> first | rfl | exact absurd (by decide) hf

theorem stoppingUpdate_sameBut (l : LeafId) (b : Blocks) : SameBut [.leaves] b (stoppingUpdate l b) := by
  intro f hf
  cases f <;> first | rfl | exact absurd (by decide) hf

theorem raiseArrive_sameBut (l : LeafId) (b : Blocks) : SameBut [.leaves] b (raiseArrive l b) := by
  intro f hf
  cases f <;> first | rfl | exact absurd (by decide) hf

theorem startGenerator_sameBut (b : Blocks) : SameBut [.slu, .par, .pend] b (startGenerator b) := by
  intro f hf
  cases f <;> first | rfl | exact absurd (by decide) hf

theorem stopGenerator_sameBut (b : Blocks) : SameBut [.slu] b (stopGenerator b) := by
  intro f hf
  cases f <;> first | rfl | exact absurd (by decide) hf

theorem mapInputs_sameBut (g : Fin 41 → InputRec → InputRec) (b : Blocks) : SameBut [.iq] b (mapInputs g b) := by
  intro f hf
  cases f
  case iq => exact absurd (by decide) hf
  all_goals simp only [BlockField.same, mapInputs]

/-! ## Brakes and leaves -/

theorem brakeSetRequest_sameBut (l : LeafId) (b : Blocks) : SameBut [.brakes] b (brakeSetRequest l b) := by
  unfold brakeSetRequest
  dsimp only
  repeat' split
  all_goals first | exact setBrake_sameBut _ _ b | exact sameBut_refl _ b

theorem stopLeaf_sameBut (l : LeafId) (b : Blocks) : SameBut [.leaves] b (stopLeaf l b) := by
  unfold stopLeaf
  dsimp only
  repeat' split
  all_goals first | exact setMot_sameBut _ _ b | exact sameBut_refl _ b

theorem stopLeaves_sameBut (b : Blocks) : SameBut [.leaves] b (stopLeaves b) :=
  sameBut_trans (stopLeaf_sameBut .north b) (stopLeaf_sameBut .south _)

/-- A fault finding changes the leaves and the brakes alone. -/
theorem leafFault_sameBut (l : LeafId) (k : LeafFault) (b : Blocks) :
    SameBut [.leaves, .brakes] b (leafFault l k b) := by
  unfold leafFault
  split
  · dsimp only
    split
    · split
      · exact sameBut_refl _ b
      · exact sameBut_mono (setFlt_sameBut _ _ b) (by decide)
    · exact sameBut_trans (sameBut_mono (setLeaf_sameBut _ _ b) (by decide))
        (sameBut_trans (sameBut_mono (brakeSetRequest_sameBut _ _) (by decide))
          (sameBut_mono (stopLeaf_sameBut _ _) (by decide)))
  · exact sameBut_refl _ b

/-- A fault finding outside OPERATE does nothing. -/
theorem leafFault_outside (l : LeafId) (k : LeafFault) (b : Blocks) (h : b.sil.mode ≠ .operate) :
    leafFault l k b = b := by simp [leafFault, h]

theorem brakeReleaseRequest_sameBut (l : LeafId) (b : Blocks) : SameBut [.brakes] b ((brakeReleaseRequest l b).1) := by
  unfold brakeReleaseRequest
  dsimp only
  repeat' split
  all_goals first | exact setBrake_sameBut _ _ b | exact sameBut_refl _ b

theorem releaseIf_sameBut (taking : Bool) (l : LeafId) (b : Blocks) :
    SameBut [.brakes] b (releaseIf taking l b).1 := by
  unfold releaseIf
  split
  · exact brakeReleaseRequest_sameBut l b
  · exact sameBut_refl _ b

/-- The start of a movement changes the leaves, their brakes and the two pending speeds. -/
theorem startMovement_sameBut (m : Movement) (b : Blocks) :
    SameBut [.leaves, .brakes, .par, .pend] b (startMovement m b) := by
  have hf : ∀ (l : LeafId) (k : LeafFault) (x : Blocks), SameBut [.leaves, .brakes, .par, .pend] x (leafFault l k x) :=
    fun l k x => sameBut_mono (leafFault_sameBut l k x) (by decide)
  have hi : ∀ (t : Bool) (l : LeafId) (k : LeafFault) (x : Blocks),
      SameBut [.leaves, .brakes, .par, .pend] x (if t = true then leafFault l k x else x) := by
    intro t l k x
    split
    · exact hf l k x
    · exact sameBut_refl _ x
  have hr : ∀ (t : Bool) (l : LeafId) (x : Blocks), SameBut [.leaves, .brakes, .par, .pend] x (releaseIf t l x).1 :=
    fun t l x => sameBut_mono (releaseIf_sameBut t l x) (by decide)
  unfold startMovement
  dsimp only
  refine sameBut_trans (b := { (if takesPart b .north m || takesPart b .south m then applyPendingSpeeds b else b) with
    leaves := ⟨b.leaves.north.atStart m (targetCounts b .north m) (takesPart b .north m),
      b.leaves.south.atStart m (targetCounts b .south m) (takesPart b .south m)⟩ }) ?_ ?_
  · split
    all_goals
      intro f hf'
      cases f <;> first | rfl | exact absurd (by decide) hf'
  · exact sameBut_trans (hr (takesPart b .north m) .north _)
      (sameBut_trans (hr (takesPart b .south m) .south _) (sameBut_trans (hi _ .north .brakeNotReleased _)
        (hi _ .south .brakeNotReleased _)))

theorem directMovement_sameBut (m : Movement) (b : Blocks) :
    SameBut [.leaves, .brakes, .par, .pend] b (directMovement m b) := by
  unfold directMovement
  split
  · exact sameBut_mono (setNext_sameBut _ b) (by decide)
  · exact startMovement_sameBut m b

theorem judgeRaiseArrival_sameBut (l : LeafId) (b : Blocks) : SameBut [.leaves] b (judgeRaiseArrival l b) := by
  unfold judgeRaiseArrival
  dsimp only
  split
  all_goals first | exact raiseArrive_sameBut _ b | exact sameBut_refl _ b

theorem leafRest_sameBut (l : LeafId) (b : Blocks) : SameBut [.leaves] b (leafRest l b) := by
  unfold leafRest
  dsimp only
  repeat' split
  all_goals first | exact setLeaf_sameBut _ _ b | exact sameBut_refl _ b

theorem applyCeiling_sameBut (l : LeafId) (b : Blocks) : SameBut [.leaves] b (applyCeiling l b) := by
  unfold applyCeiling
  dsimp only
  repeat' split
  all_goals first | exact setMot_sameBut _ _ b | exact sameBut_refl _ b

theorem findingIf_sameBut (failed : Bool) (l : LeafId) (k : LeafFault) (b : Blocks) :
    SameBut [.leaves, .brakes] b (findingIf failed l k b) := by
  unfold findingIf
  split
  · exact leafFault_sameBut l k b
  · exact sameBut_refl _ b

theorem skewFinding_sameBut (judged : Blocks) (failed : Bool) (b : Blocks) :
    SameBut [.leaves, .brakes] b (skewFinding judged failed b) := by
  unfold skewFinding
  dsimp only
  split <;> split
  · exact sameBut_trans (leafFault_sameBut _ _ _) (leafFault_sameBut _ _ _)
  · exact leafFault_sameBut _ _ _
  · exact leafFault_sameBut _ _ _
  · exact sameBut_refl _ b

theorem superviseSkew_sameBut (b : Blocks) : SameBut [.leaves, .brakes] b (superviseSkew b) :=
  skewFinding_sameBut b _ b

theorem movingUpdate_sameBut (l : LeafId) (b : Blocks) : SameBut [.leaves, .brakes] b (movingUpdate l b) := by
  unfold movingUpdate
  dsimp only
  split
  · exact sameBut_trans (sameBut_mono (setLeaf_sameBut _ _ b) (by decide))
      (sameBut_mono (raiseArrive_sameBut _ _) (by decide))
  · split
    · exact sameBut_trans (sameBut_mono (setMot_sameBut _ _ b) (by decide)) (skewFinding_sameBut _ _ _)
    · exact sameBut_mono (setLeaf_sameBut _ _ b) (by decide)

/-- One update changes the leaves and, at a skew finding, the brakes. -/
theorem leafUpdate_sameBut (l : LeafId) (b : Blocks) : SameBut [.leaves, .brakes] b (leafUpdate l b) := by
  unfold leafUpdate
  split
  · exact movingUpdate_sameBut l b
  · exact sameBut_mono (stoppingUpdate_sameBut l b) (by decide)
  all_goals exact sameBut_refl _ b

theorem enterMoving_sameBut (l : LeafId) (b : Blocks) : SameBut [.leaves] b (enterMoving l b) := by
  unfold enterMoving
  dsimp only
  split
  · exact setMot_sameBut _ _ b
  · exact sameBut_refl _ b

theorem firstUpdate_sameBut (was : LeafState) (l : LeafId) (b : Blocks) :
    SameBut [.leaves, .brakes] b (firstUpdate was l b) := by
  unfold firstUpdate
  split
  · exact leafUpdate_sameBut l b
  · exact sameBut_refl _ b

theorem profileStart_sameBut (b : Blocks) : SameBut [.leaves, .brakes] b (profileStart b) := by
  unfold profileStart
  dsimp only
  split
  · split
    · have first : SameBut [.leaves, .brakes] b (if leafState b .north = .releasing then leafFault .north .skew b else b) := by
        split
        · exact leafFault_sameBut _ _ b
        · exact sameBut_refl _ b
      split
      · exact sameBut_trans first (leafFault_sameBut _ _ _)
      · exact first
    · exact sameBut_trans (sameBut_mono (sameBut_trans (enterMoving_sameBut .north b) (enterMoving_sameBut .south _)) (by decide))
        (sameBut_trans (firstUpdate_sameBut _ .north _) (firstUpdate_sameBut _ .south _))
  · exact sameBut_refl _ b

theorem loseCertainty_sameBut (l : LeafId) (b : Blocks) : SameBut [.leaves] b (loseCertainty l b) := by
  intro f hf
  cases f <;> first | rfl | exact absurd (by decide) hf

theorem applyCount_sameBut (l : LeafId) (forward : Bool) (b : Blocks) :
    SameBut [.leaves] b (applyCount l forward b) := by
  unfold applyCount
  split
  · exact sameBut_refl _ b
  · generalize (if forward = true then (1 : Int) else -1) = step
    dsimp only
    split
    · exact setPos_sameBut _ _ b
    · exact sameBut_trans (setPos_sameBut _ _ b) (loseCertainty_sameBut _ _)

/-- One legal encoder step changes the leaves and, at a finding, the brakes. -/
theorem leafCount_sameBut (l : LeafId) (forward : Bool) (b : Blocks) :
    SameBut [.leaves, .brakes] b (leafCount l forward b) :=
  sameBut_trans (sameBut_mono (recordCount_sameBut l forward b) (by decide))
    (sameBut_trans (sameBut_mono (applyCount_sameBut l forward _) (by decide))
      (sameBut_trans (findingIf_sameBut _ l .wrongDirection _)
        (sameBut_trans (skewFinding_sameBut _ _ _) (findingIf_sameBut _ l .seatNotFound _))))

/-! ## Locks -/

theorem lockCommand_sameBut (k : LockId) (c : LockCmd) (b : Blocks) : SameBut [.locks] b (lockCommand k c b) := by
  unfold lockCommand
  dsimp only
  split
  case h_5 => split <;> exact setLock_sameBut _ _ b
  all_goals exact setLock_sameBut _ _ b

theorem lockInterrupt_sameBut (k : LockId) (b : Blocks) : SameBut [.locks] b (lockInterrupt k b) := by
  unfold lockInterrupt
  dsimp only
  repeat' split
  all_goals first | exact setLock_sameBut _ _ b | exact sameBut_refl _ b

theorem judgeLock_sameBut (k : LockId) (b : Blocks) : SameBut [.locks] b (judgeLock k b) := by
  unfold judgeLock
  dsimp only
  repeat' split
  all_goals first | exact setLock_sameBut _ _ b | exact sameBut_refl _ b

theorem interruptLocks_sameBut (b : Blocks) : SameBut [.locks] b (interruptLocks b) :=
  sameBut_trans (lockInterrupt_sameBut .centre b)
    (sameBut_trans (lockInterrupt_sameBut .northTail _) (lockInterrupt_sameBut .southTail _))

theorem commandStep_sameBut (b : Blocks) : SameBut [.locks] b (commandStep b) := by
  unfold commandStep
  refine sameBut_foldl _ (fun x k => ?_) _ b
  unfold commandUnlessFault
  dsimp only
  split
  · exact sameBut_refl _ x
  · exact lockCommand_sameBut k _ x

theorem advanceSecond_sameBut (b : Blocks) : SameBut [.locks, .seq] b (advanceSecond b) := by
  unfold advanceSecond
  split
  · intro f hf
    cases f <;> first | rfl | exact absurd (by decide) hf
  · exact sameBut_mono (commandStep_sameBut b) (by decide)

/-- An advance of the sequence changes the locks and the sequence record. -/
theorem advanceSequence_sameBut (b : Blocks) : SameBut [.locks, .seq] b (advanceSequence b) := by
  unfold advanceSequence
  split
  · split
    · exact advanceSecond_sameBut b
    · split
      · refine sameBut_trans (b := { b with seq := { b.seq with step := secondStep b.seq.sequence } }) ?_
          (advanceSecond_sameBut _)
        intro f hf
        cases f <;> first | rfl | exact absurd (by decide) hf
      · exact sameBut_mono (commandStep_sameBut b) (by decide)
  · exact sameBut_refl _ b

theorem resumeLocks_sameBut (b : Blocks) : SameBut [.locks] b (resumeLocks b) := by
  unfold resumeLocks
  refine sameBut_foldl _ (fun x k => ?_) _ b
  unfold resumeLock
  dsimp only
  split
  · exact lockCommand_sameBut k _ x
  · exact sameBut_refl _ x

/-! ## The road -/

theorem barrierMove_sameBut (i : BarrierId) (c : BarrierCmd) (b : Blocks) :
    SameBut [.barriers] b (barrierMove i c b) := by
  unfold barrierMove
  dsimp only
  split
  case h_7 => split <;> exact setBarrier_sameBut _ _ b
  all_goals exact setBarrier_sameBut _ _ b

theorem barrierStop_sameBut (i : BarrierId) (b : Blocks) : SameBut [.barriers] b (barrierStop i b) := by
  unfold barrierStop
  dsimp only
  split
  case h_5 => exact sameBut_refl _ b
  all_goals exact setBarrier_sameBut _ _ b

/-- A command changes the barriers' records alone. -/
theorem barrierCommand_sameBut (i : BarrierId) (c : BarrierCmd) (b : Blocks) :
    SameBut [.barriers] b (barrierCommand i c b) := by
  cases c
  · exact barrierMove_sameBut i .lower b
  · exact barrierMove_sameBut i .raise b
  · exact barrierStop_sameBut i b

theorem issueCall_sameBut (b : Blocks) (i : BarrierId) : SameBut [.barriers] b (issueCall b i) := by
  unfold issueCall
  split
  · exact sameBut_refl _ b
  · dsimp only
    split
    · exact sameBut_refl _ b
    · split
      · exact sameBut_refl _ b
      · split
        · exact sameBut_refl _ b
        · exact barrierCommand_sameBut i _ b

/-- Entry to a road phase changes the sequencer, the aspects and the barriers. -/
theorem enterPhase_sameBut (p : RoadPhase) (b : Blocks) : SameBut [.rsq, .slu, .barriers] b (enterPhase p b) :=
  sameBut_trans (sameBut_mono (showPhase_sameBut p .none b) (by decide))
    (sameBut_mono (sameBut_foldl issueCall issueCall_sameBut BarrierId.all _) (by decide))

theorem enterRoadOpen_sameBut (b : Blocks) : SameBut [.sil, .rsq, .slu, .barriers] b (enterRoadOpen b) := by
  have h : SameBut [.sil, .rsq, .slu, .barriers] b
      (enterPhase .roadOpen { b with sil := { b.sil with overrides := [] } }) :=
    sameBut_trans (b := { b with sil := { b.sil with overrides := [] } })
      (by
        intro f hf
        cases f <;> first | rfl | exact absurd (by decide) hf)
      (sameBut_mono (enterPhase_sameBut .roadOpen _) (by decide))
  unfold enterRoadOpen
  dsimp only
  split
  · exact sameBut_trans h (sameBut_mono (showPhase_sameBut .alert _ _) (by decide))
  · exact h

theorem testComplement_sameBut (b : Blocks) : SameBut [.rsq, .slu, .barriers] b (testComplement b) := by
  unfold testComplement
  split
  · split
    · exact sameBut_mono (sameBut_trans (setWait_sameBut .none b) (setStep_sameBut _ _)) (by decide)
    · exact enterPhase_sameBut _ b
  all_goals exact sameBut_mono (setWait_sameBut _ b) (by decide)

/-! ## The span and the passage -/

theorem stopAndHold_sameBut (c : HoldCause) (b : Blocks) : SameBut [.sil, .leaves] b (stopAndHold c b) :=
  sameBut_trans (sameBut_mono (stopLeaves_sameBut b) (by decide)) (sameBut_mono (setHeld_sameBut c _) (by decide))

theorem maintainConditions_sameBut (b : Blocks) : SameBut [.sil, .leaves] b (maintainConditions b) := by
  unfold maintainConditions
  split
  · split
    · exact stopAndHold_sameBut _ b
    · split
      · exact stopAndHold_sameBut _ b
      · exact sameBut_refl _ b
  · exact sameBut_refl _ b

theorem interruptUnseated_sameBut (b : Blocks) : SameBut [.sil, .locks] b (interruptUnseated b) := by
  unfold interruptUnseated
  split
  · exact sameBut_trans (sameBut_mono (interruptLocks_sameBut b) (by decide))
      (sameBut_mono (setHeld_sameBut _ _) (by decide))
  · exact sameBut_refl _ b

theorem rederive_sameBut (b : Blocks) : SameBut [.sil] b (rederive b) := by
  unfold rederive
  split
  · exact setPhase_sameBut _ b
  · exact sameBut_refl _ b

theorem completeRecovery_sameBut (b : Blocks) : SameBut [.sil] b (completeRecovery b) := by
  unfold completeRecovery
  split
  · exact sameBut_trans (setOrder_sameBut none b) (rederive_sameBut _)
  · exact sameBut_refl _ b

theorem rederiveAt_sameBut (s0 b : Blocks) : SameBut [.sil] b (rederiveAt s0 b) := by
  unfold rederiveAt
  split
  · exact rederive_sameBut b
  · exact sameBut_refl _ b

theorem endShort_sameBut (b : Blocks) : SameBut [.sil] b (endShort b) := by
  unfold endShort
  split
  · exact setHeld_sameBut _ b
  · exact sameBut_refl _ b

/-- The next movement, when it is taken, starts as any movement or sets the HELD flag. -/
theorem takeNextMovement_sameBut (b : Blocks) :
    SameBut [.sil, .leaves, .brakes, .par, .pend] b (takeNextMovement b) := by
  unfold takeNextMovement
  split
  · exact sameBut_refl _ b
  · split
    · exact sameBut_refl _ b
    · have h : SameBut [.sil, .leaves, .brakes, .par, .pend] b (setNext none b) :=
        sameBut_mono (setNext_sameBut none b) (by decide)
      dsimp only
      split
      · exact h
      · split
        · exact h
        · split
          · exact sameBut_trans h (sameBut_mono (setHeld_sameBut _ _) (by decide))
          · exact sameBut_trans h (sameBut_mono (startMovement_sameBut _ _) (by decide))

/-- The passage follows in the navigation record and the event's postings alone. -/
theorem followPassage_sameBut (b : Blocks) : SameBut [.nav, .notes] b (followPassage b) := by
  have nav : ∀ (x : Blocks) (n : Nav), SameBut [.nav, .notes] x { x with nav := n } := by
    intro x n f hf
    cases f <;> first | rfl | exact absurd (by decide) hf
  have both : ∀ (x : Blocks) (n : Nav) (v : Vessel) (low : Bool),
      SameBut [.nav, .notes] x (note (.clearanceLost v low) { x with nav := n }) := by
    intro x n v low f hf
    cases f <;> first | rfl | exact absurd (by decide) hf
  have watch : SameBut [.nav, .notes] b (watchProceed b) := by
    unfold watchProceed dropProceed
    repeat' split
    all_goals first | exact both _ _ _ _ | exact nav _ _
  have opens : ∀ x, SameBut [.nav, .notes] x (openGroup x) := by
    intro x
    unfold openGroup
    split
    · exact nav _ _
    · exact sameBut_refl _ x
  have completes : ∀ x, SameBut [.nav, .notes] x (completeGroup x) := by
    intro x
    unfold completeGroup
    split
    · exact nav _ _
    · exact sameBut_refl _ x
  have grants : ∀ x, SameBut [.nav, .notes] x (grantTest x) := by
    intro x
    unfold grantTest
    repeat' split
    all_goals exact nav _ _
  exact sameBut_trans watch (sameBut_trans (opens _) (sameBut_trans (completes _) (sameBut_trans (grants _) (selectAspects_sameBut _))))

/-! ## Lamps -/

theorem takeCommand_sameBut (b : Blocks) (g : Lamp) : SameBut [.slu] b (takeCommand b g) := by
  unfold takeCommand
  dsimp only
  repeat' split
  all_goals first | exact setLamp_sameBut _ _ b | exact sameBut_refl _ b

theorem followDemand_sameBut (b : Blocks) : SameBut [.slu, .par, .pend] b (followDemand b) := by
  unfold followDemand
  split
  · exact startGenerator_sameBut b
  · exact sameBut_mono (stopGenerator_sameBut b) (by decide)
  · exact sameBut_refl _ b

/-- The lamps follow in the lamp records and, at a start of the generator, the pending cadence. -/
theorem followAspects_sameBut (b : Blocks) : SameBut [.slu, .par, .pend] b (followAspects b) :=
  sameBut_trans (followDemand_sameBut b)
    (sameBut_mono (sameBut_foldl takeCommand takeCommand_sameBut lampGroups _) (by decide))

/-! ## Overrides and leaf notes -/

theorem dropOverrides_sameBut (b : Blocks) : SameBut [.sil] b (dropOverrides b) := by
  intro f hf
  cases f <;> first | rfl | exact absurd (by decide) hf

theorem noteLeaf_sameBut (s0 b : Blocks) (l : LeafId) : SameBut [.notes] b (noteLeaf s0 b l) := by
  unfold noteLeaf
  split
  · exact note_sameBut _ b
  · exact sameBut_refl _ b

/-- Noting the changed leaves touches the notes alone. -/
theorem noteLeaves_sameBut (s0 b : Blocks) : SameBut [.notes] b (noteLeaves s0 b) :=
  sameBut_foldl (noteLeaf s0) (noteLeaf_sameBut s0) LeafId.all b

end Sys2Proof.Machine
end

