-- ==== Sys2Proof/Laws/Movement.lean ====
section
/-! SUPPORT. What the start of a movement does to the leaves, their brakes and the parameters, and what a reversal of the lock
sequence leaves alone. -/

namespace Sys2Proof.Machine

open Sys2Proof.Safety

/-! ## The start of a movement (R128, R130) -/

/-- The blocks of a starting movement before the brakes are asked: the speeds taken, both motion records described. -/
def movementBegun (m : Movement) (b : Blocks) : Blocks :=
  { (if takesPart b .north m || takesPart b .south m then applyPendingSpeeds b else b) with
    leaves := ⟨b.leaves.north.atStart m (targetCounts b .north m) (takesPart b .north m),
      b.leaves.south.atStart m (targetCounts b .south m) (takesPart b .south m)⟩ }

theorem leafFaultIf_sameBut (fails : Bool) (l : LeafId) (k : LeafFault) (b : Blocks) :
    SameBut [.leaves, .brakes] b (if fails then leafFault l k b else b) := by
  split
  · exact leafFault_sameBut l k b
  · exact sameBut_refl _ b

/-- After the records are described, a start changes the leaves and the brakes alone. -/
theorem startMovement_sameBut_movementBegun (m : Movement) (b : Blocks) :
    SameBut [.leaves, .brakes] (movementBegun m b) (startMovement m b) :=
  have release : ∀ (t : Bool) (l : LeafId) (x : Blocks), SameBut [.leaves, .brakes] x (releaseIf t l x).1 :=
    fun t l x => sameBut_mono (releaseIf_sameBut t l x) (by decide)
  sameBut_trans (release _ .north _) (sameBut_trans (release _ .south _)
    (sameBut_trans (leafFaultIf_sameBut _ .north .brakeNotReleased _)
      (leafFaultIf_sameBut _ .south .brakeNotReleased _)))

/-- The start of a movement makes the pending speeds active where a leaf takes part, and touches no other parameter. -/
theorem startMovement_speeds (m : Movement) (b : Blocks) :
    SpeedsFollow ((takesPart b .north m || takesPart b .south m) = true) b.par b.pend (startMovement m b) := by
  have hp : (startMovement m b).par = (movementBegun m b).par := startMovement_sameBut_movementBegun m b .par (by decide)
  have hq : (startMovement m b).pend = (movementBegun m b).pend := startMovement_sameBut_movementBegun m b .pend (by decide)
  refine ⟨fun h => ?_, fun h => ?_⟩
  all_goals
    rw [hp, hq]
    simp [h, movementBegun, applyPendingSpeeds]

/-- A movement begins exactly where it is directed to leaves that need not wait and one of them takes part. -/
theorem movementBegins_iff (m : Movement) (b : Blocks) :
    MovementBegins m b ↔ movementMustWait b = false ∧ (takesPart b .north m || takesPart b .south m) = true := by
  have all : ∀ p : LeafId → Prop, (∀ l, p l) ↔ p .north ∧ p .south :=
    fun p => ⟨fun h => ⟨h _, h _⟩, fun h l => by cases l <;> [exact h.1; exact h.2]⟩
  have any : ∀ p : LeafId → Prop, (∃ l, p l) ↔ p .north ∨ p .south :=
    fun p => ⟨fun ⟨l, h⟩ => by cases l <;> [exact .inl h; exact .inr h], fun h => h.elim (⟨_, ·⟩) (⟨_, ·⟩)⟩
  unfold MovementBegins movementMustWait takesPart
  rw [all, any]
  simp [anyLeaf, and_assoc, and_comm, and_left_comm]

/-- A directed movement makes the pending speeds active where it begins, and touches no other parameter. -/
theorem directMovement_speeds (m : Movement) (b : Blocks) :
    SpeedsFollow (MovementBegins m b) b.par b.pend (directMovement m b) := by
  unfold directMovement SpeedsFollow
  rw [movementBegins_iff]
  split
  next h => simp [h, setNext]
  next h => simpa [SpeedsFollow, h] using startMovement_speeds m b

/-- A brake proven set takes its release request without a finding (R147). -/
theorem releaseIf_set (taking : Bool) (l : LeafId) (b : Blocks) (hs : (b.brakes.get l).state = .set)
    (hm : made b (.brakeReleased l) = false) :
    releaseIf taking l b = (if taking then setBrake l { b.brakes.get l with
      command := .release, state := .releasing, timer := some b.par.brakeProveMs } b else b, false) := by
  cases taking <;> simp [releaseIf, brakeReleaseRequest, hs, hm]

/-- From leaves at rest a start is the description of the movement and the release of the brakes that take part. -/
theorem startMovement_atRest (m : Movement) (b : Blocks) (h : LeavesAtRest b) :
    startMovement m b =
      let release := fun (l : LeafId) (x : Blocks) => if takesPart b l m then setBrake l { b.brakes.get l with
        command := .release, state := .releasing, timer := some b.par.brakeProveMs } x else x
      release .south (release .north (movementBegun m b)) := by
  have hb : (movementBegun m b).brakes = b.brakes ∧ (movementBegun m b).iq = b.iq ∧
      (movementBegun m b).par.brakeProveMs = b.par.brakeProveMs := by
    unfold movementBegun
    split <;> exact ⟨rfl, rfl, rfl⟩
  have same : ∀ (x : Blocks) (f : InputFn), x.iq = b.iq → made x f = made b f := fun x f e => by simp only [made, inputRec, e]
  have hn := releaseIf_set (takesPart b .north m) .north (movementBegun m b) (by rw [hb.1]; exact (h .north).2.1)
    ((same _ _ hb.2.1).trans (h .north).2.2)
  generalize hx : (if takesPart b .north m = true then _ else movementBegun m b) = x at hn
  have hx' : x.iq = b.iq ∧ x.brakes.get .south = b.brakes.get .south ∧ x.par.brakeProveMs = b.par.brakeProveMs := by
    subst hx
    split
    · exact ⟨hb.2.1, congrArg (·.get .south) hb.1, hb.2.2⟩
    · exact ⟨hb.2.1, congrArg (·.get .south) hb.1, hb.2.2⟩
  have hs := releaseIf_set (takesPart b .south m) .south x (by rw [hx'.2.1]; exact (h .south).2.1)
    ((same _ _ hx'.1).trans (h .south).2.2)
  have shape : startMovement m b =
      let n := releaseIf (takesPart b .north m) .north (movementBegun m b)
      let s := releaseIf (takesPart b .south m) .south n.1
      let judged := if n.2 then leafFault .north .brakeNotReleased s.1 else s.1
      if s.2 then leafFault .south .brakeNotReleased judged else judged := rfl
  rw [shape, hn]
  dsimp only
  rw [hs, hx'.2.1, hx'.2.2, ← hx, hb.1, hb.2.2]
  simp

/-- From leaves at rest a movement starts: those that have not arrived release their brakes, and no finding is made. -/
theorem startMovement_starts (m : Movement) (b : Blocks) (h : LeavesAtRest b) :
    MovementStarts m b (startMovement m b) := by
  have rests : ∀ l, leafState b l ≠ .fault := fun l => by rcases (h l).1 with e | e <;> rw [e] <;> decide
  have takes : ∀ l, takesPart b l m = !alreadyArrived b l m := fun l => by simp [takesPart, rests l]
  have hb : (movementBegun m b).brakes = b.brakes := by unfold movementBegun; split <;> rfl
  have leaves : ∀ l, (startMovement m b).leaves.get l =
      (b.leaves.get l).atStart m (targetCounts b l m) (takesPart b l m) := fun l => by
    rw [startMovement_atRest m b h]
    cases l <;> dsimp only <;> split <;> split <;> rfl
  have brakes : ∀ l, (startMovement m b).brakes.get l = if takesPart b l m then { b.brakes.get l with
      command := .release, state := .releasing, timer := some b.par.brakeProveMs } else b.brakes.get l := fun l => by
    rw [startMovement_atRest m b h]
    cases l <;> dsimp only <;> split <;> split <;> simp_all [PerLeaf.get, PerLeaf.set]
  refine fun l => ⟨fun ha => ⟨?_, ?_⟩, fun ha => ⟨?_, ?_⟩⟩
  · rw [leaves, takes, ha]; rfl
  · rw [brakes, takes, ha]; rfl
  · rw [leaves, takes, ha]; rfl
  · rw [brakes, takes, ha]; rfl

/-! ## The reversal of a lock sequence (R154) -/

/-- A tail in FAULT records DRIVE, and a tail in any other state is left to the advance. -/
theorem driveFaultedTail_eq (b : Blocks) (k : LockId) :
    driveFaultedTail b k =
      if (b.locks.get k).state = .fault then setLock k { b.locks.get k with command := .drive } b else b := by
  unfold driveFaultedTail
  split
  next h => simp [lockCommand, h]
  next => rfl

theorem driveFaultedTail_sameBut (b : Blocks) (k : LockId) : SameBut [.locks] b (driveFaultedTail b k) := by
  rw [driveFaultedTail_eq]
  split
  · exact setLock_sameBut _ _ b
  · exact sameBut_refl _ b

theorem recordDrive_sameBut (b : Blocks) (k : LockId) : SameBut [.locks] b (recordDrive b k) := by
  unfold recordDrive
  dsimp only
  split
  · exact setLock_sameBut _ _ b
  · exact sameBut_refl _ b

/-- A reversal changes the sequence record and the locks, and notes the record's change. -/
theorem reverseSequence_sameBut (b : Blocks) : SameBut [.seq, .notes, .locks] b (reverseSequence b) := by
  have locks : ∀ {x y : Blocks}, SameBut [.locks] x y → SameBut [.seq, .notes, .locks] x y :=
    fun h => sameBut_mono h (by decide)
  have started : SameBut [.seq, .notes, .locks] b (startSequence .drive b) :=
    sameBut_mono (startSequence_sameBut .drive b) (by decide)
  unfold reverseSequence
  dsimp only
  split
  · exact sameBut_trans started (locks (sameBut_foldl recordDrive recordDrive_sameBut _ _))
  · have outside : SameBut [.seq, .notes, .locks] b (if (startSequence .drive b).seq.step = .tails then
        lockInterrupt .centre (startSequence .drive b) else startSequence .drive b) := by
      split
      · exact sameBut_trans started (locks (lockInterrupt_sameBut .centre _))
      · exact started
    split
    · exact sameBut_trans outside (locks (sameBut_foldl driveFaultedTail driveFaultedTail_sameBut _ _))
    · exact outside

end Sys2Proof.Machine
end

