-- ==== Sys2Proof/Laws/Notes.lean ====
section
/-! SUPPORT. What follows by itself drops no posting that an event has noted. -/

namespace Sys2Proof.Machine

open Sys2Proof.Safety

/-- The notes of `b` stand at the front of those of `c`. -/
def NotesKept (b c : Blocks) : Prop := b.notes <+: c.notes

theorem notesKept_refl (b : Blocks) : NotesKept b b := List.prefix_refl _

theorem notesKept_trans {a b c : Blocks} (h : NotesKept a b) (k : NotesKept b c) : NotesKept a c := List.IsPrefix.trans h k

/-- A frame without the notes keeps them. -/
theorem notesKept_of_sameBut {fs : List BlockField} {b c : Blocks} (h : SameBut fs b c) (hn : BlockField.notes ∉ fs) :
    NotesKept b c := by
  have e : c.notes = b.notes := h .notes hn
  rw [NotesKept, e]

theorem note_kept (n : Note) (b : Blocks) : NotesKept b (note n b) := List.prefix_append _ _

/-- A fold of operations that keep the notes keeps them. -/
theorem notesKept_foldl {α : Type} (op : Blocks → α → Blocks) (h : ∀ b x, NotesKept b (op b x)) :
    ∀ (xs : List α) (b : Blocks), NotesKept b (xs.foldl op b)
  | [], b => notesKept_refl b
  | x :: xs, b => notesKept_trans (h b x) (notesKept_foldl op h xs (op b x))

/-- An iteration of an operation that keeps the notes keeps them. -/
theorem notesKept_iter (f : Blocks → Blocks) (h : ∀ b, NotesKept b (f b)) : ∀ (n : Nat) (b : Blocks),
    NotesKept b (iter f n b)
  | 0, b => notesKept_refl b
  | n + 1, b => notesKept_trans (h b) (notesKept_iter f h n (f b))

/-! ## The parts of a round -/

theorem followLeaves_kept (b : Blocks) : NotesKept b (followLeaves b) :=
  notesKept_of_sameBut (fs := [.leaves, .brakes])
    (sameBut_trans (sameBut_mono (judgeRaiseArrival_sameBut .north b) (by decide))
      (sameBut_trans (sameBut_mono (judgeRaiseArrival_sameBut .south _) (by decide))
        (sameBut_trans (sameBut_mono (leafRest_sameBut .north _) (by decide))
          (sameBut_trans (sameBut_mono (leafRest_sameBut .south _) (by decide))
            (sameBut_trans (sameBut_mono (profileStart_sameBut _) (by decide)) (superviseSkew_sameBut _))))))
    (by decide)

theorem noteLeaves_kept (s0 b : Blocks) : NotesKept b (noteLeaves s0 b) :=
  notesKept_foldl _ (fun x l => by
    unfold noteLeaf
    split
    · exact note_kept _ x
    · exact notesKept_refl x) _ b

theorem followConditions_kept (b : Blocks) : NotesKept b (followConditions b) :=
  notesKept_of_sameBut (fs := [.sil, .leaves, .brakes, .par, .pend, .locks])
    (sameBut_trans (sameBut_mono (dropOverrides_sameBut b) (by decide))
      (sameBut_trans (sameBut_mono (maintainConditions_sameBut _) (by decide))
        (sameBut_trans (sameBut_mono (interruptUnseated_sameBut _) (by decide))
          (sameBut_trans (sameBut_mono (applyCeiling_sameBut .north _) (by decide))
            (sameBut_trans (sameBut_mono (applyCeiling_sameBut .south _) (by decide))
              (sameBut_mono (takeNextMovement_sameBut _) (by decide)))))))
    (by decide)

theorem advanceSequence_kept (b : Blocks) : NotesKept b (advanceSequence b) :=
  notesKept_of_sameBut (advanceSequence_sameBut b) (by decide)

theorem enterPhase_kept (p : RoadPhase) (b : Blocks) : NotesKept b (enterPhase p b) :=
  notesKept_of_sameBut (enterPhase_sameBut p b) (by decide)

theorem enterRedWarn_kept (b : Blocks) : NotesKept b (enterRedWarn b) := enterPhase_kept .redWarn b

theorem enterClearance_kept (b : Blocks) : NotesKept b (enterClearance b) := enterPhase_kept .clearance b

theorem pauseExits_kept (b : Blocks) : NotesKept b (pauseExits b) := by
  have stops := notesKept_of_sameBut
    (sameBut_trans (barrierStop_sameBut .northExit b) (barrierStop_sameBut .southExit _)) (by decide)
  unfold pauseExits
  generalize barrierStop .southExit (barrierStop .northExit b) = x at stops
  exact notesKept_trans stops (enterClearance_kept { x with rsq := { x.rsq with exitPaused := true } })

theorem roadAdvance_kept (b : Blocks) : NotesKept b (roadAdvance b) := by
  unfold roadAdvance
  split
  · split
    · exact notesKept_trans (notesKept_of_sameBut (showPhase_sameBut .alert _ b) (by decide)) (note_kept .road _)
    · exact notesKept_refl b
  · split
    · exact enterRedWarn_kept b
    · exact notesKept_refl b
  · split
    · exact notesKept_of_sameBut (testComplement_sameBut b) (by decide)
    · exact notesKept_refl b
  · split
    · exact enterClearance_kept b
    · exact notesKept_refl b
  · unfold followLoops
    split <;> exact notesKept_refl b
  · split
    · exact pauseExits_kept b
    · split
      · exact enterPhase_kept .roadClosed b
      · exact notesKept_refl b
  · exact notesKept_refl b
  · split
    · split
      · exact notesKept_refl b
      · exact enterPhase_kept .entryRaising b
    · exact notesKept_refl b
  · split
    · exact notesKept_of_sameBut (enterRoadOpen_sameBut b) (by decide)
    · exact notesKept_refl b
  · split <;> exact notesKept_refl b

theorem completePhase_kept (b : Blocks) : NotesKept b (completePhase b) := by
  unfold completePhase
  split
  · dsimp only
    split <;> exact note_kept .span b
  · exact notesKept_refl b

theorem followSpan_kept (s0 b : Blocks) : NotesKept b (followSpan s0 b) :=
  notesKept_trans (completePhase_kept b)
    (notesKept_of_sameBut (sameBut_trans (completeRecovery_sameBut _)
      (sameBut_trans (rederiveAt_sameBut s0 _) (endShort_sameBut _))) (by decide))

theorem followPassage_kept (b : Blocks) : NotesKept b (followPassage b) := by
  have watch : NotesKept b (watchProceed b) := by
    unfold watchProceed dropProceed
    repeat' split
    all_goals first | exact List.prefix_append _ _ | exact notesKept_refl b
  have opens : ∀ x, NotesKept x (openGroup x) := by
    intro x
    unfold openGroup
    split <;> exact notesKept_refl x
  have completes : ∀ x, NotesKept x (completeGroup x) := by
    intro x
    unfold completeGroup
    split <;> exact notesKept_refl x
  have grants : ∀ x, NotesKept x (grantTest x) := by
    intro x
    unfold grantTest
    repeat' split
    all_goals exact notesKept_refl x
  have selects : ∀ x d, NotesKept x (selectAspect x d) := by
    intro x d
    unfold selectAspect
    dsimp only
    split
    · exact notesKept_refl x
    · exact List.prefix_append _ _
  exact notesKept_trans watch (notesKept_trans (opens _) (notesKept_trans (completes _) (notesKept_trans (grants _)
    (notesKept_trans (selects _ .inbound) (selects _ .outbound)))))

/-! ## The end of an event -/

theorem settleRound_kept (s0 b : Blocks) : NotesKept b (settleRound s0 b) :=
  notesKept_trans (followLeaves_kept b) (notesKept_trans (noteLeaves_kept s0 _) (notesKept_trans (followConditions_kept _)
    (notesKept_trans (advanceSequence_kept _) (notesKept_trans (roadAdvance_kept _) (notesKept_trans (followSpan_kept s0 _)
      (notesKept_trans (followPassage_kept _) (notesKept_of_sameBut (followAspects_sameBut _) (by decide))))))))

/-- A posting that an event in OPERATE has noted is still noted when everything has followed. -/
theorem settle_kept (s0 b : Blocks) (h : b.sil.mode = .operate) : NotesKept b (settle s0 b) := by
  unfold settle
  simp only [h]
  exact notesKept_iter _ (settleRound_kept s0) 4 b

/-- A change of the override table posts its SPAN report, whatever follows it in the event (R24, R25). -/
theorem changeOverrides_posts (os : List Override) (s0 b : Blocks) (h : b.sil.mode = .operate) :
    ({ kind := .span, subject := 0, body := spanFields (settle s0 (changeOverrides os b)) } : Posting) ∈
      spanPosting s0 (settle s0 (changeOverrides os b)) := by
  have noted : Note.span ∈ (settle s0 (changeOverrides os b)).notes :=
    (settle_kept s0 (changeOverrides os b) h).subset (by simp)
  simp [spanPosting, spanChanged, postIf, noted]

end Sys2Proof.Machine
end

