-- ==== Sys2Proof/Laws/PerInstr.lean ====
section
/-! SUPPORT. Statements for all commands, one lemma per constructor. -/

namespace Sys2Proof.Laws.RequestFits

open Sys2Proof.Machine

/-- The frame of a well-formed request has a body of at most 64 octets (R197). -/
def Statement (i : Instr) : Prop :=
  WellFormed i = true → ∀ f : Frame, requestFrame i = some f → f.body.length ≤ 64

/-- A command whose frame, if it has one, is short. -/
theorem of_short {i : Instr} (h : ∀ f : Frame, requestFrame i = some f → f.body.length ≤ 64) : Statement i :=
  fun _ => h

theorem pointOctets_length (points : List (BitVec 16 × BitVec 16)) :
    (pointOctets points).length = 4 * points.length := by
  induction points with
  | nil => rfl
  | cons p rest ih =>
    simp only [pointOctets, List.map_cons, List.flatten_cons, List.length_append, List.length_cons] at ih ⊢
    rw [ih]
    simp [octets16, u16]
    omega

theorem powerOnReset : Statement (.powerOnReset) := of_short nofun

theorem identify (tag : Octet) : Statement (.identify tag) := of_short (by
  intro f hf
  cases hf
  simp)

theorem setParam (tag : Octet) (ident : Octet) (subject : Octet) (value : BitVec 32) : Statement (.setParam tag ident subject value) := of_short (by
  intro f hf
  cases hf
  simp [octets32, u32, u24, u16])

theorem getParam (tag : Octet) (ident : Octet) (subject : Octet) : Statement (.getParam tag ident subject) := of_short (by
  intro f hf
  cases hf
  simp)

theorem assignInput (tag : Octet) (fn : Octet) (form : Octet) (link : Octet) (channel : Octet) (bit : Octet) (n : Octet) (flags : Octet) : Statement (.assignInput tag fn form link channel bit n flags) := of_short (by
  intro f hf
  cases hf
  simp)

theorem assignOutput (tag : Octet) (fn : Octet) (link : Octet) (channel : Octet) (bit : Octet) : Statement (.assignOutput tag fn link channel bit) := of_short (by
  intro f hf
  cases hf
  simp)

theorem clearAssignment (tag : Octet) (form : Octet) (arg1 : Octet) (arg2 : Octet) (arg3 : Octet) : Statement (.clearAssignment tag form arg1 arg2 arg3) := of_short (by
  intro f hf
  cases hf
  simp)

theorem loadClearance (tag : Octet) (points : List (BitVec 16 × BitVec 16)) : Statement (.loadClearance tag points) := by
  intro hw f hf
  simp only [WellFormed, pointsFit, decide_eq_true_eq] at hw
  simp only [requestFrame, Option.some.injEq] at hf
  subst hf
  simp only [List.length_cons, pointOctets_length]
  omega

theorem configDone (tag : Octet) : Statement (.configDone tag) := of_short (by
  intro f hf
  cases hf
  simp)

theorem reconfigure (tag : Octet) : Statement (.reconfigure tag) := of_short (by
  intro f hf
  cases hf
  simp)

theorem restart (tag : Octet) : Statement (.restart tag) := of_short (by
  intro f hf
  cases hf
  simp)

theorem roadClose (tag : Octet) : Statement (.roadClose tag) := of_short (by
  intro f hf
  cases hf
  simp)

theorem roadOpen (tag : Octet) : Statement (.roadOpen tag) := of_short (by
  intro f hf
  cases hf
  simp)

theorem locksWithdraw (tag : Octet) : Statement (.locksWithdraw tag) := of_short (by
  intro f hf
  cases hf
  simp)

theorem locksDrive (tag : Octet) : Statement (.locksDrive tag) := of_short (by
  intro f hf
  cases hf
  simp)

theorem leavesRaise (tag : Octet) (target : Octet) : Statement (.leavesRaise tag target) := of_short (by
  intro f hf
  cases hf
  simp)

theorem leavesLower (tag : Octet) : Statement (.leavesLower tag) := of_short (by
  intro f hf
  cases hf
  simp)

theorem recoveryLower (tag : Octet) : Statement (.recoveryLower tag) := of_short (by
  intro f hf
  cases hf
  simp)

theorem motionHold (tag : Octet) : Statement (.motionHold tag) := of_short (by
  intro f hf
  cases hf
  simp)

theorem motionResume (tag : Octet) : Statement (.motionResume tag) := of_short (by
  intro f hf
  cases hf
  simp)

theorem estopReset (tag : Octet) : Statement (.estopReset tag) := of_short (by
  intro f hf
  cases hf
  simp)

theorem faultClearLeaf (tag : Octet) (subject : Octet) : Statement (.faultClearLeaf tag subject) := of_short (by
  intro f hf
  cases hf
  simp)

theorem faultClearLock (tag : Octet) (subject : Octet) : Statement (.faultClearLock tag subject) := of_short (by
  intro f hf
  cases hf
  simp)

theorem faultClearBarrier (tag : Octet) (subject : Octet) : Statement (.faultClearBarrier tag subject) := of_short (by
  intro f hf
  cases hf
  simp)

theorem overrideGrant (tag : Octet) (kind : Octet) (subject : Octet) : Statement (.overrideGrant tag kind subject) := of_short (by
  intro f hf
  cases hf
  simp)

theorem overrideRevoke (tag : Octet) (kind : Octet) (subject : Octet) : Statement (.overrideRevoke tag kind subject) := of_short (by
  intro f hf
  cases hf
  simp)

theorem vesselAdd (tag : Octet) (ident : BitVec 16) (direction : Octet) (airDraft : BitVec 16) (cls : Octet) : Statement (.vesselAdd tag ident direction airDraft cls) := of_short (by
  intro f hf
  cases hf
  simp [octets16, u16])

theorem vesselWithdraw (tag : Octet) (ident : BitVec 16) : Statement (.vesselWithdraw tag ident) := of_short (by
  intro f hf
  cases hf
  simp [octets16, u16])

theorem vesselCleared (tag : Octet) (ident : BitVec 16) : Statement (.vesselCleared tag ident) := of_short (by
  intro f hf
  cases hf
  simp [octets16, u16])

theorem getSpan (tag : Octet) (subject : Octet) (part : Octet) : Statement (.getSpan tag subject part) := of_short (by
  intro f hf
  cases hf
  simp)

theorem getRoad (tag : Octet) (subject : Octet) (part : Octet) : Statement (.getRoad tag subject part) := of_short (by
  intro f hf
  cases hf
  simp)

theorem getLeaf (tag : Octet) (subject : Octet) (part : Octet) : Statement (.getLeaf tag subject part) := of_short (by
  intro f hf
  cases hf
  simp)

theorem getLocks (tag : Octet) (subject : Octet) (part : Octet) : Statement (.getLocks tag subject part) := of_short (by
  intro f hf
  cases hf
  simp)

theorem getLink (tag : Octet) (subject : Octet) (part : Octet) : Statement (.getLink tag subject part) := of_short (by
  intro f hf
  cases hf
  simp)

theorem getInput (tag : Octet) (subject : Octet) (part : Octet) : Statement (.getInput tag subject part) := of_short (by
  intro f hf
  cases hf
  simp)

theorem getQueue (tag : Octet) (subject : Octet) (part : Octet) : Statement (.getQueue tag subject part) := of_short (by
  intro f hf
  cases hf
  simp)

theorem getWind (tag : Octet) (subject : Octet) (part : Octet) : Statement (.getWind tag subject part) := of_short (by
  intro f hf
  cases hf
  simp)

theorem presence (tag : Octet) (subject : Octet) (part : Octet) : Statement (.presence tag subject part) := of_short (by
  intro f hf
  cases hf
  simp)

theorem unknownKind (kind : Octet) (tag : Octet) (body : List Octet) : Statement (.unknownKind kind tag body) := by
  intro hw f hf
  simp only [WellFormed, bodyFits, Bool.and_eq_true, decide_eq_true_eq] at hw
  simp only [requestFrame, Option.some.injEq] at hf
  subst hf
  exact hw.2

theorem consoleFrameReceived (kind : Octet) (tag : Octet) (body : List Octet) (crc : BitVec 16) : Statement (.consoleFrameReceived kind tag body crc) := of_short nofun

theorem frameAbandoned : Statement (.frameAbandoned) := of_short nofun

theorem octetGapTimeout : Statement (.octetGapTimeout) := of_short nofun

theorem transmitFrameEnd : Statement (.transmitFrameEnd) := of_short nofun

theorem presenceTimerExpiry : Statement (.presenceTimerExpiry) := of_short nofun

theorem foundFrame (link : Link) (frame : BitVec 80) : Statement (.foundFrame link frame) := of_short nofun

theorem confirmingFrame (link : Link) (frame : BitVec 80) : Statement (.confirmingFrame link frame) := of_short nofun

theorem alignedFrameBoundary (link : Link) (frame : BitVec 80) : Statement (.alignedFrameBoundary link frame) := of_short nofun

theorem fieldFrameStart (link : Link) : Statement (.fieldFrameStart link) := of_short nofun

theorem samplingTimerExpiry (lines : BitVec 17) : Statement (.samplingTimerExpiry lines) := of_short nofun

theorem holdExpiry (link : Link) : Statement (.holdExpiry link) := of_short nofun

theorem flashPhaseBoundary : Statement (.flashPhaseBoundary) := of_short nofun

theorem edgeWindowExpiry (group : Lamp) : Statement (.edgeWindowExpiry group) := of_short nofun

theorem proveTimerExpiry (group : Lamp) : Statement (.proveTimerExpiry group) := of_short nofun

theorem settleExpiry (group : Lamp) : Statement (.settleExpiry group) := of_short nofun

theorem amberExpiry : Statement (.amberExpiry) := of_short nofun

theorem redWarnExpiry : Statement (.redWarnExpiry) := of_short nofun

theorem clearanceTimerExpiry : Statement (.clearanceTimerExpiry) := of_short nofun

theorem barrierTravelTimeout (barrier : BarrierId) : Statement (.barrierTravelTimeout barrier) := of_short nofun

theorem encoderCount (leaf : LeafId) (forward : Bool) : Statement (.encoderCount leaf forward) := of_short nofun

theorem illegalTransition (leaf : LeafId) : Statement (.illegalTransition leaf) := of_short nofun

theorem speedWindowEnd (leaf : LeafId) : Statement (.speedWindowEnd leaf) := of_short nofun

theorem stallTimerExpiry (leaf : LeafId) : Statement (.stallTimerExpiry leaf) := of_short nofun

theorem profileUpdate (leaf : LeafId) : Statement (.profileUpdate leaf) := of_short nofun

theorem brakeReleaseTimeout (leaf : LeafId) : Statement (.brakeReleaseTimeout leaf) := of_short nofun

theorem brakeSetTimeout (leaf : LeafId) : Statement (.brakeSetTimeout leaf) := of_short nofun

theorem lockTravelTimeout (lock : LockId) : Statement (.lockTravelTimeout lock) := of_short nofun

theorem gapRunOut : Statement (.gapRunOut) := of_short nofun

theorem anemoFallingEdge (elapsed : Nat) : Statement (.anemoFallingEdge elapsed) := of_short nofun

theorem calm : Statement (.calm) := of_short nofun

theorem gustAgeRise : Statement (.gustAgeRise) := of_short nofun

theorem adoptTimeout : Statement (.adoptTimeout) := of_short nofun

theorem consoleOctetReceived (octet : Octet) (stopBit : Bool) : Statement (.consoleOctetReceived octet stopBit) := of_short nofun

end Sys2Proof.Laws.RequestFits
end

