-- ==== Sys2Proof/Laws/Port.lean ====
section
/-! SUPPORT. What the operations of the console port and the report queue can do: one lemma for each. -/

namespace Sys2Proof.Machine

open Sys2Proof.Safety

/-! ## Iteration -/

@[simp] theorem iter_zero {α : Type} (f : α → α) (a : α) : iter f 0 a = a := rfl

@[simp] theorem iter_succ {α : Type} (f : α → α) (n : Nat) (a : α) : iter f (n + 1) a = iter f n (f a) := rfl

/-- What holds at the start and is kept by one round holds after any number of rounds. -/
theorem iter_keeps {α : Type} {P : α → Prop} {f : α → α} (h : ∀ a, P a → P (f a)) :
    ∀ n a, P a → P (iter f n a)
  | 0, _, ha => ha
  | n + 1, a, ha => iter_keeps h n (f a) (h a ha)

/-! ## Taking -/

/-- Everything a taking can do: nothing, a request that keeps RQ, or RESTART and RECONFIGURE. -/
theorem takeHead_cases (e : Event) :
    (takeHead e = e ∧ (e.cpt.buffer = [] ∨ Config.replyCapacity ≤ e.cpt.replies.length)) ∨
    ∃ f rest, e.cpt.buffer = f :: rest ∧ e.cpt.replies.length < Config.replyCapacity ∧
      (((takeRequest f e.blocks).resets = false ∧
        takeHead e = ({ e with
          blocks := (takeRequest f e.blocks).blocks
          cpt := { e.cpt with
            buffer := rest
            replies := e.cpt.replies ++ [replyFrame f (takeRequest f e.blocks).result] } } : Event).settled) ∨
       ((takeRequest f e.blocks).resets = true ∧
        takeHead e = ({
          base := { e.blocks with iq := (takeRequest f e.blocks).blocks.iq, notes := [] }
          blocks := (takeRequest f e.blocks).blocks
          cpt := { e.cpt with
            buffer := rest
            replies := e.cpt.replies ++ [replyFrame f (takeRequest f e.blocks).result]
            overrun := 0 }
          rq := []
          port := false } : Event).settled)) := by
  rcases hb : e.cpt.buffer with _ | ⟨f, rest⟩
  · exact .inl ⟨by simp [takeHead, hb], .inl rfl⟩
  · by_cases hl : e.cpt.replies.length < Config.replyCapacity
    · refine .inr ⟨f, rest, rfl, hl, ?_⟩
      cases hr : (takeRequest f e.blocks).resets
      · exact .inl ⟨rfl, by simp [takeHead, hb, hl, hr]⟩
      · exact .inr ⟨rfl, by simp [takeHead, hb, hl, hr]⟩
    · exact .inl ⟨by simp [takeHead, hb, hl], .inr (by omega)⟩

theorem takeHead_empty (e : Event) (h : e.cpt.buffer = []) : takeHead e = e := by simp [takeHead, h]

theorem takeWaiting_empty (e : Event) (h : e.cpt.buffer = []) : takeWaiting e = e := by
  simp [takeWaiting, Config.replyCapacity, takeHead_empty e h]

@[simp] theorem settled_base (e : Event) : e.settled.base = e.base := rfl
@[simp] theorem settled_blocks (e : Event) : e.settled.blocks = settle e.base e.blocks := rfl
@[simp] theorem settled_cpt (e : Event) : e.settled.cpt = e.cpt := rfl
@[simp] theorem settled_rq (e : Event) : e.settled.rq = e.rq := rfl
@[simp] theorem settled_port (e : Event) : e.settled.port = e.port := rfl

@[simp] theorem settle_config (s0 b : Blocks) (h : b.sil.mode = .config) : settle s0 b = b := by simp [settle, h]

/-! ## The transmitter -/

theorem startReply_busy (e : Event) (f : Frame) (h : e.cpt.tx = some f) : startReply e = e := by
  simp [startReply, h]

theorem startReply_none (e : Event) (h : e.cpt.replies = []) : startReply e = e := by
  unfold startReply
  split
  · next h' => simp [h] at h'
  · rfl

theorem startReply_idle (e : Event) (r : Frame) (rest : List Frame) (ht : e.cpt.tx = none)
    (h : e.cpt.replies = r :: rest) :
    startReply e = { e with cpt := { e.cpt with tx := some r, replies := rest } } := by
  simp [startReply, ht, h]

/-- A start of a reply leaves every part of the event but the transmitter and the reply list. -/
theorem startReply_keeps (e : Event) :
    (startReply e).base = e.base ∧ (startReply e).blocks = e.blocks ∧ (startReply e).rq = e.rq ∧
      (startReply e).port = e.port ∧ (startReply e).cpt.receiver = e.cpt.receiver ∧
        (startReply e).cpt.buffer = e.cpt.buffer ∧ (startReply e).cpt.overrun = e.cpt.overrun := by
  unfold startReply
  split <;> simp

theorem startReport_busy (e : Event) (f : Frame) (h : e.cpt.tx = some f) : startReport e = e := by
  simp [startReport, h]

/-- A start of a report leaves every part of the event but the transmitter and RQ. -/
theorem startReport_keeps (e : Event) :
    (startReport e).base = e.base ∧ (startReport e).blocks = e.blocks ∧
      (startReport e).port = e.port ∧ (startReport e).cpt.receiver = e.cpt.receiver ∧
        (startReport e).cpt.buffer = e.cpt.buffer ∧ (startReport e).cpt.replies = e.cpt.replies ∧
          (startReport e).cpt.overrun = e.cpt.overrun := by
  unfold startReport
  split
  · simp
  · split <;> simp

@[simp] theorem postReports_blocks (e : Event) : (postReports e).blocks = { e.blocks with notes := [] } := rfl
@[simp] theorem postReports_cpt (e : Event) : (postReports e).cpt = e.cpt := rfl
@[simp] theorem postReports_base (e : Event) : (postReports e).base = e.base := rfl

@[simp] theorem postReports_rq_quiet (e : Event) (h : e.port = false) :
    (postReports e).rq = (eventPostings e.base e.blocks).foldl post e.rq := by
  simp [postReports, h, postIf]

@[simp] theorem toState_pending (e : Event) (q : List Instr) : (e.toState q).pending = q := rfl
@[simp] theorem toState_blocks (e : Event) (q : List Instr) : (e.toState q).blocks = e.blocks := rfl
@[simp] theorem toState_cpt (e : Event) (q : List Instr) : (e.toState q).cpt = e.cpt := rfl
@[simp] theorem toState_rq (e : Event) (q : List Instr) : (e.toState q).rq = e.rq := rfl

@[simp] theorem runEvent_pending (f : Blocks → Blocks) (s : State) : (runEvent f s).pending = s.pending := rfl
@[simp] theorem inputEvent_pending (f : Blocks → Blocks) (s : State) : (inputEvent f s).pending = s.pending := rfl

@[simp] theorem consoleRequest_pending (kind tag : Octet) (body : List Octet) (s : State) :
    (consoleRequest kind tag body s).pending = s.pending := by
  simp only [consoleRequest, completeFrame, abandonFrame, validFrame]
  split_ifs <;> rfl

/-- A request is the arrival of its frame with the right CRC. -/
theorem consoleRequest_valid (kind tag : Octet) (body : List Octet) (s : State) (h : body.length ≤ 64) :
    consoleRequest kind tag body s = validFrame { kind := kind, tag := tag, body := body } s := by
  simp [consoleRequest, completeFrame, Nat.not_lt.mpr h]

/-- A valid frame on a quiet port is taken in the event that completes it, and its reply starts. -/
theorem validFrame_quiet (f : Frame) (s : State) (h : QuietPort s)
    (hr : (takeRequest f (atTaking s)).resets = false) :
    validFrame f s =
      answered s f (takeRequest f (atTaking s)).blocks (takeRequest f (atTaking s)).result := by
  obtain ⟨hb, hp, ht⟩ := h
  simp only [atTaking] at hr
  simp [validFrame, receive, beginEvent, hb, hp, ht, finishEvent, takeWaiting, takeHead, Event.settled, startReply,
    postReports, startReport, answered, atTaking, following, Config.replyCapacity, Config.receiveCapacity, hr, postIf,
    Event.toState]

/-- The blocks' own work of an event, said by its result alone. -/
theorem runEvent_eventEnd (f : Blocks → Blocks) (s : State) : runEvent f s = eventEnd s (f s.blocks) := rfl

/-! ## Posting (R204) -/

/-- A key that stands in RQ keeps its place: its entry takes the content and its count rises. -/
theorem post_present (rq : List Entry) (p : Posting) (h : rq.any (fun e => e.hasKey p.kind p.subject) = true) :
    post rq p = rq.map fun e => if e.hasKey p.kind p.subject then e.again p.body else e := by
  simp only [post, h, if_true]

/-- A key that is absent is appended with count 1. -/
theorem post_absent (rq : List Entry) (p : Posting) (h : rq.any (fun e => e.hasKey p.kind p.subject) = false) :
    post rq p = rq ++ [{ kind := p.kind, subject := p.subject, count := 1, body := p.body }] := by
  simp only [post, h, Bool.false_eq_true, if_false]

theorem hasKey_iff (e : Entry) (k : ReportKind) (n : Nat) :
    e.hasKey k n = true ↔ (e.kind, e.subject) = (k, n) := by
  simp [Entry.hasKey]

@[simp] theorem again_key (e : Entry) (body : List Octet) :
    ((e.again body).kind, (e.again body).subject) = (e.kind, e.subject) := rfl

end Sys2Proof.Machine
end

