-- ==== Sys2Proof/Tests/Slice0.lean ====
section
/-! SUPPORT. The package's own tests: ill-formed commands are refused, single steps give the values of the manual's worked
examples, and for every statement with hypotheses a theorem `meets_<its name>` shows a state and operands that meet them,
clause by clause. -/

namespace Sys2Proof.Tests

open Sys2Proof Sys2Proof.Machine Sys2Proof.Safety

set_option Elab.async false

/-! ## WellFormed refuses what the lines cannot carry -/

theorem test_sixteen_points_are_refused :
    WellFormed (.loadClearance 1#8 (List.replicate 16 (0#16, 850#16))) = false := by decide

theorem test_a_known_kind_is_no_unknown_kind : WellFormed (.unknownKind 0x38#8 1#8 []) = false := by decide

theorem test_an_unknown_kind_with_65_octets_is_refused :
    WellFormed (.unknownKind 0x39#8 1#8 (List.replicate 65 0#8)) = false := by decide

theorem test_a_frame_with_65_octets_is_refused :
    WellFormed (.consoleFrameReceived 1#8 1#8 (List.replicate 65 0#8) 0#16) = false := by decide

theorem test_a_period_past_the_calm_limit_is_refused : WellFormed (.anemoFallingEdge 2000001) = false := by decide

theorem test_the_limits_themselves_are_well_formed :
    WellFormed (.loadClearance 1#8 (List.replicate 15 (0#16, 850#16))) = true ∧
      WellFormed (.unknownKind 0x39#8 1#8 (List.replicate 64 0#8)) = true ∧
      WellFormed (.anemoFallingEdge 2000000) = true := by decide

/-! ## Small states -/

/-- A state whose blocks are `b`, with nothing waiting and the transmitter IDLE. -/
def at_ (b : Blocks) : State := { State.reset with blocks := b }

theorem quiet_at (b : Blocks) : QuietPort (at_ b) := ⟨rfl, rfl, rfl⟩

/-- Input records that are all FRESH, with the listed functions made. -/
def madeInputs (on : List InputFn) : Iq :=
  { recs := Vector.ofFn fun i => { qualified := on.contains (inputAt i), freshness := .fresh, pendingFirst := false } }

def goodLink : LinkRec :=
  { state := .aligned, expected := some 0#4, confirmations := 2, prevStatus := some 0xA#4, status := .healthy }

/-- A bridge in OPERATE with ready stations, in one state everywhere. -/
def bridge (phase : SpanPhase) (road : RoadPhase) (bar : BarrierRec) (lock : LockRec) (leaf : LeafRec)
    (on : List InputFn) : Blocks :=
  { Blocks.reset with
    sil := { mode := .operate, phase := phase }
    rsq := { phase := road }
    links := ⟨goodLink, goodLink, goodLink⟩
    iq := madeInputs (on ++ [.driveReady .north, .driveReady .south, .estop])
    barriers := ⟨bar, bar, bar, bar⟩
    locks := ⟨lock, lock, lock⟩
    leaves := ⟨leaf, leaf⟩ }

def upBar : BarrierRec := { command := .raise, state := .up }
def downBar : BarrierRec := { command := .lower, state := .down }
def drivenLock : LockRec := { command := .drive, state := .driven }
def outLock : LockRec := { command := .withdraw, state := .withdrawn }

def seatedLeaf : LeafRec := { pos := { certain := true, angleKnown := true }, mot := { state := .seated } }

/-- A leaf at 19590 counts, the target of a raise to 3918 cd. -/
def parkedLeaf : LeafRec :=
  { pos := { position := 19590, certain := true, angleKnown := true }, mot := { state := .parked, arrived := true } }

def movingLeaf : LeafRec :=
  { pos := { position := 15000, certain := true, angleKnown := true }
    win := { running := true }
    flt := { stall := some 2000 }
    mot := { state := .moving, kind := .raise, target := some (.angle 3918), targetCounts := some 19590,
             rule := .byTarget, takingPart := true, command := 500, updateTimer := some 10 } }

def bars (one two : Approach → InputFn) : List InputFn := [one .north, two .north, one .south, two .south]
def pins (f : LockId → InputFn) : List InputFn := LockId.all.map f
def seats : List InputFn := [.seated .north, .seated .south]

/-- TRAFFIC: barriers UP, locks DRIVEN, leaves SEATED. -/
def traffic : Blocks :=
  bridge .traffic .roadOpen upBar drivenLock seatedLeaf (bars .entryUp .exitUp ++ pins .lockDriven ++ seats)

/-- CLOSED: barriers DOWN, locks DRIVEN, leaves SEATED. -/
def closed : Blocks :=
  bridge .closed .roadClosed downBar drivenLock seatedLeaf (bars .entryDown .exitDown ++ pins .lockDriven ++ seats)

/-- UNLOCKED: barriers DOWN, locks WITHDRAWN, leaves SEATED. -/
def unlocked : Blocks :=
  bridge .unlocked .roadClosed downBar outLock seatedLeaf (bars .entryDown .exitDown ++ pins .lockWithdrawn ++ seats)

/-- OPEN: both leaves at rest at the target of their raise. -/
def opened : Blocks :=
  bridge .opened .roadClosed downBar outLock parkedLeaf (bars .entryDown .exitDown ++ pins .lockWithdrawn)

/-- RAISING: both leaves MOVING. -/
def raising : Blocks :=
  let b := bridge .raising .roadClosed downBar outLock movingLeaf
    (bars .entryDown .exitDown ++ pins .lockWithdrawn ++ [.brakeReleased .north, .brakeReleased .south])
  { b with
    sil := { b.sil with order := some (.raise (.angle 3918)) }
    brakes := ⟨{ command := .release, state := .released }, { command := .release, state := .released }⟩ }

/-- A blocks with the HELD flag set by MOTION_HOLD. -/
def held (b : Blocks) : Blocks := { b with sil := { b.sil with held := true, cause := .holdRequest } }

/-- A blocks with the E-stop latch set. -/
def latched (b : Blocks) : Blocks := { b with sil := { b.sil with latch := true } }

/-- The clearance table of R161. -/
def table161 : List (Nat × Nat) := [(0, 850), (2000, 1900), (4500, 3600), (8000, 4700)]

def withTable (b : Blocks) : Blocks := { b with nav := { b.nav with table := table161, loaded := true } }

def vessel1 : Vessel := { ident := 4711, dir := .inbound, airDraft := 3000, cls := .ordinary, required := 3618 }
def vessel2 : Vessel := { ident := 2205, dir := .outbound, airDraft := 2400, cls := .scheduled, required := 2736 }

def withQueue (b : Blocks) : Blocks := { withTable b with nav := { (withTable b).nav with queue := [vessel2, vessel1] } }

/-- The group of the example of section 9.7, passing, with the given states of its two vessels. -/
def withGroup (s2 s1 : VesselState) (gap : Option Nat) (b : Blocks) : Blocks :=
  { withTable b with nav := { (withTable b).nav with
      group := .passing
      target := .passage 3918
      targetAngle := 3918
      slots := [{ vessel := vessel2, state := s2 }, { vessel := vessel1, state := s1 }]
      proceedShown := if s2 = .proceeding then some .outbound else if s1 = .proceeding then some .inbound else none
      gap := gap
      lastCleared := if s2 = .cleared then some .outbound else none } }

def inPhase (p : SpanPhase) (b : Blocks) : Blocks := { b with sil := { b.sil with phase := p } }

def ordered (m : Movement) (b : Blocks) : Blocks := { b with sil := { b.sil with order := some m } }

def onRoad (r : Rsq) (b : Blocks) : Blocks := { b with rsq := r }

/-- Both entry barriers and both exit barriers in a record. -/
def withBars (entry exit : BarrierRec) (b : Blocks) : Blocks := { b with barriers := ⟨entry, exit, entry, exit⟩ }

/-- The centre lock and both tails in a record. -/
def withLocks (centre tail : LockRec) (b : Blocks) : Blocks := { b with locks := ⟨centre, tail, tail⟩ }

/-- All inputs FRESH and those listed made. -/
def sees (on : List InputFn) (b : Blocks) : Blocks := { b with iq := madeInputs on }

/-- A field-link frame of a number, seven channel octets and C8, with its check octet. -/
def fieldFrame (number : BitVec 4) (cs : List Octet) (c8 : Octet) : BitVec 80 :=
  let os : List Octet := (0b1011#4 ++ number : BitVec 8) :: (cs ++ [c8])
  (os ++ [crc8 os]).foldl (fun acc o => (acc <<< 8) ||| o.setWidth 80) 0#80

/-- A frame of all zero channels under the codeword HEALTHY. -/
def healthyFrame (number : BitVec 4) : BitVec 80 := fieldFrame number (List.replicate 7 0#8) 0xA0#8

/-! ## Values of the manual's worked examples -/

/-- Section 12.6: CRC-8 over the ASCII "123456789". -/
theorem test_crc8 : crc8 [0x31, 0x32, 0x33, 0x34, 0x35, 0x36, 0x37, 0x38, 0x39] = 0xF4#8 := by decide +kernel

/-- R197: the console CRC over the same octets. -/
theorem test_crc16 : crc16 [0x31, 0x32, 0x33, 0x34, 0x35, 0x36, 0x37, 0x38, 0x39] = 0x29B1#16 := by decide +kernel

/-- R161 and section 9.7: required angles. -/
theorem test_required_angles :
    [1500, 2400, 3000, 3500].map (requiredAngle table161) = [1239, 2736, 3618, 4353] := by decide +kernel

/-- R162: the clearance at 3920 cd. -/
theorem test_clearance : clearanceAt table161 3920 = 3205 := by decide +kernel

/-- Section 7.7: the edges of the wind cap. -/
theorem test_wind_cap :
    [150, 151, 180, 220].map (fun g => windCap { raising with wmn := { gust := g } }) = [1000, 986, 597, 60] := by
  decide +kernel

/-- The state after one command. -/
def after (i : Instr) (s : State) : State :=
  match exec i s with
  | .next t => t
  | .fault _ => s
  | .refused _ => s

/-- The reply that a command leaves on the line. -/
def replyOf (i : Instr) (s : State) : Option Frame := (after i s).cpt.tx

/-- Section 7.7: one update of each leaf, 491 and 564 with duties 2010 and 2309. -/
theorem test_profile_update :
    let south : LeafRec := { movingLeaf with
      pos := { movingLeaf.pos with position := 14700 }, mot := { movingLeaf.mot with command := 560 } }
    let b : Blocks := { raising with leaves := ⟨movingLeaf, south⟩, wmn := { gust := 180 } }
    let n := (after (.profileUpdate .north) (at_ b)).blocks
    let s := (after (.profileUpdate .south) (at_ b)).blocks
    n.leaves.north.mot.command = 491 ∧ driveDuty n .north = 2010 ∧ s.leaves.south.mot.command = 564 ∧
      driveDuty s .south = 2309 := by decide +kernel

/-- Section 10.6: a period of 30,000 µs after a gust of 175 gives wind and gust 233 and the alarm STOP. -/
theorem test_squall :
    let w := (after (.anemoFallingEdge 30000) (at_ { Blocks.reset with
      wmn := { measure := .timing, wind := 175, gust := 175, gustLevel := .high, alarm := .high } })).blocks.wmn
    w.wind = 233 ∧ w.gust = 233 ∧ w.gustLevel = .stop ∧ w.alarm = .stop := by decide +kernel

/-- Section 10.6: a period of 3,000 µs fails the sensor and changes no wind. -/
theorem test_faulty_contact :
    let w := (after (.anemoFallingEdge 3000) (at_ { Blocks.reset with
      wmn := { measure := .timing, wind := 140, gust := 140, gustLevel := .high, alarm := .high } })).blocks.wmn
    w.wind = 140 ∧ w.gust = 140 ∧ w.sound = false ∧ w.alarm = .stop ∧ w.implausible = 1 := by decide +kernel

/-- Chapter 4, the flash accumulator: at 45 flashes per minute the second phase lasts 667 ms and leaves the residue 15. -/
theorem test_flash_accumulator :
    let g := (after .flashPhaseBoundary (at_ { Blocks.reset with
      slu := { running := true, residue := 30 }, par := { flashFpm := 45 } })).blocks.slu
    g.remaining = 667 ∧ g.residue = 15 ∧ g.phaseB = true := by decide +kernel

/-- Section 6.7: 144 counts in a window at RATED_CPS 1250 are 1152‰, an overspeed; the other leaf goes to STOPPING. -/
theorem test_overspeed :
    let north : LeafRec := { movingLeaf with win := { running := true, net := 144, gross := 144 } }
    let b := (after (.speedWindowEnd .north) (at_ { raising with
      leaves := ⟨north, movingLeaf⟩, par := { ratedCps := ⟨1250, 1250⟩ } })).blocks
    b.leaves.north.win.speed = 1152 ∧ leafState b .north = .fault ∧ b.leaves.north.flt.first = some .overspeed ∧
      leafState b .south = .stopping := by decide +kernel

/-- Section 6.7: the count that brings a LOWER without its seat to -400 gives SEAT_NOT_FOUND. -/
theorem test_seat_not_found :
    let leaf : LeafRec :=
      { pos := { position := -399, certain := true, angleKnown := true }
        mot := { state := .moving, kind := .lower, targetCounts := some 0, rule := .seatSearch, takingPart := true } }
    let b := (after (.encoderCount .north false) (at_ { raising with leaves := ⟨leaf, leaf⟩ })).blocks
    b.leaves.north.pos.position = -400 ∧ b.leaves.north.flt.first = some .seatNotFound := by decide +kernel

/-- R197, R206: the reply to GET_QUEUE part 0 fills the 64 octets of a body. -/
theorem test_queue_part_fills_a_body :
    (replyOf (.getQueue 7#8 0#8 0#8) (at_ (withGroup .cleared .waiting (some 0) opened))).map (·.body.length) = some 64 := by
  decide +kernel

/-- Section 9.7: VESSEL_ADD of 3000 cm ORDINARY answers 3618, the queue, place 1. -/
theorem test_vessel_add :
    replyOf (.vesselAdd 7#8 4711#16 0#8 3000#16 2#8) (at_ (withTable unlocked)) =
      some { kind := 0xA0#8, tag := 7#8, body := [0#8, 0x0E#8, 0x22#8, 0#8, 1#8] } := by decide +kernel

/-- Section 9.7: LEAVES_RAISE (PASSAGE) forms the group with target 3918 and empties the queue. -/
theorem test_leaves_raise :
    let b := (after (.leavesRaise 1#8 1#8) (at_ (withQueue unlocked))).blocks
    b.nav.target = .passage 3918 ∧ b.nav.queue = [] ∧ b.sil.phase = .raising ∧ leafState b .north = .releasing ∧
      b.nav.aspects = ⟨.standby, .standby⟩ := by decide +kernel

/-- Section 9.7: the gap runs out for 4711, which proceeds INBOUND. -/
theorem test_second_grant :
    let b := (after .gapRunOut (at_ (withGroup .cleared .waiting (some 60000) opened))).blocks
    b.nav.proceedShown = some .inbound ∧ b.nav.aspects = ⟨.proceed, .red⟩ := by decide +kernel

/-- Section 5.7: the AMBER timer expires, and RED_WARN runs for 8000 ms under RED_FLASH with the bells on. -/
theorem test_amber_expiry :
    let b := (after .amberExpiry (at_ { traffic with
      sil := { mode := .operate, phase := .closing }, rsq := { phase := .amber, timer := .running 1 } })).blocks
    b.rsq.phase = .redWarn ∧ b.rsq.timer = .running 8000 ∧ b.rsq.bells = ⟨true, true⟩ ∧
      b.slu.aspects = ⟨.redFlash, .redFlash⟩ := by decide +kernel

/-- Section 8.6: LOCKS_WITHDRAW starts the CENTRE lock, and the tails stay DRIVEN. -/
theorem test_locks_withdraw :
    let b := (after (.locksWithdraw 1#8) (at_ closed)).blocks
    (b.locks.centre.state, b.locks.northTail.state, b.locks.southTail.state) = (.withdrawing, .driven, .driven) ∧
      b.seq = { sequence := .withdraw, step := .centre, status := .running } ∧ b.sil.phase = .unlocking := by
  decide +kernel

/-- Section 2.9: a good frame number 7 in HUNT gives CONFIRM, expecting 8. -/
theorem test_found_frame :
    let r := (after (.foundFrame .n (healthyFrame 7#4)) State.reset).blocks.links.n
    r.state = .confirm ∧ r.expected = some 8#4 := by decide +kernel

/-- Section 2.9: the third all-zero frame loses the link, whose station becomes UNDEFINED. -/
theorem test_loss_of_alignment :
    let b : Blocks := { traffic with links := ⟨{ goodLink with errors := 2, windowFrames := 402 }, goodLink, goodLink⟩ }
    let r := (after (.alignedFrameBoundary .n 0#80) (at_ b)).blocks
    r.links.n.state = .hunt ∧ r.links.n.huntCause = .loss ∧ r.links.n.status = .undefined ∧
      r.barriers.northEntry.state = .up := by decide +kernel

/-- Section 11.5: one leaf off its seat, locks WITHDRAWN and barriers DOWN are adopted in RECOVERY, with a silent ALERT. -/
theorem test_adoption_in_recovery :
    let b := (after .adoptTimeout (at_ { Blocks.reset with
      sil := { mode := .adopt, adoptTimer := some 0 }
      iq := madeInputs (bars .entryDown .exitDown ++ pins .lockWithdrawn ++ [.seated .south, .estop]) })).blocks
    b.sil.mode = .operate ∧ b.sil.phase = .recovery ∧ b.rsq.phase = .alert ∧ b.rsq.cause = .recovery ∧
      b.rsq.bells = ⟨false, false⟩ ∧ leafState b .north = .parked ∧ leafState b .south = .seated := by decide +kernel

/-- Section 11.5: from there ROAD_CLOSE reaches CLEARANCE in the same event, every barrier staying DOWN. -/
theorem test_recovery_closure :
    let s := after .adoptTimeout (at_ { Blocks.reset with
      sil := { mode := .adopt, adoptTimer := some 0 }
      links := ⟨goodLink, goodLink, goodLink⟩
      iq := madeInputs (bars .entryDown .exitDown ++ pins .lockWithdrawn ++ [.seated .south, .estop])
      slu := { lamps := Vector.replicate 12 { fitted := true, state := .proven } }
      cat := { outputs := ⟨Vector.ofFn fun i => if i.val = 0 then some (.redA .north) else
                             if i.val = 1 then some (.redA .south) else none,
                           Vector.replicate 60 none, Vector.replicate 60 none⟩ } })
    let b := (after (.roadClose 1#8) { s with cpt := {} }).blocks
    b.rsq.phase = .clearance ∧ b.rsq.clearance = .running 6000 ∧ b.barriers.northExit = downBar ∧
      b.barriers.southExit = downBar := by decide +kernel

/-- Section 12.7: the reply of a request that arrives while a frame is sent waits; the report queue keeps its order. -/
theorem test_reply_before_report :
    let e : Entry := { kind := .estop, subject := 0, count := 1, body := [] }
    let r : Frame := { kind := 0xB0#8, tag := 1#8, body := [0#8] }
    let t := after .transmitFrameEnd { State.reset with
      cpt := { tx := some { kind := 0x4C#8, tag := 1#8, body := [2#8] }, replies := [r] }, rq := [e] }
    t.cpt.tx = some r ∧ t.rq = [e] := by decide +kernel

/-- Section 3.8: NORTH LOOP_A at C2 bit 7 of link N is accepted, and LOOP_B of NORTH on link S gives RANGE. -/
theorem test_assign_input :
    replyOf (.assignInput 1#8 5#8 0#8 0#8 2#8 7#8 3#8 2#8) State.reset =
        some { kind := 0x84#8, tag := 1#8, body := [0#8] } ∧
      replyOf (.assignInput 1#8 6#8 0#8 1#8 2#8 6#8 3#8 0#8) State.reset =
        some { kind := 0x84#8, tag := 1#8, body := [5#8] } := by decide +kernel

/-- R203: IDENTIFY answers 420 (0x01A4), revision 1, CONFIG, TRAFFIC. -/
theorem test_identify :
    replyOf (.identify 9#8) State.reset =
      some { kind := 0x81#8, tag := 9#8, body := [0#8, 1#8, 0xA4#8, 1#8, 0#8, 0#8] } := by decide +kernel

/-! ## The hypotheses of the statements are met

Every state `at_ b` has a quiet port (`quiet_at`). `taking b` are its blocks at the moment a request is taken. -/

def taking (b : Blocks) : Blocks := atTaking (at_ b)

/-- A frame is being sent, both replies wait and `n` received frames wait. -/
def busy (n : Nat) : State :=
  let r : Frame := { kind := 0xB0#8, tag := 1#8, body := [0#8] }
  { State.reset with cpt := { tx := some r, replies := [r, r], buffer := List.replicate n r } }

def entry (k : ReportKind) (count : Nat) : Entry := { kind := k, subject := 0, count := count, body := [] }

theorem meets_StepRunsTheFrontCommand : State.reset.pending = [] := rfl

theorem meets_RequestsAreFramesTakenAndAnswered :
    (∃ f : Frame, requestFrame (.identify 1#8) = some f ∧ f.body.length ≤ 64 ∧
      (takeRequest f (atTaking State.reset)).resets = false) ∧
    (∃ f : Frame, requestFrame (.unknownKind 0x39#8 1#8 (List.replicate 64 0#8)) = some f ∧ f.body.length ≤ 64 ∧
      (takeRequest f (taking traffic)).resets = false) ∧
    0#16 ≠ crc16 (crcOctets 1#8 1#8 []) :=
  ⟨⟨_, rfl, by decide, rfl⟩, ⟨_, rfl, by decide, rfl⟩, by decide +kernel⟩

theorem meets_OctetsMakeTheFrame :
    (List.replicate 64 0#8).length ≤ 64 ∧ State.reset.cpt.receiver = .hunting := by decide

theorem meets_ReceiverTakesOctets :
    State.reset.cpt.receiver = .hunting ∧
    ({ State.reset with cpt := { receiver := .inFrame [] 5 } } : State).cpt.receiver = .inFrame [] 5 ∧
    ({ State.reset with cpt := { receiver := .inFrame [2#8, 1#8, 9#8] 5 } } : State).cpt.receiver =
      .inFrame (2#8 :: [1#8, 9#8]) 5 ∧
    [1#8, 9#8].length + 1 < (2#8).toNat + 2 ∧ 2 ≤ (66#8).toNat ∧ (66#8).toNat ≤ 66 ∧
    (List.replicate 66 0#8).length + 1 < (66#8).toNat + 2 := by decide

theorem meets_FramesWaitOrOverrun :
    (∃ f : Frame, requestFrame (.identify 1#8) = some f ∧ f.body.length ≤ 64) ∧
      (busy 0).cpt.replies.length = 2 ∧ (busy 0).cpt.tx ≠ none ∧ (busy 1).cpt.buffer.length < 2 ∧
        (busy 2).cpt.buffer.length = 2 ∧ Blocks.reset.sil.mode ≠ .operate ∧
        -- in OPERATE with the console lost
        (let s : State := { busy 2 with blocks := { traffic with sil := { traffic.sil with consoleLost := true } } }
         s.blocks.sil.mode = .operate ∧ s.blocks.sil.consoleLost = true ∧ s.cpt.buffer.length ≤ 2) :=
  ⟨⟨_, rfl, by decide⟩, by decide +kernel⟩

theorem meets_TransmitterChoosesAgain :
    let r : Frame := { kind := 0xB0#8, tag := 1#8, body := [0#8] }
    let f : Frame := { kind := 0x01#8, tag := 2#8, body := [] }
    let queued : State := { State.reset with rq := [entry .span 1] }
    let working : State := { at_ traffic with rq := [entry .span 1], cpt := { tx := some r, replies := [r, r] } }
    let full : State := { working with cpt := { working.cpt with buffer := [f] } }
    let best := fun s : State => firstEligible (following s.blocks s.blocks).par.reportFloor
      ((eventPostings s.blocks (settle s.blocks s.blocks)).foldl post s.rq)
    queued.cpt.buffer = [] ∧ queued.cpt.replies = [] ∧ best queued = some (entry .span 1) ∧ best State.reset = none ∧
      working.blocks.sil.mode = .operate ∧ working.cpt.buffer = [] ∧ working.cpt.replies = r :: [r] ∧
      full.cpt.buffer = f :: [] ∧ full.cpt.replies = [r, r] ∧
      (takeRequest f (settle full.blocks full.blocks)).resets = false ∧ working.cpt.tx = some r ∧
      State.reset.cpt.tx = none := by decide +kernel

theorem meets_ReportQueueKeepsItsOrder :
    firstEligible 0 [entry .span 1, entry .leaf 255] = some (entry .leaf 255) ∧
      firstEligible 3 [entry .port 1] = some (entry .port 1) ∧
      (∀ e ∈ [entry .span 1], (e.kind, e.subject) ≠ (ReportKind.leaf, 0)) ∧
      ((entry .leaf 255).kind, (entry .leaf 255).subject) = (ReportKind.leaf, 0) ∧
      (firstEligible 0 [entry .span 1] = none ∧ ∀ e ∈ [entry .span 1], 0 < reportPriority e.kind) ∧
      -- the notes of an event
      [Note.span, .link .n 5 6, .road] = [.span] ++ .link .n 5 6 :: [.road] ∧ Note.link .n 5 6 ∉ [Note.road] ∧
      [Note.estop [.north] [] []] = [] ++ .estop [.north] [] [] :: [] ∧ Note.estop [] [] [] ∉ [Note.road] ∧
      [Note.clearanceLost vessel1 true] = [] ++ .clearanceLost vessel1 true :: [] ∧
      Note.clearanceLost vessel1 true ∉ [Note.road] ∧
      QueueOk ([entry .span 1] ++ entry .leaf 255 :: []) := by
  refine ⟨by decide +kernel, by decide +kernel, by decide, rfl, by decide +kernel, rfl, by decide, rfl, by decide, rfl,
    by decide, by decide, ?_⟩
  intro e he
  simp only [List.singleton_append, List.mem_cons, List.not_mem_nil, or_false] at he
  rcases he with rfl | rfl <;> exact ⟨by decide, by decide⟩

theorem meets_QueueAndPortStayInBounds :
    QueueOk State.reset.rq ∧ PortOk (busy 2).cpt ∧ QueueOk (busy 2).rq ∧
      ∃ t : State, step { busy 2 with pending := [.calm] } = .next t := by
  refine ⟨⟨by decide, fun e he => by cases he⟩, ⟨by decide, by decide, by decide⟩,
    ⟨by decide, fun e he => by cases he⟩, ⟨_, rfl⟩⟩

theorem meets_IdentifyAndGetParamAnswer :
    QuietPort State.reset ∧ paramNamed (1#8).toNat (0#8).toNat = true ∧ paramNamed (40#8).toNat (0#8).toNat = true ∧
      paramNamed (17#8).toNat (1#8).toNat = true ∧
      -- the RANGE form at each end
      paramNamed (0#8).toNat (0#8).toNat = false ∧ paramNamed (41#8).toNat (0#8).toNat = false ∧
      paramNamed (14#8).toNat (1#8).toNat = false ∧ paramNamed (18#8).toNat (1#8).toNat = false ∧
      paramNamed (15#8).toNat (2#8).toNat = false := ⟨⟨rfl, rfl, rfl⟩, by decide⟩

theorem meets_SetParamInConfigIsActiveAtOnce :
    QuietPort State.reset ∧ State.reset.blocks.sil.mode = .config ∧ paramNamed (6#8).toNat (0#8).toNat = true ∧
      paramInRange (6#8).toNat (0#32).toInt = true ∧ paramInRange (6#8).toNat (2000#32).toInt = true ∧
      paramNamed (35#8).toNat (0#8).toNat = true ∧ paramInRange (35#8).toNat (100#32).toInt = true ∧
      paramNamed (17#8).toNat (1#8).toNat = true ∧ paramInRange (17#8).toNat (20000#32).toInt = true ∧
      paramInRange (34#8).toNat (50#32).toInt = true ∧ paramInRange (36#8).toNat (50#32).toInt = true ∧
      -- a HELD record at 57 ms: a write of 57 reaches it, one of 58 does not
      (let r : InputRec := { qualified := true, freshness := .held, pendingFirst := false, heldSince := some 20 }
       let b : Blocks := { Blocks.reset with now := 77, iq := { recs := Vector.replicate 41 r } }
       b.sil.mode = .config ∧ (b.iq.recs.get 0).freshness = .held ∧ (b.iq.recs.get 0).heldSince = some 20 ∧
         (57#32).toInt.toNat ≤ b.now - 20 ∧ ¬ (58#32).toInt.toNat ≤ b.now - 20) :=
  ⟨⟨rfl, rfl, rfl⟩, by decide +kernel⟩

/-- TRAFFIC with V_CREEP at 150. -/
def fastCreep : Blocks := { traffic with par := { vCreep := 150 } }

theorem meets_SetParamStagesAndChecks :
    (taking fastCreep).sil.mode = .operate ∧ paramNamed (18#8).toNat (0#8).toNat = true ∧
      paramClass (18#8).toNat = .staged ∧ paramInRange (18#8).toNat (150#32).toInt = true ∧
      ((taking fastCreep).par.vCreep : Int) ≤ (150#32).toInt ∧ paramInRange (18#8).toNat (149#32).toInt = true ∧
      (149#32).toInt < ((taking fastCreep).par.vCreep : Int) ∧
      paramNamed (0#8).toNat (0#8).toNat = false ∧ paramNamed (41#8).toNat (0#8).toNat = false ∧
      paramNamed (18#8).toNat (1#8).toNat = false ∧ paramClass (3#8).toNat = .configOnly ∧
      paramClass (2#8).toNat ≠ .configOnly ∧ paramInRange (2#8).toNat (4#32).toInt = false ∧
      0 ≤ (0#32).toInt ∧ (3#32).toInt ≤ 3 ∧
      paramInRange (1#8).toNat (-1#32).toInt = false ∧ (taking Blocks.reset).sil.mode = .config ∧
      (taking { Blocks.reset with sil := { mode := .adopt, adoptTimer := some 9 } }).sil.mode = .adopt := by
  decide +kernel

/-- CONFIG with one input entry and four AMBER entries of NORTH on link P. -/
def fourAmbers : Blocks :=
  { Blocks.reset with cat :=
      { inputs := (Vector.replicate 24 none).set 0 (some (.position 0 3 false true)) (by decide)
        outputs := ⟨Vector.replicate 60 none, Vector.replicate 60 none,
                    Vector.ofFn fun i => if i.val < 4 then some (.amber .north) else none⟩ } }

theorem meets_AssignInputPlacesAndRestarts :
    QuietPort State.reset ∧ State.reset.blocks.sil.mode = .config ∧ (1#8).toNat = (0 : Fin 24).val + 1 ∧
      linkOf (0#8).toNat = some .n ∧ positionOf (1#8).toNat (0#8).toNat = some 0 ∧
      inputLink (fieldFn 0) = some .n ∧ receiveHeld State.reset.blocks 0 .n 0 = false ∧
      (24#8).toNat = (23 : Fin 24).val + 1 ∧ linkOf (2#8).toNat = some .p ∧
      positionOf (8#8).toNat (3#8).toNat = some 59 ∧ inputLink (fieldFn 23) = some .p ∧
      receiveHeld State.reset.blocks 23 .p 59 = false ∧ 1 ≤ (1#8).toNat ∧ (15#8).toNat ≤ 15 ∧
      -- the NOT_FITTED form and the refusals
      24 < (25#8).toNat ∧ 2 ≤ (2#8).toNat ∧ (6#8).toNat = (5 : Fin 24).val + 1 ∧ isOptional (fieldFn 5) = true ∧
      isOptional (fieldFn 0) = false ∧ linkOf (3#8).toNat = none ∧ positionOf (1#8).toNat (8#8).toNat = none ∧
      15 < (16#8).toNat ∧ inputLink (fieldFn 0) ≠ linkOf (1#8).toNat ∧ (2#8).toNat = (1 : Fin 24).val + 1 ∧
      inputLink (fieldFn 1) = some .n ∧ fourAmbers.sil.mode = .config ∧
      fourAmbers.cat.inputs.get 0 = some (.position 0 3 false true) :=
  ⟨⟨rfl, rfl, rfl⟩, by decide +kernel⟩

theorem meets_OutputsAreAssignedAndEntriesCleared :
    (fourAmbers.sil.mode = .config ∧ outputOf (1#8).toNat = some (.amber .north) ∧
      outputOf (9#8).toNat = some (.amber .south) ∧ linkOf (2#8).toNat = some .p ∧
      positionOf (1#8).toNat (4#8).toNat = some 4 ∧ outputLinkAllows (.amber .north) .p = true ∧
      outputLinkAllows (.amber .south) .p = true ∧ (fourAmbers.cat.outputs.get .p).get 4 = none ∧
      outputCount fourAmbers (.amber .south) < 4 ∧ 4 ≤ outputCount fourAmbers (.amber .north) ∧
      (fourAmbers.cat.outputs.get .p).get 3 = some (.amber .north) ∧ positionOf (1#8).toNat (3#8).toNat = some 3 ∧
      fourAmbers.cat.inputs.get 0 ≠ none ∧ fourAmbers.cat.inputs.get 5 = none ∧ isOptional (fieldFn 0) = false ∧
      isOptional (fieldFn 5) = true ∧ (1#8).toNat = (0 : Fin 24).val + 1 ∧ (6#8).toNat = (5 : Fin 24).val + 1) ∧
      -- the RANGE forms: no function, no link, no position, a barrier command off its link, no form, no entry named
      (∀ n ∈ [0#8, 23#8], outputOf n.toNat = none) ∧ linkOf (3#8).toNat = none ∧
      positionOf (0#8).toNat (0#8).toNat = none ∧ positionOf (9#8).toNat (0#8).toNat = none ∧
      positionOf (1#8).toNat (8#8).toNat = none ∧ positionOf (8#8).toNat (4#8).toNat = none ∧ outputOf (22#8).toNat = some (.green .outbound) ∧
      linkOf (1#8).toNat = some .s ∧ outputOf (13#8).toNat = some (.lower .southEntry) ∧
      outputLinkAllows (.lower .northEntry) .s = false ∧ outputLinkAllows (.lower .southEntry) .n = false ∧
      2 < (3#8).toNat ∧ 24 < (25#8).toNat :=
  ⟨by decide +kernel, by decide +kernel⟩

theorem meets_LoadClearanceReplacesTheTable :
    QuietPort State.reset ∧ State.reset.blocks.sil.mode = .config ∧
      (let points : List (BitVec 16 × BitVec 16) := [(0#16, 850#16), (8000#16, 6000#16)]
       let ps := points.map fun p => (p.1.toNat, p.2.toNat)
       points.length ≤ 15 ∧ 2 ≤ ps.length ∧ ps.length ≤ 8 ∧ (∀ p ∈ ps, p.2 ≤ 6000) ∧
         (ps.map Prod.fst).head? = some 0 ∧ (ps.map Prod.fst).Pairwise (· < ·) ∧
         (ps.map Prod.fst).getLastD 0 ≤
           min State.reset.blocks.par.openAngleCd.north State.reset.blocks.par.openAngleCd.south ∧
         (ps.map Prod.snd).Pairwise (· ≤ ·)) ∧
      ¬ 2 ≤ (([(0#16, 850#16)] : List (BitVec 16 × BitVec 16)).map fun p => (p.1.toNat, p.2.toNat)).length :=
  ⟨⟨rfl, rfl, rfl⟩, by decide +kernel⟩

/-- A complete configuration: every field input at the position of its number, every output of R64 on the link it may
lie on, and the table of R161. -/
def configured : Blocks :=
  withTable { Blocks.reset with cat :=
    { inputs := Vector.ofFn fun i => some (.position ⟨i.val, by omega⟩ 3 false true)
      outputs := ⟨Vector.ofFn fun i => (outputOf (i.val + 1)).filter fun f => outputLinkAllows f .n,
                  Vector.ofFn fun i => (outputOf (i.val + 1)).filter fun f => !(outputLinkAllows f .n),
                  Vector.replicate 60 none⟩ } }

theorem meets_ConfigDoneStartsAdoption :
    configured.sil.mode = .config ∧ firstIncomplete configured = none ∧
      firstIncomplete State.reset.blocks = some (0, 1) := by decide +kernel

theorem meets_RestartAndReconfigureReset :
    (taking traffic).sil.mode = .operate ∧ motionInProgress (taking traffic) = false ∧
      (taking traffic).sil.phase = .traffic ∧
      -- in motion, in TRAFFIC and outside it
      leafState (taking raising) .north = .moving ∧ (taking raising).sil.phase ≠ .traffic ∧
      (let travelling := withBars upBar { command := .raise, state := .raising, timer := .running 9 } traffic
       (taking travelling).sil.phase = .traffic ∧ ((taking travelling).barriers.get .northExit).state = .raising) ∧
      ((taking (withLocks drivenLock { command := .drive, state := .driving, timer := .running 9 } traffic)).locks.get
        .northTail).state = .driving ∧
      -- a record with a source, a benign one and one with neither
      sourcePosition { traffic with cat := configured.cat } 0 = some 0 ∧ 24 ≤ (24 : Fin 41).val ∧
      inputEntryAt traffic 5 = none ∧ isOptional (inputAt 5) = true ∧ sourcePosition traffic 0 = none ∧
      inputEntryAt traffic 0 = none ∧ isOptional (inputAt 0) = false := by decide +kernel

theorem meets_RequestsNeedTheirMode :
    WellFormed (.assignInput 1#8 1#8 0#8 0#8 1#8 0#8 1#8 0#8) = true ∧ WellFormed (.configDone 1#8) = true ∧
      (∃ f, requestFrame (.assignInput 1#8 1#8 0#8 0#8 1#8 0#8 1#8 0#8) = some f ∧ f.kind.toNat = 0x04) ∧
      (∃ f, requestFrame (.configDone 1#8) = some f ∧ f.kind.toNat = 0x08) ∧
      (taking traffic).sil.mode ≠ .config ∧
      (∃ f, requestFrame (.reconfigure 1#8) = some f ∧ f.kind.toNat = 0x09 ∧ knownKind f.kind = true) ∧
      (∃ f, requestFrame (.vesselCleared 1#8 1#16) = some f ∧ f.kind.toNat = 0x22 ∧ knownKind f.kind = true) ∧
      (taking Blocks.reset).sil.mode ≠ .operate :=
  ⟨rfl, rfl, ⟨_, rfl, rfl⟩, ⟨_, rfl, rfl⟩, by decide +kernel, ⟨_, rfl, rfl, rfl⟩, ⟨_, rfl, rfl, rfl⟩,
    by decide +kernel⟩

/-! ### Operating requests -/

/-- All lamp groups fitted and PROVEN. -/
def lit (b : Blocks) : Blocks :=
  { b with slu := { b.slu with lamps := Vector.replicate 12 { fitted := true, state := .proven } } }

/-- TRAFFIC in ALERT. -/
def alarmed : Blocks := { traffic with rsq := { phase := .alert, cause := .cleared } }

/-- RECOVERY in ALERT: barriers DOWN, one leaf PARKED and UNCERTAIN, locks WITHDRAWN. -/
def recovering : Blocks :=
  { unlocked with
    sil := { unlocked.sil with phase := .recovery }
    rsq := { phase := .alert, cause := .recovery }
    leaves := ⟨{ mot := { state := .parked } }, seatedLeaf⟩ }

/-- RECOVERY with the road closed. -/
def stranded : Blocks := { recovering with rsq := { phase := .roadClosed } }

theorem meets_OperatingRequestsAreJudged :
    (taking traffic).sil.mode = .operate ∧
      -- outside the phases
      (taking opened).sil.phase = .opened ∧ (taking unlocked).sil.phase = .unlocked ∧
      -- ROAD_CLOSE and ROAD_OPEN
      (taking (latched traffic)).sil.phase = .traffic ∧
      permitFails (taking (latched traffic)) [.estopLatched, .stationNotReady] = some .estopLatched ∧
      (taking (latched recovering)).sil.phase = .recovery ∧
      [RoadPhase.roadOpen, .exitRaising, .entryRaising, .alert].contains (taking (latched recovering)).rsq.phase = true ∧
      (taking (latched closed)).sil.phase = .closed ∧
      permitFails (taking (latched closed)) [.estopLatched, .leafNotSeated, .locksNotDriven, .stationNotReady] =
        some .estopLatched ∧
      -- LOCKS_WITHDRAW and LOCKS_DRIVE
      permitFails (taking (latched closed)) [.estopLatched, .roadNotClosed, .leafNotSeated] = some .estopLatched ∧
      permitFails (taking recovering) [.estopLatched, .roadNotClosed, .leafNotSeated] = some .roadNotClosed ∧
      (taking (latched unlocked)).sil.phase = .unlocked ∧
      permitFails (taking (latched unlocked)) [.estopLatched, .leafNotSeated] = some .estopLatched ∧
      -- LEAVES_LOWER and RECOVERY_LOWER
      (taking (latched opened)).sil.phase = .opened ∧
      permitFails (taking (latched opened)) [.estopLatched, .leafFault, .driveNotReady, .vesselUnderway] =
        some .estopLatched ∧
      permitFails (taking recovering)
        [.estopLatched, .roadNotClosed, .leafFault, .driveNotReady, .locksNotWithdrawn, .barrierNotProven] =
          some .roadNotClosed ∧
      ((taking recovering).leaves.get .north).pos.certain = false ∧ leafState (taking recovering) .north ≠ .seated := by
  decide +kernel

theorem meets_RoadCloseStartsTheClosure :
    (∀ b ∈ [traffic, lit alarmed, held (lit alarmed), alarmed, lit recovering],
      (taking b).sil.mode = .operate ∧ (taking b).sil.latch = false ∧ stationReady (taking b) .n = true ∧
        stationReady (taking b) .s = true) ∧
      -- from TRAFFIC with the road open
      (taking traffic).sil.phase = .traffic ∧ (taking traffic).rsq.phase = .roadOpen ∧
      ((taking traffic).barriers.get .northEntry).command = .raise ∧
      ((taking traffic).barriers.get .northEntry).state ≠ .fault ∧
      -- from ALERT
      (taking (lit alarmed)).sil.phase = .traffic ∧ (taking (lit alarmed)).rsq.phase = .alert ∧
      complementFailing (taking (lit alarmed)) = .none ∧ (taking (lit alarmed)).sil.held = false ∧
      ((taking (lit alarmed)).barriers.get .northEntry).state = .up ∧
      ((taking (lit alarmed)).barriers.get .northEntry).command = .raise ∧
      ((taking (lit alarmed)).barriers.get .northExit).command = .raise ∧
      (taking (held (lit alarmed))).sil.held = true ∧ complementFailing (taking alarmed) ≠ .none ∧
      -- from RECOVERY
      (taking (lit recovering)).sil.phase = .recovery ∧ (taking (lit recovering)).rsq.phase = .alert ∧
      ((taking (lit recovering)).barriers.get .northExit).state = .down ∧
      ((taking (lit recovering)).barriers.get .northExit).command = .lower ∧
      (let halted := taking (withBars downBar { command := .stop, state := .down } (lit recovering))
       halted.sil.mode = .operate ∧ halted.sil.latch = false ∧ stationReady halted .n = true ∧
         stationReady halted .s = true ∧ halted.sil.phase = .recovery ∧ halted.rsq.phase = .alert ∧
         (halted.barriers.get .northExit).state = .down ∧ (halted.barriers.get .northExit).command = .stop ∧
         isEntry .northExit = false ∧ (halted.barriers.get .northEntry).state = .down) := by decide +kernel

/-- CLOSING in AMBER. -/
def ambers : Blocks :=
  { traffic with sil := { traffic.sil with phase := .closing }, rsq := { phase := .amber, timer := .running 9 } }

/-- A barrier on its way down. -/
def goingDown : BarrierRec := { command := .lower, state := .lowering, timer := .running 9 }

/-- CLOSING in a road phase. -/
def closingIn (road : RoadPhase) (entry exit : BarrierRec) : Blocks :=
  onRoad { phase := road } (withBars entry exit ambers)

theorem meets_RoadOpenOpensTheRoad :
    (∀ b ∈ [closed, held closed, ambers, alarmed], (taking b).sil.mode = .operate ∧
        permitFails (taking b) [.estopLatched, .leafNotSeated, .locksNotDriven, .stationNotReady] = none) ∧
      (taking closed).sil.phase = .closed ∧ (taking closed).sil.held = false ∧
      ((taking closed).barriers.get .northEntry).command = .lower ∧
      ((taking closed).barriers.get .northEntry).state ≠ .fault ∧
      ((taking closed).barriers.get .northExit).command = .lower ∧
      ((taking closed).barriers.get .northExit).state = .down ∧
      (taking (held closed)).sil.phase = .closed ∧ (taking (held closed)).sil.held = true ∧
      (taking ambers).sil.phase = .closing ∧ (taking ambers).rsq.phase = .amber ∧
      (taking alarmed).sil.phase = .traffic ∧ (taking alarmed).rsq.phase = .alert ∧
      -- AMBER and RED_WARN: with and without a loss, HELD or not, over barriers to call, to leave and to stop
      (let lost := taking (sees (bars .entryUp .exitUp ++ [.estop]) ambers)
       let called := taking (withBars goingDown { command := .raise, state := .fault } (onRoad { phase := .redWarn } ambers))
       let stops := taking (held (withBars goingDown upBar ambers))
       (∀ b ∈ [lost, called, stops], b.sil.mode = .operate ∧ b.sil.phase = .closing ∧
         (b.rsq.phase = .amber ∨ b.rsq.phase = .redWarn) ∧
         permitFails b [.estopLatched, .leafNotSeated, .locksNotDriven, .stationNotReady] = none) ∧
       lossStands lost = true ∧ lossStands called = false ∧ lossStands (taking ambers) = false ∧
       called.rsq.phase = .redWarn ∧ called.sil.held = false ∧ (called.barriers.get .northEntry).command = .lower ∧
       (called.barriers.get .northExit).state = .fault ∧ (lost.barriers.get .northEntry).command = .raise ∧
       stops.sil.held = true ∧ (stops.barriers.get .northEntry).state = .lowering ∧
       (stops.barriers.get .northExit).state ≠ .lowering) ∧
      -- the abandonment, the exit barriers UP or not, HELD or not
      (let p := taking (closingIn .entryLowering goingDown upBar)
       let q := taking (closingIn .clearance downBar upBar)
       let r := taking (closingIn .exitLowering downBar goingDown)
       let h := taking (held (closingIn .exitLowering downBar goingDown))
       (∀ b ∈ [p, q, r, h], b.sil.mode = .operate ∧ b.sil.phase = .closing ∧
         permitFails b [.estopLatched, .leafNotSeated, .locksNotDriven, .stationNotReady] = none) ∧
       p.rsq.phase = .entryLowering ∧ p.barriers.northExit.state = .up ∧ p.barriers.southExit.state = .up ∧
       p.barriers.northEntry = goingDown ∧ q.rsq.phase = .clearance ∧ q.barriers.northEntry = downBar ∧
       r.rsq.phase = .exitLowering ∧ r.barriers.northExit = goingDown ∧ r.barriers.northEntry = downBar ∧
       r.sil.held = false ∧ h.rsq.phase = .exitLowering ∧ h.sil.held = true ∧ h.barriers.northExit = goingDown ∧
       h.barriers.northEntry.state ≠ .lowering ∧ isEntry .northEntry = true ∧ isEntry .northExit = false) := by
  decide +kernel

/-- A withdrawal under way, with the locks given. -/
def withdrawing (step : SeqStep) (centre tail : LockRec) : Blocks :=
  { inPhase .unlocking (withLocks centre tail closed) with
    seq := { sequence := .withdraw, step := step, status := .running } }

def goingOut : LockRec := { command := .withdraw, state := .withdrawing, timer := .running 9 }
def haltedOut : LockRec := { command := .withdraw, state := .interrupted, timer := .halted 9 }

/-- A withdrawal with the NORTH tail in FAULT and the SOUTH tail on its way, the CENTRE lock as its step has it. -/
def withFaultedTail (step : SeqStep) : Blocks :=
  { withdrawing step outLock goingOut with
    locks := ⟨if step = .tails then outLock else goingOut, { command := .withdraw, state := .fault, fault := .travelTimeout }, goingOut⟩ }

/-- R154, R151: at a reversal from withdraw step TAILS a tail in FAULT has DRIVE recorded, and stays in FAULT. -/
theorem test_reversal_records_drive_on_a_faulted_tail :
    let locks := fun step => (after (.locksDrive 1#8) (at_ (withFaultedTail step))).blocks.locks
    (locks .tails).northTail = { command := .drive, state := .fault, fault := .travelTimeout } ∧
      (locks .tails).southTail.state = .driving ∧ (locks .centre).northTail.command = .withdraw := by decide +kernel

theorem meets_LockRequestsStartTheirSequence :
    (∀ b ∈ [closed, held closed, unlocked, held unlocked, inPhase .seated unlocked, inPhase .recovery closed,
        inPhase .recovery unlocked, withdrawing .centre goingOut drivenLock, withdrawing .tails outLock goingOut,
        held (withdrawing .centre haltedOut drivenLock)],
      (taking b).sil.mode = .operate ∧ (taking b).sil.latch = false ∧ bothSeated (taking b) = true) ∧
      (∀ b ∈ [closed, held closed], (taking b).sil.phase = .closed ∧ (taking b).rsq.phase = .roadClosed ∧
        ∀ k ∈ LockId.all, ((taking b).locks.get k).state = .driven) ∧
      (∀ b ∈ [unlocked, held unlocked], (taking b).sil.phase = .unlocked ∧
        ∀ k ∈ LockId.all, ((taking b).locks.get k).state = .withdrawn) ∧
      (taking (inPhase .seated unlocked)).sil.phase = .seated ∧
      (∀ b ∈ [inPhase .recovery closed, inPhase .recovery unlocked],
        (taking b).sil.phase = .recovery ∧ (taking b).rsq.phase = .roadClosed) ∧
      -- reversals, and the record that already stands as the request starts it
      (∀ b ∈ [withdrawing .centre goingOut drivenLock, withdrawing .tails outLock goingOut,
        held (withdrawing .centre haltedOut drivenLock)], (taking b).sil.phase = .unlocking) ∧
      (taking (withdrawing .centre goingOut drivenLock)).sil.held = false ∧
      ((taking (withdrawing .centre goingOut drivenLock)).locks.get .centre).state = .withdrawing ∧
      ((taking (withdrawing .tails outLock goingOut)).locks.get .northTail).state = .withdrawing ∧
      (taking (held (withdrawing .centre haltedOut drivenLock))).sil.held = true ∧
      ((taking (held (withdrawing .centre haltedOut drivenLock))).locks.get .centre).state = .interrupted ∧
      (taking (inPhase .closed (held (withdrawing .centre drivenLock drivenLock)))).seq =
        { sequence := .withdraw, step := .centre, status := .running } ∧
      -- a reversal with a tail in FAULT, at withdraw step TAILS and at CENTRE
      (∀ step ∈ [SeqStep.tails, .centre],
        let b := taking (withFaultedTail step)
        b.sil.mode = .operate ∧ b.sil.latch = false ∧ bothSeated b = true ∧ b.sil.phase = .unlocking ∧
          b.sil.held = false ∧ b.seq.step = step ∧ (b.locks.get .northTail).state = .fault ∧
          (b.locks.get .southTail).state = .withdrawing) := by decide +kernel

theorem rests_unlocked : LeavesAtRest (taking (withQueue unlocked)) := fun l => by cases l <;> decide +kernel

/-- OPEN with a COMPLETE group and two vessels waiting, the leaves at rest in a record. -/
def completed (leaf : LeafRec) : Blocks :=
  { withQueue opened with
    leaves := ⟨leaf, leaf⟩
    nav := { (withQueue opened).nav with group := .complete, target := .passage 2000, targetAngle := 2000 } }

/-- A leaf at rest at 2000 cd. -/
def lowLeaf : LeafRec := { parkedLeaf with pos := { parkedLeaf.pos with position := 10000 } }

theorem rests_lowLeaf : LeavesAtRest (taking (completed lowLeaf)) := fun l => by cases l <;> decide +kernel

/-- New speeds and a new margin pending. -/
def withPending (b : Blocks) : Blocks :=
  { b with pend := { vCruise := some 700, accel := some 5, angleMarginCd := some 400, followMs := some 9000 } }

/-- OPEN with a COMPLETE group, one leaf at the new target and the other short of it. -/
def uneven : Blocks := { completed lowLeaf with leaves := ⟨parkedLeaf, lowLeaf⟩ }

theorem rests_uneven : LeavesAtRest (taking uneven) := fun l => by cases l <;> decide +kernel

theorem begins_raise :
    MovementBegins (.raise (.angle 4018)) (taking (withPending (withQueue unlocked))) ∧
      MovementBegins (.raise (.angle 3918)) (taking uneven) ∧
      ¬ MovementBegins (.raise (.angle 3918)) (taking (completed parkedLeaf)) := by
  simp only [movementBegins_iff]
  decide +kernel

theorem meets_LeavesRaiseFormsTheGroup :
    ((∀ b ∈ [withQueue unlocked, held (withQueue unlocked)], (taking b).sil.mode = .operate ∧
      (taking b).sil.phase = .unlocked ∧
      permitFails (taking b) (permitRaise (0#8 == 1#8)) = none ∧ permitFails (taking b) (permitRaise (1#8 == 1#8)) = none) ∧
      (taking (withQueue unlocked)).sil.held = false ∧ (taking (held (withQueue unlocked))).sil.held = true ∧
      (1#8).toNat < 2 ∧ 2 ≤ (2#8).toNat ∧
      -- from OPEN, at the new target and short of it
      (∀ b ∈ [completed parkedLeaf, completed lowLeaf, held (completed lowLeaf)], (taking b).sil.mode = .operate ∧
        (taking b).sil.phase = .opened ∧ (taking b).nav.group = .complete ∧
        permitFails (taking b) (permitRaise (1#8 == 1#8)) = none) ∧
      (∀ l ∈ LeafId.all, alreadyArrived (taking (completed parkedLeaf)) l (.raise (.angle 3918)) = true ∧
        alreadyArrived (taking (completed lowLeaf)) l (.raise (.angle 3918)) = false) ∧
      (taking (completed lowLeaf)).sil.held = false ∧ (taking (held (completed lowLeaf))).sil.held = true ∧
      -- the refusals
      (taking traffic).sil.phase = .traffic ∧ (taking (withGroup .cleared .waiting none opened)).nav.group = .passing ∧
      (taking (latched unlocked)).sil.phase = .unlocked ∧
      permitFails (taking (latched unlocked)) (permitRaise (0#8 == 1#8)) = some .estopLatched ∧
      -- pending speeds and margin, and a leaf that takes no part beside one that does
      (let b := taking (withPending (withQueue unlocked))
       b.sil.mode = .operate ∧ b.sil.phase = .unlocked ∧ b.sil.held = false ∧ b.pend.vCruise = some 700 ∧
         b.pend.angleMarginCd = some 400 ∧ permitFails b (permitRaise (1#8 == 1#8)) = none) ∧
      (taking uneven).sil.phase = .opened ∧ (taking uneven).nav.group = .complete ∧ (taking uneven).sil.held = false ∧
      permitFails (taking uneven) (permitRaise (1#8 == 1#8)) = none ∧ leafState (taking uneven) .north = .parked ∧
      alreadyArrived (taking uneven) .north (.raise (.angle 3918)) = true ∧
      alreadyArrived (taking uneven) .south (.raise (.angle 3918)) = false) ∧
      LeavesAtRest (taking (withQueue unlocked)) ∧ LeavesAtRest (taking (completed lowLeaf)) ∧
      LeavesAtRest (taking uneven) ∧ MovementBegins (.raise (.angle 4018)) (taking (withPending (withQueue unlocked))) ∧
      ¬ MovementBegins (.raise (.angle 3918)) (taking (completed parkedLeaf)) :=
  ⟨by decide +kernel, rests_unlocked, rests_lowLeaf, rests_uneven, begins_raise.1, begins_raise.2.2⟩

/-- OPEN with one lock out of place. -/
def opened1 : Blocks := { opened with locks := ⟨drivenLock, outLock, outLock⟩ }

theorem rests_opened : LeavesAtRest (taking opened) := fun l => by cases l <;> decide +kernel

theorem rests_stranded : LeavesAtRest (taking stranded) := fun l => by cases l <;> decide +kernel

/-- A blocks whose leaves have a lowering as their next movement. -/
def awaiting (b : Blocks) : Blocks :=
  let waits := fun r : LeafRec => { r with mot := { r.mot with next := some .lower } }
  { b with leaves := ⟨waits b.leaves.north, waits b.leaves.south⟩ }

/-- OPEN with the NORTH brake SET under a feedback that shows it released, the SOUTH brake in a state. -/
def stuckBrake (south : BrakeState) : Blocks :=
  { sees [.brakeReleased .north] opened with brakes := ⟨{}, { state := south }⟩ }

theorem rests_awaiting : LeavesAtRest (awaiting opened) := fun l => by cases l <;> decide +kernel

theorem meets_NextMovementsAreTaken :
    (∀ b ∈ [opened, held opened, opened1, withBars upBar downBar opened], (awaiting b).leaves.north.mot.next = some .lower ∧
        ∀ l ∈ LeafId.all, leafInMotion (awaiting b) l = false ∧ ((awaiting b).brakes.get l).state ≠ .setting) ∧
      leafInMotion (awaiting raising) .north = true ∧ opened.leaves.north.mot.next = none ∧
      opened.leaves.south.mot.next = none ∧ (awaiting (held opened)).sil.held = true ∧
      leafState (awaiting { opened with leaves := ⟨{ mot := { state := .fault } }, parkedLeaf⟩ }) .north = .fault ∧
      (∀ l ∈ LeafId.all, leafState (awaiting opened) l ≠ .fault) ∧ (awaiting opened).sil.held = false ∧
      ((awaiting opened1).locks.get .centre).state ≠ .withdrawn ∧
      ((awaiting (withBars upBar downBar opened)).barriers.get .northEntry).state ≠ .down ∧
      (∀ b ∈ [opened, withBars upBar downBar opened], ∀ k ∈ LockId.all, ((awaiting b).locks.get k).state = .withdrawn) ∧
      (∀ i ∈ BarrierId.all, ((awaiting opened).barriers.get i).state = .down) ∧
      -- a brake that refuses, beside one that does not, or beside a leaf that does not take part
      (∀ b ∈ [stuckBrake .set, { stuckBrake .set with leaves := ⟨parkedLeaf, { mot := { state := .fault } }⟩ }],
        b.sil.mode = .operate ∧ alreadyArrived b .north .lower = false ∧ leafState b .north ≠ .fault ∧
          (b.brakes.get .north).state = .set ∧ made b (.brakeReleased .north) = true ∧
          ∀ l ∈ LeafId.all, leafInMotion b l = false ∧ (b.brakes.get l).state ≠ .setting) ∧
      alreadyArrived (stuckBrake .set) .south .lower = false ∧ leafState (stuckBrake .set) .south ≠ .fault ∧
      made (stuckBrake .set) (.brakeReleased .south) = false ∧
      ((stuckBrake .fault).brakes.get .south).state = .fault := by decide +kernel

theorem begins_lower :
    (MovementBegins .lower (taking (withPending opened)) ∧ ¬ MovementBegins .lower (taking raising)) ∧
      (MovementBegins .lower (withPending (awaiting opened)) ∧ ¬ MovementBegins .lower (awaiting raising)) ∧
      MovementBegins .recoveryLower (taking (withPending stranded)) := by
  simp only [movementBegins_iff]
  decide +kernel

theorem meets_LoweringsAreDirected :
    ((∀ b ∈ [opened, held opened, raising, opened1], (taking b).sil.mode = .operate ∧
      ((taking b).sil.phase = .raising ∨ (taking b).sil.phase = .opened) ∧
      permitFails (taking b) [.estopLatched, .leafFault, .driveNotReady, .vesselUnderway] = none) ∧
      (taking (held opened)).sil.held = true ∧ (taking opened).sil.held = false ∧
      maintainedFails (taking opened) = none ∧
      (taking raising).sil.held = false ∧ maintainedFails (taking raising) = none ∧
      leafState (taking raising) .north = .moving ∧
      (taking opened1).sil.held = false ∧ maintainedFails (taking opened1) = some .locksNotWithdrawn ∧
      -- a group with a vessel that returns
      (let grouped := taking (withGroup .cleared .waiting (some 0) opened)
       permitFails grouped [.estopLatched, .leafFault, .driveNotReady, .vesselUnderway] = none ∧
         grouped.sil.phase = .opened ∧
         (grouped.nav.slots.filter fun x => x.state == .waiting).map Slot.vessel = [vessel1]) ∧
      (∀ b ∈ [stranded, held stranded], (taking b).sil.mode = .operate ∧ (taking b).sil.phase = .recovery ∧
        ((taking b).leaves.get .north).pos.certain = false ∧ leafState (taking b) .north ≠ .seated ∧
        permitFails (taking b) [.estopLatched, .roadNotClosed, .leafFault, .driveNotReady, .locksNotWithdrawn,
          .barrierNotProven] = none) ∧
      -- pending speeds
      (∀ b ∈ [opened, stranded], (taking (withPending b)).pend.vCruise = some 700 ∧ (taking (withPending b)).sil.held = false ∧
        (taking (withPending b)).sil.mode = .operate) ∧
      maintainedFails (taking (withPending opened)) = none ∧
      permitFails (taking (withPending opened)) [.estopLatched, .leafFault, .driveNotReady, .vesselUnderway] = none ∧
      permitFails (taking (withPending stranded)) [.estopLatched, .roadNotClosed, .leafFault, .driveNotReady,
        .locksNotWithdrawn, .barrierNotProven] = none) ∧
      ((MovementBegins .lower (taking (withPending opened)) ∧ ¬ MovementBegins .lower (taking raising)) ∧
        (MovementBegins .lower (withPending (awaiting opened)) ∧ ¬ MovementBegins .lower (awaiting raising)) ∧
        MovementBegins .recoveryLower (taking (withPending stranded))) ∧
      LeavesAtRest (taking opened) ∧ LeavesAtRest (taking stranded) ∧ LeavesAtRest (awaiting opened) ∧
      RankOrder (taking opened).nav.queue :=
  ⟨by decide +kernel, begins_lower, rests_opened, rests_stranded, rests_awaiting, by unfold RankOrder; decide +kernel⟩

theorem meets_HoldsStopTheLeaves :
    (taking raising).sil.mode = .operate ∧ motionRunning (taking raising) = true ∧
      (taking (held traffic)).sil.mode = .operate ∧ (taking (held traffic)).sil.held = true ∧
      (taking traffic).sil.mode = .operate ∧ motionRunning (taking traffic) = false ∧ (taking traffic).sil.held = false ∧
      (at_ { raising with presence := some 0 }).blocks.sil.mode = .operate ∧
      (at_ { raising with presence := some 0 }).blocks.presence ≠ none ∧ raising.presence = none ∧
      Blocks.reset.sil.mode ≠ .operate ∧
      -- the maintained conditions
      leafState raising .north = .moving ∧ (∀ k ∈ LockId.all, (raising.locks.get k).state = .withdrawn) ∧
      (∀ i ∈ BarrierId.all, (raising.barriers.get i).state = .down) ∧ raising.sil.consoleLost = false ∧
      ((withLocks outLock goingOut raising).locks.get .northTail).state ≠ .withdrawn ∧
      ((withBars upBar downBar raising).barriers.get .northEntry).state ≠ .down ∧ raising.sil.overrides = [] ∧
      ({ raising with sil := { raising.sil with consoleLost := true } } : Blocks).sil.consoleLost = true ∧
      (∀ l ∈ LeafId.all, leafState traffic l = .seated) ∧
      -- locks that travel under a leaf off its seat, and one that does not
      leafState (withLocks outLock goingOut opened) .north ≠ .seated ∧
      ((withLocks outLock goingOut opened).locks.get .northTail).state = .withdrawing ∧
      ((withLocks outLock goingOut opened).locks.get .northTail).timer = .running 9 ∧
      ((withLocks outLock goingOut opened).locks.get .centre).state = .withdrawn := by decide +kernel

/-- UNLOCKED under HELD, with two locks INTERRUPTED on their way and the third resting. -/
def interrupted : Blocks :=
  held { unlocked with locks := ⟨{ command := .withdraw, state := .interrupted, timer := .halted 9 },
                                 { command := .drive, state := .interrupted, timer := .halted 9 }, outLock⟩ }

/-- A raise held at rest short of its target. -/
def shortRaise : Blocks :=
  held { raising with
    leaves := ⟨{ movingLeaf with mot := { movingLeaf.mot with state := .parked, command := 0 } },
               { movingLeaf with mot := { movingLeaf.mot with state := .parked, command := 0 } }⟩
    brakes := ⟨{}, {}⟩
    iq := opened.iq }

theorem rests_shortRaise : LeavesAtRest (taking shortRaise) := fun l => by cases l <;> decide +kernel

/-- RECOVERY under a RECOVERY_LOWER with both leaves on their seats. -/
def regained : Blocks := ordered .recoveryLower (inPhase .recovery unlocked)

/-- RECOVERY with the road closed and a lock sequence RUNNING. -/
def sequenced (q : LockSequence) (b : Blocks) : Blocks :=
  { inPhase .recovery b with seq := { sequence := q, step := .tails, status := .running } }

theorem meets_EventsFollowAndPost :
    State.reset.cpt.buffer = [] ∧ State.reset.cpt.tx = none ∧ (busy 0).cpt.buffer = [] ∧ (busy 0).cpt.tx ≠ none ∧
      Blocks.reset.sil.mode = .config ∧ traffic.sil.mode = .operate ∧
      -- phases that are complete
      (inPhase .closing closed).sil.order = none ∧ (inPhase .closing closed).rsq.phase = .roadClosed ∧
      (inPhase .reopening traffic).rsq.phase = .roadOpen ∧ (inPhase .reopening alarmed).rsq.phase = .alert ∧
      (∀ k ∈ LockId.all, ((inPhase .unlocking unlocked).locks.get k).state = .withdrawn ∧
        ((inPhase .locking closed).locks.get k).state = .driven) ∧
      (∀ l ∈ LeafId.all, leafState (inPhase .raising opened) l = .parked ∧
        ((inPhase .raising opened).leaves.get l).mot.arrived = true ∧
        leafState (inPhase .lowering unlocked) l = .seated) ∧
      -- movements that end short
      (∀ b ∈ [inPhase .raising shortRaise, inPhase .lowering shortRaise,
          ordered .recoveryLower (inPhase .recovery shortRaise)],
        (∀ l ∈ LeafId.all, leafState b l = .parked ∧ (b.leaves.get l).mot.arrived = false) ∧ waitingMovement b = none) ∧
      (inPhase .raising shortRaise).sil.order ≠ some .recoveryLower ∧
      (inPhase .raising opened).sil.order ≠ some .recoveryLower ∧
      -- a RECOVERY_LOWER in UNLOCKED: complete, short, and going on
      (∀ b ∈ [ordered .recoveryLower unlocked, ordered .recoveryLower (inPhase .unlocked shortRaise),
          ordered .recoveryLower (inPhase .unlocked raising), ordered .recoveryLower (inPhase .unlocked (awaiting opened))],
        b.sil.phase = .unlocked ∧ b.sil.order = some .recoveryLower) ∧
      (∀ l ∈ LeafId.all, leafState (ordered .recoveryLower unlocked) l = .seated ∧
        leafState (ordered .recoveryLower (inPhase .unlocked shortRaise)) l = .parked) ∧
      waitingMovement (ordered .recoveryLower (inPhase .unlocked shortRaise)) = none ∧
      leafState (ordered .recoveryLower (inPhase .unlocked raising)) .north = .moving ∧
      waitingMovement (ordered .recoveryLower (inPhase .unlocked (awaiting opened))) ≠ none ∧
      -- RECOVERY
      regained.sil.order = some .recoveryLower ∧ regained.rsq.phase = .roadClosed ∧ traffic.rsq.phase ≠ .roadClosed ∧
      (∀ l ∈ LeafId.all, leafState regained l = .seated) ∧ leafState stranded .north ≠ .seated ∧
      (∀ k ∈ LockId.all, (regained.locks.get k).state = .withdrawn ∧
        ((inPhase .recovery closed).locks.get k).state = .driven) ∧
      traffic.seq.status ≠ .complete ∧ ({ regained with seq := { status := .complete } } : Blocks).seq.status = .complete ∧
      recovering.sil.phase = .recovery ∧ recovering.rsq.phase ≠ .roadClosed ∧
      -- a sequence that reaches the end of its own direction, one whose locks stand there, and a noted one
      (sequenced .withdraw unlocked).seq.sequence = .withdraw ∧ (sequenced .withdraw unlocked).rsq.phase = .roadClosed ∧
      (traffic.locks.get .centre).state ≠ .withdrawn ∧ (unlocked.locks.get .centre).state ≠ .driven ∧
      (sequenced .drive closed).seq.sequence = .drive ∧ (sequenced .drive unlocked).sil.phase = .recovery ∧
      (sequenced .drive unlocked).seq.status ≠ .complete ∧ (sequenced .drive unlocked).sil.order = none ∧
      Note.lock .centre ∈ (note (.lock .centre) regained).notes ∧
      -- a leaf that has changed, and one that has not
      leafState traffic .north ≠ leafState raising .north ∧ leafState opened .south = leafState (held opened) .south := by
  decide +kernel

/-- A closure under HELD with a pending step. -/
def stepping (r : Rsq) (b : Blocks) : Blocks := held (onRoad r b)

/-- A drive sequence under way, its tails INTERRUPTED. -/
def homeward : Blocks :=
  { withdrawing .tails outLock haltedOut with seq := { sequence := .drive, step := .tails, status := .running } }

def complementStep : Rsq := { phase := .redWarn, timer := .runOut, step := .enterEntryLowering }
def clearStep : Rsq := { phase := .clearance, clearance := .runOut, step := .enterExitLowering }

/-- A blocks with a barrier and an approach overridden. -/
def overriding (b : Blocks) : Blocks :=
  { b with sil := { b.sil with overrides := [.barrier .northEntry, .complement .south] } }

theorem begins_resume : MovementBegins (.raise (.angle 3918)) (taking (withPending shortRaise)) := by
  rw [movementBegins_iff]
  decide +kernel

theorem meets_MotionResumeClearsTheHold :
    ((∀ b ∈ [traffic, latched (held closed), interrupted, shortRaise], (taking b).sil.mode = .operate) ∧
      (taking traffic).sil.held = false ∧ (taking (latched (held closed))).sil.held = true ∧
      permitFails (taking (latched (held closed))) (permitResume (taking (latched (held closed)))) =
        some .estopLatched ∧
      (taking interrupted).sil.held = true ∧
      permitFails (taking interrupted) (permitResume (taking interrupted)) = none ∧
      (taking interrupted).seq.status ≠ .running ∧
      ((taking interrupted).locks.get .centre).state = .interrupted ∧
      ((taking interrupted).locks.get .centre).command = .withdraw ∧
      ((taking interrupted).locks.get .northTail).state = .interrupted ∧
      ((taking interrupted).locks.get .northTail).command = .drive ∧
      ((taking interrupted).locks.get .southTail).state ≠ .interrupted ∧
      movementToRestart (taking interrupted) = false ∧
      (taking shortRaise).sil.held = true ∧
      permitFails (taking shortRaise) (permitResume (taking shortRaise)) = none ∧
      (taking shortRaise).sil.order = some (.raise (.angle 3918)) ∧
      movementComplete (taking shortRaise) (.raise (.angle 3918)) = false ∧
      -- P_RESUME
      shortRaise.sil.order = some (.raise (.angle 3918)) ∧ (shortRaise.leaves.get .north).mot.arrived = false ∧
      traffic.sil.order = none ∧ (interrupted.locks.get .centre).state = .interrupted ∧
      traffic.seq.status ≠ .running ∧ (∀ k ∈ LockId.all, (traffic.locks.get k).state ≠ .interrupted) ∧
      ambers.rsq.phase = .amber ∧ traffic.rsq.phase = .roadOpen ∧
      -- the road
      (∀ x ∈ [(stepping { phase := .amber, timer := .runOut, step := .enterRedWarn } ambers, PendingStep.enterRedWarn),
          (stepping complementStep (lit ambers), .enterEntryLowering), (stepping complementStep ambers, .enterEntryLowering),
          (stepping clearStep ambers, .enterExitLowering),
          (stepping { clearStep with clearance := .running 9 } ambers, .enterExitLowering),
          (stepping { phase := .exitRaising, step := .enterEntryRaising } ambers, .enterEntryRaising),
          (held (closingIn .entryLowering { command := .stop, state := .stopped, timer := .halted 9 } upBar), .none),
          (held closed, .none)],
        (taking x.1).sil.mode = .operate ∧ (taking x.1).sil.held = true ∧
          permitFails (taking x.1) (permitResume (taking x.1)) = none ∧ (taking x.1).rsq.step = x.2) ∧
      complementFailing (taking (stepping complementStep (lit ambers))) = .none ∧
      complementFailing (taking (stepping complementStep ambers)) ≠ .none ∧
      (taking (stepping clearStep ambers)).rsq.clearance = .runOut ∧
      -- overrides of an entry barrier in FAULT, its switches DOWN, and of an approach without its complement
      (let covered := taking (overriding (sees (bars .entryDown .exitUp ++ pins .lockDriven ++ seats)
         (held (closingIn .entryLowering { command := .stop, state := .fault, fault := .travelTimeout } upBar))))
       covered.sil.held = true ∧ permitFails covered (permitResume covered) = none ∧
         covered.sil.overrides = [.barrier .northEntry, .complement .south] ∧
         (covered.barriers.get .northEntry).state = .fault ∧ barrierConsistent covered .northEntry = true) ∧
      -- a RUNNING sequence: first step under way, first step done, second step done
      (∀ b ∈ [withdrawing .centre haltedOut drivenLock, withdrawing .centre outLock drivenLock,
          withdrawing .tails outLock outLock, homeward],
        (taking (held b)).sil.mode = .operate ∧ (taking (held b)).sil.held = true ∧
          (taking (held b)).seq = b.seq ∧ permitFails (taking (held b)) (permitResume (taking (held b))) = none) ∧
      -- pending speeds
      (let b := taking (withPending shortRaise)
       b.sil.mode = .operate ∧ b.sil.held = true ∧ b.pend.accel = some 5 ∧ permitFails b (permitResume b) = none ∧
         b.sil.order = some (.raise (.angle 3918)) ∧ movementComplete b (.raise (.angle 3918)) = false)) ∧
      LeavesAtRest (taking shortRaise) ∧ MovementBegins (.raise (.angle 3918)) (taking (withPending shortRaise)) :=
  ⟨by decide +kernel, rests_shortRaise, begins_resume⟩

/-- TRAFFIC with the latch set and the ESTOP input not made. -/
def pressed : Blocks :=
  { latched traffic with iq := madeInputs (bars .entryUp .exitUp ++ pins .lockDriven ++ seats) }

theorem meets_EstopResetNeedsTheInput :
    (∀ b ∈ [traffic, latched traffic, pressed], (taking b).sil.mode = .operate) ∧
      (taking (latched traffic)).sil.latch = true ∧ made (taking (latched traffic)) .estop = true ∧
      (taking pressed).sil.latch = true ∧ made (taking pressed) .estop = false ∧
      (taking traffic).sil.latch = false := by decide +kernel

/-- RECOVERY with a leaf, two locks and three barriers in FAULT: the first lock and the first barrier between their
switches, the second ones with both switches made. -/
def broken (driveReady : List InputFn) : Blocks :=
  { stranded with
    iq := madeInputs ([.estop, .entryUp .south, .entryDown .south, .exitDown .north, .exitDown .south,
      .lockDriven .northTail, .lockWithdrawn .northTail, .lockWithdrawn .southTail] ++ driveReady)
    leaves := ⟨{ mot := { state := .fault }, win := { running := true, stationary := some true }
                 flt := { first := some .driveNotReady, kinds := [.driveNotReady] } }, seatedLeaf⟩
    barriers := ⟨{ state := .fault, fault := .lostPosition }, downBar, { state := .fault, fault := .switchConflict },
      { command := .lower, state := .fault, fault := .travelTimeout }⟩
    locks := ⟨{ state := .fault, fault := .lostPosition }, { command := .withdraw, state := .fault, fault := .switchConflict },
      outLock⟩ }

/-- Both brakes in a state, under SET. -/
def braked (q : BrakeState) (b : Blocks) : Blocks := { b with brakes := ⟨{ state := q }, { state := q }⟩ }

/-- CLOSED with a lock in FAULT in a RUNNING sequence: the CENTRE lock in a withdrawal, the NORTH tail in a drive. -/
def clearing (q : LockSequence) (step : SeqStep) (on : List InputFn) : Blocks :=
  { sees (on ++ [.lockDriven .southTail]) closed with
    locks := match q with
      | .drive => ⟨outLock, { command := .drive, state := .fault }, drivenLock⟩
      | _ => ⟨{ command := .withdraw, state := .fault }, drivenLock, drivenLock⟩
    seq := { sequence := q, step := step, status := .running } }

/-- CLOSING with every entry barrier in FAULT, in a road phase. -/
def barred (road : RoadPhase) (on : List InputFn) : Blocks :=
  onRoad { phase := road } (sees on (withBars { state := .fault } upBar ambers))

theorem meets_FaultClearResumes :
    -- each check of a leaf that fails
    (let stopped : LeafRec :=
       { mot := { state := .fault }, win := { stationary := some true }, flt := { kinds := [.overtravel] } }
     let past := taking { sees [.overtravel .north] traffic with leaves := ⟨stopped, seatedLeaf⟩ }
     let fast := taking { traffic with leaves := ⟨{ stopped with win := {} }, seatedLeaf⟩ }
     let free := taking (braked .released { traffic with leaves := ⟨stopped, seatedLeaf⟩ })
     (∀ b ∈ [past, fast, free], b.sil.mode = .operate ∧ (b.leaves.get .north).mot.state = .fault ∧
       LeafFault.driveNotReady ∉ (b.leaves.get .north).flt.kinds) ∧
       LeafFault.overtravel ∈ (past.leaves.get .north).flt.kinds ∧ made past (.overtravel .north) = true ∧
       (fast.leaves.get .north).win.stationary ≠ some true ∧ (free.brakes.get .north).state ≠ .set) ∧
      -- a lock that clears in a RUNNING sequence, before its target and at it, in either step
      (∀ q ∈ [LockSequence.withdraw, .drive], ∀ step ∈ [SeqStep.centre, .tails],
        ∀ on ∈ [[InputFn.lockDriven .centre, .lockDriven .northTail],
            [.lockWithdrawn .centre, .lockWithdrawn .northTail], []],
          let b := taking (clearing q step on)
          b.sil.mode = .operate ∧ b.sil.latch = false ∧ b.sil.held = false ∧ b.seq.status = .running ∧ b.seq.step = step ∧
            b.seq.sequence = q ∧ (∀ l ∈ LeafId.all, leafState b l = .seated) ∧
            ((b.locks.get .centre).state = .fault ∨ (b.locks.get .northTail).state = .fault) ∧
            lockShows b .centre ≠ .conflict ∧ lockShows b .northTail ≠ .conflict) ∧
      -- a barrier under each call with HELD clear, at its target and away from it
      (∀ p ∈ [(RoadPhase.exitLowering, BarrierCmd.lower), (.redWarn, .raise)],
          ∀ on ∈ [[InputFn.entryUp .north], [.entryDown .north]],
        let b := taking (barred p.1 on)
        b.sil.mode = .operate ∧ b.sil.latch = false ∧ b.sil.held = false ∧ (b.barriers.get .northEntry).state = .fault ∧
          barrierFresh b .northEntry = true ∧ barrierShows b .northEntry ≠ .conflict ∧
          (roadCall b.rsq.phase b.rsq.exitPaused .northEntry).getD (b.barriers.get .northEntry).command = p.2) := by
  decide +kernel

theorem meets_FaultClearLeavesFault :
    let good := taking (held (broken [.driveReady .north, .driveReady .south]))
    let dead := taking (broken [])
    good.sil.mode = .operate ∧ good.sil.latch = false ∧ good.sil.held = true ∧ dead.sil.mode = .operate ∧
      (∀ l ∈ LeafId.all, (BitVec.ofNat 8 (leafNumber l)).toNat = leafNumber l) ∧
      (∀ k ∈ LockId.all, (BitVec.ofNat 8 (lockNumber k)).toNat = lockNumber k) ∧
      (∀ i ∈ BarrierId.all, (BitVec.ofNat 8 (barrierNumber i)).toNat = barrierNumber i) ∧
      -- leaves
      (good.leaves.get .south).mot.state ≠ .fault ∧ (good.leaves.get .north).mot.state = .fault ∧
      made good (.driveReady .north) = true ∧ LeafFault.overtravel ∉ (good.leaves.get .north).flt.kinds ∧
      (good.leaves.get .north).win.stationary = some true ∧ (good.brakes.get .north).state = .set ∧
      made good (.seated .north) = false ∧ (dead.leaves.get .north).mot.state = .fault ∧
      LeafFault.driveNotReady ∈ (dead.leaves.get .north).flt.kinds ∧ made dead (.driveReady .north) = false ∧
      -- locks
      (taking (latched (broken []))).sil.latch = true ∧ (taking (latched (broken []))).sil.mode = .operate ∧
      (good.locks.get .southTail).state ≠ .fault ∧ (good.locks.get .northTail).state = .fault ∧
      lockShows good .northTail = .conflict ∧ (good.locks.get .centre).state = .fault ∧
      good.seq.status ≠ .running ∧ lockShows good .centre ≠ .conflict ∧
      -- barriers
      (good.barriers.get .northExit).state ≠ .fault ∧ (good.barriers.get .southEntry).state = .fault ∧
      barrierShows good .southEntry = .conflict ∧ (good.barriers.get .southExit).state = .fault ∧
      barrierFresh good .southExit = true ∧ barrierShows good .southExit ≠ .conflict ∧
      -- numbers without a subject
      2 ≤ (2#8).toNat ∧ 3 ≤ (3#8).toNat ∧ 4 ≤ (4#8).toNat := by decide +kernel

/-- CLOSING with an overridden barrier in FAULT and another one in FAULT. -/
def overridden : Blocks :=
  { lit ambers with
    sil := { ambers.sil with overrides := [.barrier .northEntry] }
    barriers := ⟨{ state := .fault, fault := .lostPosition }, { state := .fault, fault := .lostPosition }, upBar, upBar⟩ }

theorem meets_OverridesAreGrantedAndRevoked :
    let b := taking overridden
    b.sil.mode = .operate ∧ overrideOf (0#8).toNat (4#8).toNat = none ∧ overrideOf (1#8).toNat (2#8).toNat = none ∧
      overrideOf (2#8).toNat (0#8).toNat = none ∧ (0#8).toNat = barrierNumber .northEntry ∧
      (3#8).toNat = barrierNumber .southExit ∧ (1#8).toNat = approachNumber .south ∧ Override.barrier .northEntry ∈ b.sil.overrides ∧
      Override.barrier .northExit ∉ b.sil.overrides ∧ b.rsq.phase ≠ .roadOpen ∧
      (b.barriers.get .northExit).state = .fault ∧ Override.barrier .southExit ∉ b.sil.overrides ∧
      (b.barriers.get .southExit).state = .up ∧ Override.complement .south ∉ b.sil.overrides ∧
      holdsComplement b .south = true ∧ holdsComplement (taking ambers) .south = false := by decide +kernel

/-- ENTRY_LOWERING waits for the NORTH entry barrier, in FAULT with its DOWN switch made. -/
def stuckEntry : Blocks :=
  sees (bars .entryDown .exitUp ++ pins .lockDriven ++ seats)
    { closingIn .entryLowering downBar upBar with
      barriers := ⟨{ command := .lower, state := .fault, fault := .travelTimeout }, upBar, downBar, upBar⟩ }

/-- R24, R25, R105: the grant moves the road on, the new call finds the barrier DOWN and its override goes in the same event; the
SPAN report of the grant is still posted (the ROAD and BARRIER reports beside it). -/
theorem test_a_grant_undone_in_its_event_posts_span :
    let t := after (.overrideGrant 1#8 0#8 0#8) (at_ stuckEntry)
    t.blocks.rsq.phase = .clearance ∧ (t.blocks.barriers.get .northEntry).state = .down ∧ t.blocks.sil.overrides = [] ∧
      t.rq.map (fun e => (e.kind, e.subject)) = [(.span, 0), (.road, 0), (.barrier, 0)] := by decide +kernel

/-! ### Passage and queries -/

/-- Twelve vessels in the queue. -/
def crowd (b : Blocks) : Blocks :=
  { withTable b with nav := { (withTable b).nav with
      queue := (List.range 12).map fun i => { vessel1 with ident := i + 1 } } }

theorem meets_VesselAddQueuesByRank :
    let b := taking (withQueue unlocked)
    let g := taking (withGroup .waiting .waiting none opened)
    let c := taking (crowd unlocked)
    (b.sil.mode = .operate ∧ g.sil.mode = .operate ∧ c.sil.mode = .operate ∧
      dirOf (2#8).toNat = none ∧ classOf (3#8).toNat = none ∧ 6000 < (6001#16).toNat ∧
      dirOf (0#8).toNat = some .inbound ∧ classOf (2#8).toNat = some .ordinary ∧ (9#16) ≠ 0#16 ∧
      (6000#16).toNat ≤ 6000 ∧
      -- duplicate, not required, exceeds, full
      (∃ x ∈ b.nav.queue, x.ident = (4711#16).toNat) ∧ (∃ x ∈ g.nav.slots, x.vessel.ident = (2205#16).toNat) ∧
      (¬ ∃ x ∈ b.nav.queue, x.ident = (9#16).toNat) ∧ (¬ ∃ x ∈ b.nav.slots, x.vessel.ident = (9#16).toNat) ∧
      (850#16).toNat ≤ closedClearance b.nav.table ∧ closedClearance b.nav.table < (851#16).toNat ∧
      fullClearance b.nav.table < (4701#16).toNat ∧ (4700#16).toNat ≤ fullClearance c.nav.table ∧
      12 ≤ c.nav.queue.length + (c.nav.slots.filter fun x => x.state == .waiting).length ∧
      (¬ ∃ x ∈ c.nav.queue, x.ident = (99#16).toNat) ∧
      -- a place in the queue, a late join
      b.nav.queue.length + (b.nav.slots.filter fun x => x.state == .waiting).length < 12 ∧
      b.nav.group = .none ∧
      g.nav.group = .passing ∧ g.nav.slots.length < 4 ∧
      requiredAngle g.nav.table (1500#16).toNat + g.par.angleMarginCd ≤ g.nav.targetAngle) ∧
      RankOrder b.nav.queue := by
  refine ⟨by decide +kernel, ?_⟩
  unfold RankOrder
  decide +kernel

theorem meets_VesselsAreWithdrawnAndCleared :
    let b := taking (withQueue unlocked)
    let g := taking (withGroup .proceeding .waiting none opened)
    let d := taking (withGroup .cleared .withdrawn none opened)
    b.sil.mode = .operate ∧ g.sil.mode = .operate ∧ d.sil.mode = .operate ∧
      (∃ v ∈ b.nav.queue, v.ident = (4711#16).toNat) ∧
      (∀ v ∈ b.nav.queue, v.ident ≠ (9#16).toNat) ∧ (∀ x ∈ b.nav.slots, x.vessel.ident ≠ (9#16).toNat) ∧
      (∀ v ∈ g.nav.queue, v.ident ≠ (4711#16).toNat) ∧
      g.nav.slots = [{ vessel := vessel2, state := .proceeding }] ++ { vessel := vessel1, state := .waiting } :: [] ∧
      g.nav.slots = [] ++ { vessel := vessel2, state := .proceeding } :: [{ vessel := vessel1, state := .waiting }] ∧
      d.nav.slots = [] ++ { vessel := vessel2, state := .cleared } :: [{ vessel := vessel1, state := .withdrawn }] ∧
      d.nav.slots = [{ vessel := vessel2, state := .cleared }] ++ { vessel := vessel1, state := .withdrawn } :: [] ∧
      vessel1.ident = (4711#16).toNat ∧ vessel2.ident = (2205#16).toNat ∧ vessel2.ident ≠ (4711#16).toNat ∧
      proceedingVessel b.nav = none ∧ proceedingVessel g.nav = some vessel2 ∧
      -- the aspects: shown, fallen, waited for, neither, out of service, at rest
      g.nav.group = .passing ∧ g.nav.proceedShown = some .outbound ∧ g.nav.proceedShown ≠ some .inbound ∧
      (∃ x ∈ g.nav.slots, x.state = .waiting ∧ x.vessel.dir = .inbound) ∧
      (¬ ∃ x ∈ d.nav.slots, x.state = .waiting ∧ x.vessel.dir = .inbound) ∧ d.nav.proceedShown = none ∧
      ({ g with nav := { g.nav with proceedShown := none, fall := .clearanceLost } } : Blocks).nav.fall ≠ .none ∧
      vessel2.dir = .outbound ∧ traffic.nav.group = .none ∧ (latched traffic).sil.latch = true ∧
      (∀ l ∈ LeafId.all, leafState traffic l ≠ .fault) ∧ traffic.wmn.alarm ≠ .stop ∧ traffic.wmn.sound = true ∧
      traffic.sil.latch = false ∧ traffic.sil.consoleLost = false := by decide +kernel

theorem meets_QueriesAnswerAndChangeNothing :
    QuietPort State.reset ∧ (0#8).toNat < 1 ∧ 1 ≤ (1#8).toNat ∧ (3#8).toNat < 4 ∧ 4 ≤ (4#8).toNat ∧ (2#8).toNat < 3 ∧
      3 ≤ (3#8).toNat ∧ (1#8).toNat < 2 ∧ 2 ≤ (2#8).toNat ∧ (41#8).toNat ≤ 41 ∧ 41 < (42#8).toNat ∧
      knownKind 0#8 = false ∧ knownKind 0x0B#8 = false ∧ knownKind 0x39#8 = false ∧
      (List.replicate 64 0#8).length ≤ 64 := ⟨⟨rfl, rfl, rfl⟩, by decide⟩

theorem meets_QueriesSpellTheRecords :
    (∀ l ∈ Link.all, (BitVec.ofNat 8 (linkNumber l)).toNat = linkNumber l) ∧
      (∀ l ∈ LeafId.all, (BitVec.ofNat 8 (leafNumber l)).toNat = leafNumber l) ∧
      -- input records: a direct one, the E-stop, and field inputs without an entry, not fitted and at a position
      (∀ i ∈ List.finRange 41, (BitVec.ofNat 8 (i.val + 1)).toNat = i.val + 1) ∧ 24 ≤ (24 : Fin 41).val ∧
      24 ≤ (40 : Fin 41).val ∧ inputLink (fieldFn 23) = some .p ∧
      (∀ e ∈ [none, some .notFitted, some (.position 59 5 true false)],
        ((taking { traffic with cat := { traffic.cat with inputs := Vector.replicate 24 e } }).cat.inputs.get 23) = e) := by
  decide +kernel

/-! ### Field links, inputs and lamps -/

/-- Link N in a state, with an expected frame number. -/
def linkIn (r : LinkRec) : State := at_ { traffic with links := ⟨r, goodLink, goodLink⟩ }

/-- No leaf of TRAFFIC is MOVING, whatever its links are. -/
theorem skew_linkIn (r : LinkRec) : SkewOk (linkIn r).blocks := fun _ l h _ => by cases l <;> cases h

theorem meets_LinksFindAndConfirmFrames :
    (∀ r : LinkRec, SkewOk (linkIn r).blocks) ∧ (linkIn {}).blocks.links.n.state = .hunt ∧
      framePattern (healthyFrame 15#4) = 0b1011#4 ∧
      crc8 ((frameOctets (healthyFrame 15#4)).take 9) = frameOctet (healthyFrame 15#4) 9 ∧
      framePattern 0#80 ≠ 0b1011#4 ∧
      (linkIn { state := .confirm, expected := some 15#4 }).blocks.links.n.expected =
        some (frameNumber (healthyFrame 15#4)) ∧
      (linkIn { state := .confirm, expected := some 15#4 }).blocks.links.n.confirmations = 0 ∧
      1 ≤ (linkIn { state := .confirm, expected := some 0#4, confirmations := 1 }).blocks.links.n.confirmations ∧
      (linkIn { state := .confirm, expected := some 0#4 }).blocks.links.n.expected ≠
        some (frameNumber (healthyFrame 15#4)) ∧
      (linkIn goodLink).blocks.links.n.state ≠ .confirm := ⟨skew_linkIn, by decide +kernel⟩

/-- The configured bridge in CONFIG with its links aligned. -/
def sampled (x : InputRec) : State :=
  at_ { configured with
    links := ⟨{ goodLink with expected := some 6#4 }, goodLink, goodLink⟩
    iq := { recs := Vector.replicate 41 x } }

theorem meets_AlignedLinksJudgeEveryFrame :
    SkewOk (linkIn {}).blocks ∧
    let s := linkIn { goodLink with expected := some 14#4 }
    let worn := linkIn { goodLink with errors := 2, windowErrors := 39, windowFrames := 998 }
    let bad := healthyFrame 15#4 ^^^ 1#80
    s.cpt.buffer = [] ∧ (linkIn {}).blocks.links.n.state = .hunt ∧ s.blocks.links.n.state = .aligned ∧
      -- a good frame 15, and one with a wrong check octet
      framePattern (healthyFrame 15#4) = 0b1011#4 ∧
      frameNumber (healthyFrame 15#4) = s.blocks.links.n.expected.getD 0#4 + 1#4 ∧
      crc8 ((frameOctets (healthyFrame 15#4)).take 9) = frameOctet (healthyFrame 15#4) 9 ∧
      crc8 ((frameOctets bad).take 9) ≠ frameOctet bad 9 ∧
      -- a third error in a row, and the fortieth check error of a window
      framePattern 0#80 ≠ 0b1011#4 ∧ 2 ≤ worn.blocks.links.n.errors ∧ s.blocks.links.n.errors < 2 ∧
      worn.blocks.links.n.excess = false ∧ worn.blocks.par.errLimit ≤ worn.blocks.links.n.windowErrors + 1 ∧
      worn.blocks.links.n.windowFrames < 999 ∧ worn.blocks.par.rehuntOnExcess ≠ 1 ∧
      s.blocks.links.n.windowErrors + 1 < s.blocks.par.errLimit ∧ s.blocks.links.n.windowFrames < 999 ∧
      (linkIn goodLink).blocks.links.n.expected.getD 0#4 + 1#4 ≠ 15#4 ∧
      sourceOnLink s.blocks 0 .n = false ∧
      -- the end of a window, and the excess that hunts
      (linkIn { goodLink with state := .degraded, windowFrames := 999, windowErrors := 39, excess := true }).blocks.links.n =
        { goodLink with state := .degraded, windowFrames := 999, windowErrors := 39, excess := true } ∧
      ({ worn.blocks with par := { rehuntOnExcess := 1 } } : Blocks).par.rehuntOnExcess = 1 ∧
      -- the records of a link, in each freshness, with HOLD_MS at 0 and above, the last good frame long ago or not
      (∀ x ∈ [InputRec.mk false none 0 .fresh false none, .mk true (some false) 2 .held false (some 9),
          .mk false (some true) 1 .failsafe true none],
        ((sampled x).blocks.iq.recs.get 0) = x ∧ sourceOnLink (sampled x).blocks 0 .n = true ∧
          (sampled x).blocks.links.n.state = .aligned) ∧
      (∀ ms ∈ [0, 27, 28],
        let b : Blocks := { s.blocks with
          now := 50
          par := { holdMs := ms }
          iq := { lastGood := ⟨some 23, none, none⟩, recs := s.blocks.iq.recs } }
        b.iq.lastGood.get .n = some 23 ∧ b.par.holdMs = ms ∧ b.now - 23 = 27) := ⟨skew_linkIn {}, by decide +kernel⟩

theorem meets_GoodFramesSampleTheInputs :
    let fr := healthyFrame 7#4
    let s := sampled { qualified := false, freshness := .fresh, pendingFirst := false }
    s.cpt.buffer = [] ∧ s.blocks.links.n.state = .aligned ∧ framePattern fr = 0b1011#4 ∧
      s.blocks.links.n.expected = some (frameNumber fr - 1#4) ∧
      crc8 ((frameOctets fr).take 9) = frameOctet fr 9 ∧ s.blocks.links.n.windowErrors < s.blocks.par.errLimit ∧
      s.blocks.cat.inputs.get 0 = some (.position 0 3 false true) ∧ inputLink (fieldFn 0) = some .n ∧
      -- the sample is 0: as qualified, another value, and the first one
      xor ((frameOctet fr (0 / 8 + 1)).getLsbD (0 % 8)) false = (s.blocks.iq.recs.get (fieldRec 0)).qualified ∧
      (s.blocks.iq.recs.get (fieldRec 0)).pendingFirst = false ∧
      ((sampled { qualified := true, freshness := .held, pendingFirst := false }).blocks.iq.recs.get
        (fieldRec 0)).qualified = true ∧
      ((sampled { qualified := true, freshness := .failsafe, pendingFirst := true }).blocks.iq.recs.get
        (fieldRec 0)).pendingFirst = true := by decide +kernel

theorem meets_FramesCarryTheOutputs :
    State.reset.cpt.buffer = [] ∧ State.reset.blocks.sil.mode ≠ .operate ∧ (at_ traffic).cpt.buffer = [] ∧
      (at_ traffic).blocks.sil.mode = .operate := by decide +kernel

theorem meets_SamplesAndHoldsMoveTheInputs :
    let s := sampled { qualified := true, freshness := .held, pendingFirst := false }
    let t := sampled { qualified := false, freshness := .failsafe, pendingFirst := true }
    s.cpt.buffer = [] ∧ (0 : Fin 41).val < 24 ∧ (23 : Fin 41).val < 24 ∧ 24 ≤ (24 : Fin 41).val ∧
      24 ≤ (40 : Fin 41).val ∧ (s.blocks.iq.recs.get 24).pendingFirst = false ∧
      (0x1FFFF#17).getLsbD (24 - 24) = (s.blocks.iq.recs.get 24).qualified ∧
      (0#17).getLsbD (40 - 24) ≠ (s.blocks.iq.recs.get 40).qualified ∧
      (t.blocks.iq.recs.get 24).pendingFirst = true ∧ sourceOnLink s.blocks 0 .n = true ∧
      (s.blocks.iq.recs.get 0).freshness = .held ∧ sourceOnLink s.blocks 24 .n = false ∧
      -- timers that run and timers at rest
      ambers.rsq.timer = .running 9 ∧ traffic.rsq.timer = .idle ∧
      (onRoad { clearance := .running 0 } ambers).rsq.clearance = .running 0 ∧ traffic.rsq.clearance = .idle ∧
      ((withBars goingDown upBar traffic).barriers.get .northEntry).timer = .running 9 ∧
      (upBar.timer, haltedOut.timer, goingOut.timer) = (.idle, .halted 9, .running 9) := by decide +kernel

theorem meets_FlashPhasesKeepTheCadence :
    Blocks.reset.slu.running = false ∧ ({ Blocks.reset with slu := { running := true } } : Blocks).slu.running = true ∧
      0 < 40 ∧ 0 < 60 ∧
      -- the demand for a generator, and none
      (let warn : Blocks := { traffic with slu := { traffic.slu with aspects := ⟨.redFlash, .dark⟩ } }
       let stand : Blocks := { traffic with nav := { traffic.nav with aspects := ⟨.standby, .red⟩ } }
       warn.slu.aspects.get .north = .redFlash ∧ warn.slu.running = false ∧ stand.nav.aspects.get .inbound = .standby ∧
         stand.slu.running = false ∧ (∀ a ∈ Approach.all, traffic.slu.aspects.get a ≠ .redFlash) ∧
         (∀ d ∈ Dir.all, traffic.nav.aspects.get d ≠ .standby) ∧ traffic.slu.running = false ∧
         ({ traffic with slu := { traffic.slu with running := true } } : Blocks).slu.running = true) := by decide +kernel

/-- TRAFFIC with every group fitted, in one standing and one timer mode, with the inputs listed made. -/
def groups (s : LampState) (m : ProveMode) (on : List InputFn) : State :=
  at_ { traffic with slu := { lamps := Vector.replicate 12 { fitted := true, state := s, timer := m } }
                     iq := madeInputs on }

theorem meets_LampTimersJudgeTheGroups :
    (∀ g ∈ lampGroups, (lampRec (groups .proven .edge []).blocks g).fitted = true ∧
      (lampRec (groups .proven .edge []).blocks g).timer = .edge ∧
      (lampRec (groups .proven .idle []).blocks g).timer ≠ .edge ∧
      (lampRec (groups .stuckOn .absent []).blocks g).timer = .absent ∧
      (lampRec (groups .untested .present []).blocks g).state = .untested ∧
      (lampRec (groups .failed .present []).blocks g).state = .failed ∧
      (lampRec (groups .stuckOn .present []).blocks g).state = .stuckOn ∧
      (lampRec (groups .failed .present []).blocks g).timer = .present ∧
      (lampRec (groups .failed .settle []).blocks g).timer = .settle ∧
      made (groups .failed .settle []).blocks (lampInput g) = false) ∧
      (groups .proven .edge []).blocks.sil.mode = .operate ∧
      -- both edges of the command of the NORTH amber, fitted or not, and the current that comes and goes
      (∀ on ∈ [true, false], ∀ r ∈ [LampRec.mk true on .stuckOn 2 .settle 0 true, .mk false on .untested 0 .edge 9 false],
        let b : Blocks := { traffic with slu := { aspects := ⟨if on then .dark else .amber, .dark⟩
                                                  lamps := Vector.replicate 12 r } }
        lampRec b (.amber .north) = r ∧ lampCommand b (.amber .north) ≠ r.command ∧ b.sil.mode = .operate) ∧
      lampCommand traffic (.amber .north) = (lampRec traffic (.amber .north)).command ∧
      made (sees [.amberI .north] traffic) (lampInput (.amber .north)) ≠
        made (sees [] traffic) (lampInput (.amber .north)) ∧
      made (groups .failed .settle [.redAI .north]).blocks (lampInput (.redA .north)) = true := by decide +kernel

/-! ### Stopping, the road and the leaves -/

/-- RAISING with a lock on its way and a barrier on its way. -/
def allMoving : Blocks :=
  { raising with
    locks := ⟨{ command := .drive, state := .driving, timer := .running 9 }, outLock,
              { command := .withdraw, state := .withdrawing, timer := .running 0 }⟩
    barriers := ⟨{ command := .lower, state := .lowering, timer := .running 9 },
                 { command := .raise, state := .raising, timer := .running 0 }, downBar, upBar⟩ }

/-- TRAFFIC with one more sample of 0 missing for ESTOP to fall, and an UNPROVEN barrier whose timer runs. -/
def pressing : Blocks :=
  let falling : InputRec :=
    { qualified := true, candidate := some false, agreement := 1, freshness := .fresh, pendingFirst := false }
  { withBars { command := .lower, timer := .running 9 } upBar traffic with
    iq := { recs := traffic.iq.recs.set 40 falling } }

theorem meets_EstopStopsEverything :
    leafInMotion allMoving .north = true ∧ leafInMotion traffic .north = false ∧
      (allMoving.brakes.get .north).state = .released ∧ (traffic.brakes.get .north).state = .set ∧
      (allMoving.locks.get .centre).state = .driving ∧ (allMoving.locks.get .centre).timer = .running 9 ∧
      (allMoving.locks.get .southTail).state = .withdrawing ∧ (allMoving.locks.get .northTail).state ≠ .driving ∧
      (allMoving.locks.get .northTail).state ≠ .withdrawing ∧
      (allMoving.barriers.get .northEntry).state = .lowering ∧
      (allMoving.barriers.get .northEntry).timer = .running 9 ∧ (allMoving.barriers.get .northExit).state = .raising ∧
      (allMoving.barriers.get .southEntry).state = .down ∧ (allMoving.barriers.get .southExit).state = .up ∧
      made traffic .estop = true ∧ made pressed .estop = false ∧ traffic.sil.latch = false ∧ pressed.sil.latch = true ∧
      pressing.sil.mode = .operate ∧ pressing.sil.latch = false ∧ made pressing .estop = true ∧
      made (takeLines 0#17 (passMillisecond pressing)) .estop = false ∧
      made (takeLines 0x10000#17 (passMillisecond pressing)) .estop = true ∧ Blocks.reset.sil.mode ≠ .operate ∧
      (pressing.barriers.get .northEntry).state = .unproven ∧
      (pressing.barriers.get .northEntry).timer = .running 9 := by decide +kernel

/-- CLOSING in RED_WARN and in CLEARANCE, with their timers running. -/
def warned : Blocks := { ambers with rsq := { phase := .redWarn, timer := .running 0 } }
def cleared : Blocks := { ambers with rsq := { phase := .clearance, clearance := .running 0 } }

theorem meets_RoadTimersMoveTheClosure :
    ((at_ ambers).blocks.rsq.phase = .amber ∧ (at_ ambers).blocks.rsq.timer = .running 9 ∧ ambers.sil.held = false ∧
      (held ambers).sil.held = true ∧ (held ambers).rsq.timer = .running 9 ∧
      warned.rsq.phase = .redWarn ∧ warned.rsq.timer = .running 0 ∧ complementFailing (lit warned) = .none ∧
      (lit warned).sil.held = false ∧ (held (lit warned)).sil.held = true ∧
      complementFailing (held (lit warned)) = .none ∧ complementFailing warned ≠ .none ∧
      (lit warned).barriers.northEntry.state = .up ∧ (lit warned).barriers.northEntry.command = .raise ∧
      cleared.rsq.phase = .clearance ∧ cleared.rsq.clearance = .running 0 ∧ cleared.sil.held = false ∧
      (held cleared).sil.held = true ∧ cleared.barriers.northExit.state = .up ∧
      traffic.rsq.phase ≠ .amber ∧ traffic.rsq.phase ≠ .redWarn ∧ traffic.rsq.phase ≠ .clearance ∧
      -- the road by itself: barriers
      ((closingIn .entryLowering downBar upBar).barriers.get .southEntry).state = .down ∧
      ((closingIn .entryLowering goingDown upBar).barriers.get .northEntry).state ≠ .down ∧ ambers.sil.overrides = [] ∧
      (closingIn .entryLowering goingDown upBar).rsq.phase = .entryLowering ∧
      (∀ i ∈ BarrierId.all, ((closingIn .exitLowering downBar downBar).barriers.get i).state = .down) ∧
      ((closingIn .exitLowering downBar goingDown).barriers.get .northExit).timer = .running 9 ∧
      ((closingIn .exitRaising downBar upBar).barriers.get .southExit).state = .up ∧
      ((closingIn .exitRaising downBar downBar).barriers.get .southExit).state ≠ .up ∧
      (held (closingIn .exitRaising downBar upBar)).sil.held = true ∧ ambers.sil.held = false ∧
      ((closingIn .exitRaising downBar upBar).barriers.get .northEntry).command = .lower ∧
      ((closingIn .entryRaising upBar upBar).barriers.get .northEntry).state = .up ∧
      ((closingIn .entryRaising goingDown upBar).barriers.get .northEntry).state ≠ .up ∧
      -- loops and the clearance timer
      made (sees [.loopA .north] cleared) (.loopA .north) = true ∧
      (∀ a ∈ Approach.all, made cleared (.loopA a) = false ∧ made cleared (.loopB a) = false) ∧
      (∀ x ∈ [ClearanceTimer.running 9, .runOut, .full],
        (onRoad { phase := .clearance, clearance := x } ambers).rsq.clearance = x) ∧
      -- losses
      lossStands traffic = false ∧ lossStands (sees [] traffic) = true ∧ made (sees [] traffic) (.seated .north) = false ∧
      made (sees (pins .lockDriven) traffic) (.lockDriven .centre) = true ∧
      made (sees (pins .lockDriven) traffic) (.seated .south) = false ∧
      made (sees seats traffic) (.lockDriven .centre) = false ∧ lossStands (sees [] ambers) = true ∧
      lossStands ambers = false ∧ alarmed.rsq.cause ≠ .recovery ∧ recovering.rsq.cause = .recovery ∧
      recovering.rsq.phase = .alert) ∧
      -- the wait of RED_WARN: both approaches pass, another failing set, the same one
      (let waits := fun (w : ComplementWait) (b : Blocks) => onRoad { phase := .redWarn, timer := .runOut, wait := w } b
       (waits .north (lit ambers)).rsq.timer = .runOut ∧ complementFailing (waits .north (lit ambers)) = .none ∧
         (waits .north (lit ambers)).sil.held = false ∧ (held (waits .north (lit ambers))).sil.held = true ∧
         complementFailing (waits .north ambers) = .both ∧ (waits .both ambers).rsq.wait = .both ∧
         complementFailing (overriding ambers) = .north) ∧
      closed.rsq.phase = .roadClosed ∧
      -- timers that do not run
      (∀ x ∈ [PhaseTimer.idle, .runOut], (onRoad { phase := .amber, timer := x } ambers).rsq.timer = x) ∧
      (onRoad { phase := .redWarn, timer := .runOut } ambers).rsq.timer = .runOut ∧
      (onRoad { phase := .clearance, clearance := .full } ambers).rsq.clearance = .full :=
  ⟨by decide +kernel, by decide +kernel⟩

/-- A bridge whose barriers and locks all stand in one record. -/
def allIn (i : BarrierRec) (k : LockRec) (on : List InputFn) : Blocks := bridge .closing .redWarn i k seatedLeaf on

theorem meets_BarriersAndLocksTakeCommands :
    (∀ st ∈ [BarrierState.up, .lowering, .down, .raising, .stopped, .unproven, .fault],
      ((allIn { state := st } {} []).barriers.get .northEntry).state = st) ∧
      ((allIn { state := .lowering, timer := .running 9 } {} []).barriers.get .northEntry).timer = .running 9 ∧
      barrierFresh (allIn { state := .fault } {} [.entryDown .north]) .northEntry = true ∧
      barrierFresh { allIn { state := .stopped } {} [] with iq := Iq.reset } .northEntry = false ∧
      barrierShows (allIn { state := .fault } {} [.entryDown .north]) .northEntry = .second ∧
      barrierShows (allIn { state := .fault } {} [.entryUp .north, .entryDown .north]) .northEntry = .conflict ∧
      (∀ st ∈ [LockState.driven, .withdrawing, .withdrawn, .driving, .interrupted, .fault],
        ((allIn {} { state := st } []).locks.get .centre).state = st) ∧
      ((allIn {} { state := .driving, timer := .running 9 } []).locks.get .centre).timer = .running 9 := by
  decide +kernel

/-- Barrier and lock switches in one position: both made, the first, the second, none. -/
def switches : List (List InputFn) :=
  [[.entryUp .north, .entryDown .north, .lockDriven .centre, .lockWithdrawn .centre],
   [.entryUp .north, .lockDriven .centre], [.entryDown .north, .lockWithdrawn .centre], []]

theorem meets_TimeoutsAreFaults :
    ((allMoving.barriers.get .northEntry).timer = .running 9 ∧ (allMoving.barriers.get .northEntry).state = .lowering ∧
      (allMoving.locks.get .centre).state = .driving ∧ (allMoving.locks.get .northTail).state ≠ .driving ∧
      (allMoving.locks.get .northTail).state ≠ .withdrawing ∧
      (let b : Blocks := { allMoving with brakes := ⟨{ command := .release, state := .releasing, timer := some 0 },
                                                     { state := .setting, timer := some 0 }⟩ }
       b.sil.mode = .operate ∧ (b.brakes.get .north).state = .releasing ∧ (b.brakes.get .north).timer ≠ none ∧
         leafState b .north ≠ .fault ∧ made b (.brakeReleased .north) = true ∧ (b.brakes.get .south).state = .setting ∧
         (b.brakes.get .south).timer ≠ none ∧ leafState b .south ≠ .fault ∧ made b (.brakeReleased .south) = true ∧
         (b.brakes.get .south).state ≠ .releasing ∧ (b.brakes.get .north).state ≠ .setting ∧
         -- the same brakes under a leaf in FAULT, and outside OPERATE
         leafState { b with leaves := ⟨{ mot := { state := .fault } }, seatedLeaf⟩ } .north = .fault ∧
         ({ b with sil := { mode := .adopt } } : Blocks).sil.mode ≠ .operate) ∧
      -- the target proven, or not, as the timer runs out
      barrierFresh allMoving .northEntry = true ∧ barrierShows allMoving .northEntry = .second ∧
      lockShows allMoving .southTail = .second ∧ (allMoving.locks.get .southTail).state = .withdrawing ∧
      lockShows allMoving .centre ≠ .first ∧ barrierShows allMoving .northExit ≠ .first ∧
      (allMoving.barriers.get .northExit).state = .raising ∧ (allMoving.barriers.get .northExit).timer = .running 0 ∧
      -- the four showings, each of them a change from another one, and inputs that are not FRESH
      switches.map (fun on => barrierShows (sees on traffic) .northEntry) = [.conflict, .first, .second, .between] ∧
      switches.map (fun on => lockShows (sees on traffic) .centre) = [.conflict, .first, .second, .between] ∧
      (∀ on ∈ switches, barrierFresh (sees on traffic) .northEntry = true) ∧
      barrierFresh Blocks.reset .northEntry = false ∧
      (inputRec traffic (.entryUp .north)).freshness ≠ (inputRec Blocks.reset (.entryUp .north)).freshness ∧
      (∀ st ∈ [BarrierState.up, .lowering, .down, .raising, .stopped, .unproven, .fault],
        ∀ c ∈ [BarrierCmd.lower, .raise, .stop], ∀ m ∈ [TravelTimer.running 9, .halted 9, .idle],
          ((withBars { state := st, command := c, timer := m } upBar traffic).barriers.get .northEntry) =
            { state := st, command := c, timer := m }) ∧
      (∀ st ∈ [LockState.driven, .withdrawing, .withdrawn, .driving, .interrupted, .fault],
        ∀ c ∈ [LockCmd.drive, .withdraw],
          ((withLocks { state := st, command := c } outLock traffic).locks.get .centre) = { state := st, command := c })) ∧
      ∀ ms : Nat, (allMoving.barriers.get .southEntry).timer ≠ .running ms :=
  ⟨by decide +kernel, fun _ h => by cases h⟩

/-- A bridge in motion with one leaf at a position. -/
def leafAt (position : Int) (on : List InputFn) : Blocks :=
  { raising with
    leaves := ⟨{ movingLeaf with pos := { movingLeaf.pos with position := position }
                                 flt := { movingLeaf.flt with wrongDir := 50 } }, movingLeaf⟩
    iq := madeInputs on }

/-- Both leaves on their way down, their seats made. -/
def onTheWayDown : Blocks :=
  let leaf : LeafRec := { movingLeaf with
    mot := { movingLeaf.mot with kind := .lower, target := none, targetCounts := some 0, rule := .seatSearch } }
  { sees seats raising with leaves := ⟨leaf, leaf⟩ }

/-- Both leaves on their way down without their seats, NORTH at a position and SOUTH at its counted seat. -/
def seeking (position : Int) : Blocks :=
  let leaf : LeafRec := { onTheWayDown.leaves.north with pos := { position := 0, certain := true, angleKnown := true } }
  { sees [] onTheWayDown with leaves := ⟨{ leaf with pos := { leaf.pos with position := position } }, leaf⟩ }

/-- A STOPPING leaf at command 0. -/
def slowing (gross : Nat) : Blocks :=
  { raising with leaves :=
      ⟨{ movingLeaf with mot := { movingLeaf.mot with state := .stopping, command := 0 }
                         win := { running := true, net := gross, gross := gross } }, movingLeaf⟩ }

theorem meets_CountsMoveThePosition :
    made (leafAt 0 [.seated .north]) (.seated .north) = true ∧ made (leafAt 131070 []) (.seated .north) = false ∧
      ((leafAt 131070 []).leaves.get .north).pos.position + 1 ≤ 131071 ∧
      131071 < ((leafAt 131071 []).leaves.get .north).pos.position + 1 ∧
      -131071 ≤ ((leafAt (-131070) []).leaves.get .north).pos.position + -1 ∧
      ((leafAt (-131071) []).leaves.get .north).pos.position + -1 < -131071 ∧
      leafInMotion traffic .north = false ∧ leafInMotion (leafAt 0 []) .north = true ∧
      (leafAt 0 []).sil.mode = .operate ∧ countOpposes ((leafAt 0 []).leaves.get .north).mot.kind false = true ∧
      (leafAt 0 []).par.wrongDirCounts ≤ ((leafAt 0 []).leaves.get .north).flt.wrongDir ∧
      -- after a count: too many against the movement, the search of the seat at its end, the skew at its limit, and none
      (let c := leafCount .north false (leafAt 15001 [])
       let d := leafCount .north false (seeking (-399))
       let e := leafCount .north true (leafAt 15999 [])
       let f := leafCount .north false (seeking (-398))
       (c.leaves.get .north).flt.wrongDir = 51 ∧ (leafAngle c .north - leafAngle c .south).natAbs = 0 ∧
         (d.leaves.get .north).pos.position = -400 ∧ (d.leaves.get .north).pos.certain = true ∧
         (seeking (-399)).sil.mode = .operate ∧ leafState (seeking (-399)) .north = .moving ∧
         ((seeking (-399)).leaves.get .north).mot.kind = .lower ∧
         ((seeking (-399)).leaves.get .north).mot.rule = .seatSearch ∧ made (seeking (-399)) (.seated .north) = false ∧
         (leafAngle d .north - leafAngle d .south).natAbs < 200 ∧ (d.leaves.get .north).flt.wrongDir = 0 ∧
         (leafAngle e .north - leafAngle e .south).natAbs = 200 ∧ leafState (leafAt 15999 []) .south = .moving ∧
         (f.leaves.get .north).pos.position = -399 ∧
         -- the stall timer RUNNING before each, and in a leaf at rest
         (∀ b ∈ [leafAt 15001 [], seeking (-399), leafAt 15999 [], seeking (-398)],
           (b.leaves.get .north).flt.stall = some 2000 ∧ leafInMotion b .north = true) ∧
         (traffic.leaves.get .north).flt.stall = none ∧ leafState (leafAt 15001 []) .north = .moving ∧
         leafState (slowing 0) .north = .stopping ∧ ((slowing 0).leaves.get .north).flt.stall = some 2000) ∧
      -- the seat and the open limit
      (let up := sees [] opened
       let down := sees seats opened
       made up (.seated .north) = false ∧ made down (.seated .north) = true ∧
         made up (.openLimit .north) = made down (.openLimit .north) ∧ down.sil.mode = .operate ∧
         leafState down .north = .parked ∧ leafState (sees seats traffic) .north = .seated ∧
         leafState (sees [] traffic) .north = .seated ∧ Blocks.reset.sil.mode ≠ .operate ∧
         leafInMotion (leafAt 5 seats) .north = true ∧ ((leafAt 5 seats).leaves.get .north).mot.kind = .raise ∧
         (onTheWayDown.leaves.get .north).mot.kind = .lower ∧ leafInMotion onTheWayDown .north = true ∧
         (onTheWayDown.brakes.get .north).state = .released ∧ made onTheWayDown (.seated .north) = true ∧
         made (sees [.openLimit .north] opened) (.openLimit .north) = true ∧
         made (sees [.openLimit .north] opened) (.seated .north) = made up (.seated .north)) := by decide +kernel

theorem meets_SpeedWindowsJudgeTheLeaf :
    (traffic.leaves.get .north).win.running = false ∧ ((slowing 0).leaves.get .north).win.running = true ∧
      (slowing 0).sil.mode = .operate ∧
      (slowing 116).par.overspeedPm < min (((slowing 116).leaves.get .north).win.net.natAbs * 10 * 1000 /
        (slowing 116).par.ratedCps.get .north) 2000 ∧
      min (((slowing 115).leaves.get .north).win.net.natAbs * 10 * 1000 / (slowing 115).par.ratedCps.get .north) 2000 ≤
        (slowing 115).par.overspeedPm ∧
      ((slowing 0).leaves.get .north).mot.state = .stopping ∧ ((slowing 0).leaves.get .north).mot.command = 0 ∧
      ((slowing 0).leaves.get .north).win.gross = 0 ∧ ((slowing 0).brakes.get .north).state = .released ∧
      ((slowing 115).leaves.get .north).win.gross ≠ 0 ∧ (traffic.leaves.get .north).flt.stall = none ∧
      (raising.leaves.get .north).flt.stall ≠ none ∧ raising.sil.mode = .operate ∧
      -- rest, the brake feedback and the findings
      (let rest : Blocks := { slowing 0 with brakes := ⟨{}, {}⟩ }
       leafState rest .north = .stopping ∧ (rest.brakes.get .north).state = .set ∧ made rest (.seated .north) = false ∧
         made { rest with iq := madeInputs seats } (.seated .north) = true) ∧
      (∀ q ∈ [BrakeState.releasing, .released, .setting, .set, .fault],
        ((braked q raising).brakes.get .north).state = q ∧ leafInMotion (braked q raising) .north = true ∧
          leafInMotion (braked q traffic) .north = false) ∧
      ((braked .fault traffic).brakes.get .north).command = .set ∧ made raising (.brakeReleased .north) = true ∧
      made raising (.driveReady .north) = true ∧ made raising (.overtravel .north) = false ∧
      made (sees [] raising) (.brakeReleased .north) = false ∧ made (sees [] raising) (.driveReady .north) = false ∧
      made (sees [.driveReady .north] raising) (.driveReady .north) = true ∧
      made (sees [.driveReady .north] raising) (.brakeReleased .north) = false ∧
      made (sees [.overtravel .north] raising) (.overtravel .north) = true := by decide +kernel

theorem meets_WindCapSlopesToCreep :
    raising.par.wKneeDms < raising.par.wStopDms ∧
      ({ raising with wmn := { sound := false } } : Blocks).wmn.sound = false ∧
      raising.par.wStopDms ≤ ({ raising with wmn := { gust := 220 } } : Blocks).wmn.gust ∧
      ({ raising with wmn := { gust := 150 } } : Blocks).wmn.gust ≤ raising.par.wKneeDms ∧
      raising.par.wKneeDms < ({ raising with wmn := { gust := 151 } } : Blocks).wmn.gust ∧
      ({ raising with wmn := { gust := 219 } } : Blocks).wmn.gust < raising.par.wStopDms ∧
      raising.wmn.sound = true ∧ raising.par.vCreep ≤ 1000 := by decide +kernel

/-- RAISING with the NORTH leaf ahead of the SOUTH one by `lead` cd. -/
def skewed (lead : Int) : Blocks :=
  { raising with leaves :=
      ⟨{ movingLeaf with pos := { movingLeaf.pos with position := 15000 + 5 * lead } }, movingLeaf⟩ }

/-- RAISING with both leaves RELEASING, the NORTH leaf ahead by `lead` cd, and both brakes in a state. -/
def starting (lead : Int) (q : BrakeState) : Blocks :=
  let waits := fun r : LeafRec => { r with mot := { r.mot with state := .releasing, command := 0 } }
  { braked q (skewed lead) with leaves := ⟨waits (skewed lead).leaves.north, waits (skewed lead).leaves.south⟩ }

/-- A RECOVERY_LOWER with both leaves RELEASING, the NORTH brake RELEASING and the SOUTH one RELEASED, some inputs made. -/
def loweringStart (on : List InputFn) : Blocks :=
  let waits : LeafRec := { movingLeaf with mot := { movingLeaf.mot with
    state := .releasing, command := 0, kind := .recoveryLower, targetCounts := some 0, rule := .seatOnly } }
  { raising with leaves := ⟨waits, waits⟩, brakes := ⟨{ state := .releasing }, { state := .released }⟩, iq := madeInputs on }

/-- R133: the NORTH leaf finds its seat in RELEASING and rests there alone; the SOUTH one goes on, its first command ACCEL (4). -/
theorem test_the_other_leaf_goes_on :
    let on := bars .entryDown .exitDown ++ pins .lockWithdrawn ++ [.brakeReleased .south]
    let before := loweringStart on
    let b := following before (publish before { before with iq := madeInputs (.seated .north :: on) })
    leafState b .north = .seated ∧ leafState b .south = .moving ∧ (b.leaves.get .south).mot.command = 4 := by decide +kernel

theorem meets_ProfileUpdateSetsTheCommand :
    (traffic.leaves.get .north).mot.state ≠ .moving ∧ (traffic.leaves.get .north).mot.state ≠ .stopping ∧
      ((slowing 0).leaves.get .north).mot.state = .stopping ∧ (raising.leaves.get .north).mot.state = .moving ∧
      (raising.leaves.get .north).mot.kind = .raise ∧ (raising.leaves.get .north).mot.rule = .byTarget ∧
      ((leafAt 19590 []).leaves.get .north).mot.targetCounts.getD 0 - ((leafAt 19590 []).leaves.get .north).pos.position
        ≤ 0 ∧
      0 < (raising.leaves.get .north).mot.targetCounts.getD 0 - (raising.leaves.get .north).pos.position ∧
      trimApplies (skewed 0) = true ∧ leafAngle (skewed 199) .north - leafAngle (skewed 199) .south = 199 ∧
      trimApplies (skewed 200) = true ∧ leafAngle (skewed 200) .north - leafAngle (skewed 200) .south = 200 ∧
      (skewed 200).par.skewLimitCd = 200 ∧ (skewed 200).sil.mode = .operate ∧
      -- the trim, the first lead without it, and a leaf beside one that does not move
      (skewed 50).par.skewTrimCd = 50 ∧ trimApplies (skewed 50) = true ∧
      leafAngle (skewed 50) .north - leafAngle (skewed 50) .south = 50 ∧
      leafAngle (skewed 51) .north - leafAngle (skewed 51) .south = 51 ∧ trimApplies (slowing 0) = false ∧
      ((slowing 0).leaves.get .south).mot.state = .moving ∧
      -- arrivals
      (slowing 0).leaves.north.mot.arrivalReached = false ∧ (leafAt 19590 []).leaves.north.mot.arrivalReached = false ∧
      ((leafAt 0 [.openLimit .north]).leaves.get .north).mot.rule = .byTarget ∧
      made (leafAt 0 [.openLimit .north]) (.openLimit .north) = true ∧
      (traffic.leaves.get .north).mot.kind ≠ .raise ∧
      -- the start of the profile
      (∀ b ∈ [starting 0 .released, starting 200 .released],
        leafState b .north = .releasing ∧ (∀ l ∈ LeafId.all, (b.brakes.get l).state = .released) ∧
          (b.leaves.get .north).mot.kind = .raise ∧ (∀ l ∈ LeafId.all, (b.leaves.get l).pos.certain = true)) ∧
      (leafAngle (starting 0 .released) .north - leafAngle (starting 0 .released) .south).natAbs <
        (starting 0 .released).par.skewLimitCd ∧
      (starting 200 .released).par.skewLimitCd ≤
        (leafAngle (starting 200 .released) .north - leafAngle (starting 200 .released) .south).natAbs ∧
      (starting 200 .released).sil.mode = .operate ∧ ((starting 0 .releasing).leaves.get .north).mot.takingPart = true ∧
      ((starting 0 .releasing).brakes.get .north).state ≠ .released ∧
      -- a leaf that arrived in RELEASING holds nothing back, its brake not RELEASED
      (let arrived := seatArrive .north (loweringStart [])
       (arrived.leaves.get .north).mot.takingPart = true ∧ (arrived.leaves.get .north).mot.arrivalReached = true ∧
         (arrived.brakes.get .north).state ≠ .released ∧ leafState arrived .south = .releasing ∧
         (arrived.brakes.get .south).state = .released) := by decide +kernel

/-! ### Passage, wind, adoption and the whole machine -/

theorem meets_RequiredAngleIsTheLowest :
    TableOk table161 ∧ closedClearance table161 < 851 ∧ 851 ≤ fullClearance table161 ∧
      4700 ≤ fullClearance table161 := ⟨⟨by decide, rfl, by decide, by decide⟩, by decide, by decide, by decide⟩

/-- A group whose second vessel waits for its gap, with the links and lamps that P_PROCEED needs. -/
def waiting (gap : Nat) : Blocks := lit (withGroup .cleared .waiting (some gap) opened)

theorem meets_GapsAndGrants :
    ((waiting 0).nav.gap = some 0 ∧ candidate (waiting 0).nav = some vessel1 ∧ traffic.nav.gap = none ∧
      (waiting 0).nav.group = .passing ∧ proceedingVessel (waiting 0).nav = none ∧
      (waiting 0).nav.lastCleared ≠ some vessel1.dir ∧ ¬ (waiting 59999).par.reverseMs ≤ 59999 ∧
      stationReady (waiting 0) .p = true ∧ (lampRec (waiting 0) (.green .inbound)).state ≠ .failed ∧
      (waiting 0).sil.latch = false ∧ (waiting 0).sil.consoleLost = false ∧
      (∀ l ∈ LeafId.all, leafState (waiting 0) l = .parked ∧ ((waiting 0).leaves.get l).pos.certain = true) ∧
      (vessel1.required : Int) ≤ effectiveLower (waiting 0) ∧ (latched (waiting 60000)).sil.latch = true ∧
      -- the group, and proceed shown and falling
      (let shown := lit (withGroup .proceeding .waiting none opened)
       (∀ l ∈ LeafId.all, leafState shown l = .parked ∧ (shown.leaves.get l).mot.arrived = true) ∧
         ({ shown with nav := { shown.nav with group := .awaitingOpen } } : Blocks).nav.group = .awaitingOpen ∧
         (∃ x ∈ shown.nav.slots, x.state = .waiting) ∧
         (∀ x ∈ (withGroup .cleared .withdrawn none opened).nav.slots, x.state ≠ .waiting ∧ x.state ≠ .proceeding) ∧
         shown.nav.proceedShown = some .outbound ∧ proceedingVessel shown.nav = some vessel2 ∧
         (vessel2.required : Int) ≤ effectiveLower shown ∧ (lampRec shown (.green .outbound)).state ≠ .failed ∧
         effectiveLower { shown with leaves := ⟨lowLeaf, parkedLeaf⟩ } < (vessel2.required : Int) ∧
         leafState { shown with leaves := ⟨movingLeaf, parkedLeaf⟩ } .north ≠ .parked ∧
         (lampRec { shown with slu := { lamps := Vector.replicate 12 { fitted := true, state := .failed } } }
           (.green .outbound)).state = .failed)) ∧
      ∀ ms : Nat, (waiting 60000).nav.gap = some ms → (waiting 60000).par.reverseMs ≤ ms :=
  ⟨by decide +kernel, fun ms h => by cases h; decide +kernel⟩

/-- The wind monitor in a measure state. -/
def wind (m : MeasureState) : State := at_ { Blocks.reset with wmn := { measure := m } }

theorem meets_WindFollowsTheAnemometer :
    (wind .firstEdge).blocks.wmn.measure ≠ .timing ∧ (wind .timing).blocks.wmn.measure = .timing ∧
      (2000000 : Nat) ≤ 2000000 ∧ (1999999 : Nat) < 2000000 ∧ 4999 < (wind .timing).blocks.par.anemoMinUs ∧
      (wind .timing).blocks.par.anemoMinUs ≤ 5000 ∧ (wind .calm).blocks.wmn.measure = .calm ∧
      (wind .timing).blocks.wmn.measure ≠ .calm ∧ ({} : Params).wHystDms < ({} : Params).wKneeDms ∧
      ({} : Params).wKneeDms < ({} : Params).wStopDms := by decide +kernel

/-- In ADOPT with the adopt timer at 0 and the inputs listed made. -/
def adopting (on : List InputFn) : Blocks :=
  { Blocks.reset with sil := { mode := .adopt, adoptTimer := some 0 }, iq := madeInputs on }

theorem meets_AdoptTimeoutFindsTheBridge :
    Blocks.reset.sil.mode ≠ .adopt ∧ ({ Blocks.reset with sil := { mode := .adopt } } : Blocks).sil.adoptTimer = none ∧
      (adopting []).sil.mode = .adopt ∧ (adopting []).sil.adoptTimer ≠ none ∧
      -- the four findings of a barrier and of a lock, and both of a leaf
      barrierShows (adopting [.entryUp .north]) .northEntry = .first ∧
      barrierShows (adopting [.entryDown .north]) .northEntry = .second ∧
      barrierShows (adopting []) .northEntry = .between ∧
      barrierShows (adopting [.entryUp .north, .entryDown .north]) .northEntry = .conflict ∧
      lockShows (adopting [.lockDriven .centre]) .centre = .first ∧
      lockShows (adopting [.lockWithdrawn .centre]) .centre = .second ∧
      lockShows (adopting []) .centre = .between ∧
      lockShows (adopting [.lockDriven .centre, .lockWithdrawn .centre]) .centre = .conflict ∧
      made (adopting [.seated .north]) (.seated .north) = true ∧ made (adopting []) (.seated .north) = false ∧
      -- every link aligned and every input FRESH, or not
      (let ready : Blocks := { adopting [] with links := ⟨goodLink, goodLink, goodLink⟩ }
       ready.sil.mode = .adopt ∧ ready.sil.adoptTimer ≠ none ∧
         (∀ l ∈ Link.all, (ready.links.get l).state = .aligned) ∧
         (∀ i ∈ List.finRange 41, (ready.iq.recs.get i).freshness = .fresh) ∧
         ((adopting []).links.get .n).state = .hunt) ∧
      -- a pending cadence, with an adopted ALERT that starts the generator and a TRAFFIC that does not
      (let paced := fun on => { adopting on with pend := { flashFpm := some 45 } }
       (adopt .timeout (paced [])).slu.running = true ∧ (paced []).slu.running = false ∧
         (adopt .timeout (paced (bars .entryUp .exitUp ++ pins .lockDriven ++ seats ++ [.estop]))).slu.running = false ∧
         (paced []).sil.mode = .adopt ∧ (paced []).sil.adoptTimer ≠ none) := by decide +kernel

theorem meets_OutputsFollowTheRecords :
    Blocks.reset.sil.mode ≠ .operate ∧ (latched traffic).sil.latch = true ∧ raising.sil.mode = .operate ∧
      raising.sil.latch = false ∧ ((broken []).barriers.get .northEntry).state = .fault ∧ (traffic.barriers.get .northEntry).state ≠ .fault ∧
      raising.nav.aspects.get .inbound = .red ∧
      (∀ a ∈ [ChannelAspect.red, .standby, .proceed, .outOfService],
        ({ raising with nav := { raising.nav with aspects := ⟨a, .red⟩ } } : Blocks).nav.aspects.get .inbound = a) := by
  decide +kernel

theorem meets_SafetyInvariantsAreKept :
    NotesOk (at_ raising) ∧ HoldOk raising.sil ∧ SpeedOk raising ∧ SkewOk raising ∧ ProceedOk raising.nav ∧
      ∃ t : State, step { at_ raising with pending := [.profileUpdate .north] } = .next t :=
  ⟨rfl, by unfold HoldOk; decide +kernel, fun _ l _ => by cases l <;> decide +kernel,
    fun _ _ _ _ _ _ => by decide +kernel, by unfold ProceedOk; decide +kernel, _, rfl⟩

theorem params_in_range : ParamsOk {} := by
  intro i j h
  have hi : 1 ≤ i ∧ i ≤ 40 := by
    simp only [paramNamed, Bool.and_eq_true, decide_eq_true_eq] at h
    exact h.1
  have hj : j < 2 := by
    simp only [paramNamed, Bool.and_eq_true, Bool.or_eq_true, beq_iff_eq] at h
    omega
  have all : ∀ i ∈ List.range 41, ∀ j ∈ List.range 2, paramNamed i j = true →
      paramInRange i (paramGet {} i j) = true := by decide +kernel
  exact all i (List.mem_range.mpr (by omega)) j (List.mem_range.mpr hj) h

theorem meets_ParametersAndQueueStayInRange :
    ParamsOk (crowd unlocked).par ∧ PendingOk { presenceMs := some 500, reverseMs := some 300000 } ∧
      PendingOk (crowd unlocked).pend ∧ RankOrder (crowd unlocked).nav.queue ∧ placesInUse (crowd unlocked).nav ≤ 12 ∧
      ∃ t : State, step { at_ (crowd unlocked) with pending := [.leavesRaise 1#8 0#8] } = .next t := by
  refine ⟨params_in_range, ?_, ?_, by unfold RankOrder; decide +kernel, by decide +kernel, _, rfl⟩
  · intro i v h
    unfold pendingGet at h
    split at h <;> first | (cases h; decide) | cases h
  · intro i v h
    unfold pendingGet at h
    split at h <;> cases h

end Sys2Proof.Tests
end

/-! The requests of the console: what a taken request answers, and the statements about modes, phases and permits. -/

namespace Sys2Proof.Proofs

open Sys2Proof.Machine Sys2Proof.Safety

/-! ## Commands complete (R7, R199, R201) -/

/-- A command that is a request is the arrival of its frame. -/
theorem exec_requestFrame {i : Instr} {f : Frame} (hf : requestFrame i = some f) (s : State) :
    exec i s = .next (consoleRequest f.kind f.tag f.body s) := by
  cases i <;> cases hf <;> rfl

theorem validFrame_pending (f : Frame) (s : State) : (validFrame f s).pending = s.pending := rfl

theorem completeFrame_pending (kind tag : Octet) (body : List Octet) (crc : BitVec 16) (s : State) :
    (completeFrame kind tag body crc s).pending = s.pending := by
  unfold completeFrame
  split_ifs <;> rfl

theorem completeOctets_pending (os : List Octet) (s : State) : (completeOctets os s).pending = s.pending := by
  unfold completeOctets
  split
  · split
    · exact completeFrame_pending _ _ _ _ s
    · rfl
  · rfl

theorem frameOctetTaken_pending (os : List Octet) (o : Octet) (s : State) :
    (frameOctetTaken os o s).pending = s.pending := by
  unfold frameOctetTaken
  dsimp only
  split_ifs
  · rfl
  · exact completeOctets_pending _ s
  · rfl

theorem receiveOctet_pending (o : Octet) (stop : Bool) (s : State) : (receiveOctet o stop s).pending = s.pending := by
  unfold receiveOctet
  split
  · split <;> rfl
  · split
    · exact frameOctetTaken_pending _ o s
    · rfl

/-- Settles O2: a request goes through the console alone, and of the other commands only a received frame or octet reads the
port; none of them writes the waiting commands. -/
theorem commandsCompleteAndKeepTheQueue : Obligations.CommandsCompleteAndKeepTheQueue := by
  intro i s
  cases hf : requestFrame i with
  | some f => exact ⟨_, exec_requestFrame hf s, consoleRequest_pending _ _ _ s⟩
  | none =>
    cases i
    case consoleFrameReceived kind tag body crc => exact ⟨_, rfl, completeFrame_pending kind tag body crc s⟩
    case consoleOctetReceived o stop => exact ⟨_, rfl, receiveOctet_pending o stop s⟩
    all_goals first | exact ⟨_, rfl, rfl⟩ | cases hf

/-! ## The reset state -/

/-- Settles O3: the reset is read off the state record by record. -/
theorem powerOnResetSetsEveryRecord : Obligations.PowerOnResetSetsEveryRecord := by
  intro s
  refine ⟨_, rfl, rfl, rfl, rfl, ?_, fun l => by cases l <;> rfl⟩
  intro f hf
  cases f
  case leaves => exact absurd (List.mem_singleton_self _) hf
  all_goals rfl

/-- The lamp record of every group at power-on reset. -/
theorem lampRec_reset (g : Lamp) : lampRec Blocks.reset g = {} := by
  have all : ∀ i : Fin 12, (Vector.replicate 12 ({} : LampRec)).get i = {} := fun i => by simp [Vector.get]
  exact all (lampIndex g)

/-- Settles O4: the reset state evaluates to the tables of the manual, part by part. -/
theorem resetHasTheManualsValues : Obligations.ResetHasTheManualsValues := by
  refine ⟨rfl, rfl, fun i => by cases i <;> rfl, fun k => by cases k <;> rfl,
    fun l => by cases l <;> exact ⟨rfl, rfl, rfl, rfl, rfl⟩, fun k => by cases k <;> exact ⟨rfl, rfl⟩,
    lampRec_reset, rfl, rfl, rfl, rfl, rfl, rfl, rfl, rfl⟩

/-- The parameters' reset values lie in their ranges (R202): a named parameter has an identifier 1 to 40 and a subject 0 or
1. -/
theorem paramsOk_reset : ParamsOk {} := by
  intro i j h
  have hi : 1 ≤ i ∧ i ≤ 40 := by
    simp only [paramNamed, Bool.and_eq_true, decide_eq_true_eq] at h
    exact h.1
  have hj : j < 2 := by
    simp only [paramNamed, Bool.and_eq_true, Bool.or_eq_true, beq_iff_eq] at h
    omega
  have all : ∀ i ∈ List.range 41, ∀ j ∈ List.range 2, paramNamed i j = true →
      paramInRange i (paramGet {} i j) = true := by decide +kernel
  exact all i (List.mem_range.mpr (by omega)) j (List.mem_range.mpr hj) h

/-- No pending value stands at reset. -/
theorem pendingGet_reset (i : Nat) : pendingGet {} i = none := by
  unfold pendingGet
  split <;> rfl

/-- Settles O13: the reset state has empty lists and parameters in their ranges. -/
theorem resetMeetsTheInvariants : Obligations.ResetMeetsTheInvariants := by
  refine ⟨⟨List.nodup_nil, by simp [State.reset]⟩, ⟨Nat.zero_le _, Nat.zero_le _, Nat.zero_le _⟩, rfl, ⟨nofun, fun h => absurd rfl h⟩,
    paramsOk_reset, ?_, nofun, nofun, ?_, List.Pairwise.nil, Nat.zero_le _⟩
  · intro i v h
    rw [show State.reset.blocks.pend = {} from rfl, pendingGet_reset] at h
    cases h
  · unfold ProceedOk
    decide

/-! ## Requests on a quiet port -/

/-- A request on a quiet port that its taking answers without a reset. -/
theorem exec_answered {i : Instr} {f : Frame} {s : State} {b : Blocks} {r : Result} (hf : requestFrame i = some f)
    (hl : f.body.length ≤ 64) (hq : QuietPort s) (ht : takeRequest f (atTaking s) = { blocks := b, result := r }) :
    exec i s = .next (answered s f b r) := by
  rw [exec_requestFrame hf, consoleRequest_valid _ _ _ _ hl, validFrame_quiet _ s hq (by rw [ht]), ht]

/-- The body of a frame of a well-formed request has at most 64 octets (R197). -/
theorem requestFits {i : Instr} (h : WellFormed i = true) {f : Frame} (hf : requestFrame i = some f) :
    f.body.length ≤ 64 := by
  cases i
  case loadClearance tag points =>
    cases hf
    simp only [WellFormed, pointsFit, decide_eq_true_eq] at h
    simp only [List.length_cons, Laws.RequestFits.pointOctets_length]
    omega
  case unknownKind kind tag body =>
    cases hf
    simp only [WellFormed, bodyFits, Bool.and_eq_true, decide_eq_true_eq] at h
    exact h.2
  all_goals
    cases hf
    try exact Nat.le_of_ble_eq_true rfl

/-! ## The judging of an operating request (R7) -/

theorem operate_wrongPhase {phase : Bool} {permit : List Cond} {effect : Blocks → Blocks} {b : Blocks}
    (hm : b.sil.mode = .operate) (hp : phase = false) : operate [] phase permit effect b = refuse .wrongPhase b := by
  simp [operate, inMode, hm, hp]

theorem operate_notPermitted {phase : Bool} {permit : List Cond} {effect : Blocks → Blocks} {b : Blocks} {c : Cond}
    (hm : b.sil.mode = .operate) (hp : phase = true) (hc : permitFails b permit = some c) :
    operate [] phase permit effect b = refuse (.notPermitted c) b := by
  simp [operate, inMode, hm, hp, hc]

theorem operate_accepted {phase : Bool} {permit : List Cond} {effect : Blocks → Blocks} {b : Blocks}
    (hm : b.sil.mode = .operate) (hp : phase = true) (hc : permitFails b permit = none) :
    operate [] phase permit effect b = accept (effect b) := by
  simp [operate, inMode, hm, hp, hc]

/-! ## Permits (R17, R18) -/

theorem forall_link {p : Link → Prop} : (∀ l, p l) ↔ p .n ∧ p .s ∧ p .p :=
  ⟨fun h => ⟨h _, h _, h _⟩, fun ⟨hn, hs, hp⟩ l => by cases l <;> assumption⟩

theorem forall_leaf {p : LeafId → Prop} : (∀ l, p l) ↔ p .north ∧ p .south :=
  ⟨fun h => ⟨h _, h _⟩, fun ⟨hn, hs⟩ l => by cases l <;> assumption⟩

theorem forall_lock {p : LockId → Prop} : (∀ k, p k) ↔ p .centre ∧ p .northTail ∧ p .southTail :=
  ⟨fun h => ⟨h _, h _, h _⟩, fun ⟨hc, hn, hs⟩ k => by cases k <;> assumption⟩

theorem forall_barrier {p : BarrierId → Prop} :
    (∀ i, p i) ↔ p .northEntry ∧ p .northExit ∧ p .southEntry ∧ p .southExit :=
  ⟨fun h => ⟨h _, h _, h _, h _⟩, fun ⟨h1, h2, h3, h4⟩ i => by cases i <;> assumption⟩

theorem exists_leaf {p : LeafId → Prop} : (∃ l, p l) ↔ p .north ∨ p .south :=
  ⟨fun ⟨l, h⟩ => by cases l <;> simp [h], fun h => h.elim (⟨_, ·⟩) (⟨_, ·⟩)⟩

theorem anyLeaf_iff (p : LeafId → Bool) : anyLeaf p = true ↔ ∃ l, p l = true := by
  simp [anyLeaf, exists_leaf]

theorem bothLeaves_iff (p : LeafId → Bool) : bothLeaves p = true ↔ ∀ l, p l = true := by
  simp [bothLeaves, forall_leaf]

theorem anyLeaf_eq_false_iff (p : LeafId → Bool) : anyLeaf p = false ↔ ∀ l, p l = false := by
  simp [anyLeaf, forall_leaf]

theorem bothSeated_iff (b : Blocks) : bothSeated b = true ↔ ∀ l, leafState b l = .seated := by
  simp [bothSeated, bothLeaves_iff]

theorem bothArrived_iff (b : Blocks) :
    bothArrived b = true ↔ ∀ l, leafState b l = .parked ∧ (b.leaves.get l).mot.arrived = true := by
  simp [bothArrived, bothLeaves_iff]

theorem allLocks_iff (b : Blocks) (s : LockState) : allLocks b s = true ↔ ∀ k, (b.locks.get k).state = s := by
  simp [allLocks, LockId.all, forall_lock]

theorem downOrOverridden_iff (b : Blocks) (i : BarrierId) :
    downOrOverridden b i = true ↔ (b.barriers.get i).state = .down ∨ Override.barrier i ∈ b.sil.overrides := by
  simp [downOrOverridden, barrierOverridden]

theorem barriersClosed_iff (b : Blocks) :
    barriersClosed b = true ↔ ∀ i, (b.barriers.get i).state = .down ∨ Override.barrier i ∈ b.sil.overrides := by
  simp [barriersClosed, BarrierId.all, forall_barrier, downOrOverridden_iff]

theorem stationReady_iff (b : Blocks) (l : Link) : stationReady b l = true ↔ (b.links.get l).status = .healthy ∧
    ((b.links.get l).state = .aligned ∨ (b.links.get l).state = .degraded) := by
  simp [stationReady, linkAligned]

theorem leafInMotion_iff (b : Blocks) (l : LeafId) : leafInMotion b l = true ↔
    leafState b l = .releasing ∨ leafState b l = .moving ∨ leafState b l = .stopping := by
  unfold leafInMotion
  split <;> simp_all

theorem condFails_stationNotReady (b : Blocks) : condFails b .stationNotReady = true ↔
    ∃ l : Link, l ≠ .p ∧ ¬ ((b.links.get l).status = .healthy ∧
      ((b.links.get l).state = .aligned ∨ (b.links.get l).state = .degraded)) := by
  have both : condFails b .stationNotReady = true ↔ ¬ (stationReady b .n = true ∧ stationReady b .s = true) := by
    simp only [condFails, Bool.not_eq_true', ← Bool.not_eq_true, Bool.and_eq_true]
  rw [both, stationReady_iff, stationReady_iff]
  constructor
  · intro h
    by_contra none
    push Not at none
    exact h ⟨none .n (by decide), none .s (by decide)⟩
  · rintro ⟨l, hl, h⟩ ⟨hn, hs⟩
    cases l
    exacts [h hn, h hs, hl rfl]

theorem condFails_barrierNotProven (b : Blocks) : condFails b .barrierNotProven = true ↔
    ∃ i : BarrierId, (b.barriers.get i).state ≠ .down ∧ Override.barrier i ∉ b.sil.overrides := by
  have closed : condFails b .barrierNotProven = true ↔ ¬ barriersClosed b = true := by
    simp only [condFails, barriersClosed, Bool.not_eq_true', Bool.not_eq_true]
  rw [closed, barriersClosed_iff]
  push Not
  rfl

theorem condFails_locks (b : Blocks) (s : LockState) : (!allLocks b s) = true ↔ ∃ k, (b.locks.get k).state ≠ s := by
  rw [Bool.not_eq_true', ← Bool.not_eq_true, allLocks_iff, not_forall]

theorem condFails_leafNotSeated (b : Blocks) : condFails b .leafNotSeated = true ↔
    ∃ l : LeafId, (b.leaves.get l).mot.state ≠ .seated := by
  rw [condFails, Bool.not_eq_true', ← Bool.not_eq_true, bothSeated_iff, not_forall]
  rfl

/-- A permit fails with its first failing condition. -/
theorem permitFails_eq_some (b : Blocks) (permit : List Cond) (c : Cond) : permitFails b permit = some c ↔
    ∃ before after : List Cond, permit = before ++ c :: after ∧ condFails b c = true ∧
      ∀ x ∈ before, condFails b x = false := by
  simp only [permitFails, List.find?_eq_some_iff_append, Bool.not_eq_true']
  exact ⟨fun ⟨hc, xs, ys, hp, hx⟩ => ⟨xs, ys, hp, hc, hx⟩, fun ⟨xs, ys, hp, hc, hx⟩ => ⟨hc, xs, ys, hp, hx⟩⟩

theorem permitFails_eq_none (b : Blocks) (permit : List Cond) :
    permitFails b permit = none ↔ ∀ x ∈ permit, condFails b x = false := by
  simp [permitFails]

/-- Settles O23: a permit is searched in its order, and each condition is read off its rule. -/
theorem permitsNameTheFirstFailingCondition : Obligations.PermitsNameTheFirstFailingCondition := by
  refine ⟨permitFails_eq_some, permitFails_eq_none, fun b => ⟨Iff.rfl, condFails_stationNotReady b, ?_,
    condFails_barrierNotProven b, condFails_locks b .withdrawn, condFails_locks b .driven, condFails_leafNotSeated b,
    ?_, ?_, ?_, ?_, ?_, ?_, ?_⟩⟩
  · simp [condFails]
  · simp [condFails, anyLeaf_iff, leafState]
  · simp [condFails, anyLeaf_iff]
  · simp [condFails]
  · simp [condFails]
  · simp [condFails, anyLeaf_iff]
  · simp [condFails]
  · simp [condFails]

/-! ## Modes (R2) -/

theorem inMode_other {m : Mode} {b : Blocks} {t : Taken} (h : b.sil.mode ≠ m) : inMode m b t = refuse .wrongMode b :=
  if_neg h

/-- The points of a LOAD_CLEARANCE are as many as its count says, so the mode is judged next. -/
theorem takeLoadClearance_wrongMode (points : List (BitVec 16 × BitVec 16)) (hn : points.length ≤ 15) (b : Blocks)
    (hm : b.sil.mode ≠ .config) :
    takeLoadClearance (BitVec.ofNat 8 points.length :: pointOctets points) b = refuse .wrongMode b := by
  have count : (pointOctets points).length = 4 * num (BitVec.ofNat 8 points.length) := by
    rw [Laws.RequestFits.pointOctets_length, num, BitVec.toNat_ofNat, Nat.mod_eq_of_lt (by omega)]
  simp [takeLoadClearance, count, inMode_other hm]

/-- The configuration requests but SET_PARAM and GET_PARAM are taken in CONFIG alone. -/
theorem takeRequest_notConfig {i : Instr} {f : Frame} (hw : WellFormed i = true) (hf : requestFrame i = some f)
    (b : Blocks) (h4 : 0x04 ≤ f.kind.toNat) (h8 : f.kind.toNat ≤ 0x08) (hm : b.sil.mode ≠ .config) :
    takeRequest f b = refuse .wrongMode b := by
  cases i <;> cases hf <;> dsimp only at h4 h8
  case loadClearance tag points =>
    exact takeLoadClearance_wrongMode points (by simpa [WellFormed, pointsFit] using hw) b hm
  case unknownKind kind tag body =>
    simp only [WellFormed, knownKind, Bool.and_eq_true, Bool.not_eq_true', decide_eq_false_iff_not] at hw
    omega
  all_goals first
    | exact absurd h4 (by decide)
    | exact absurd h8 (by decide)
    | exact inMode_other hm

/-- RECONFIGURE, RESTART, the operating and the passage requests are taken in OPERATE alone. -/
theorem takeRequest_notOperate {i : Instr} {f : Frame} (hw : WellFormed i = true) (hf : requestFrame i = some f)
    (b : Blocks) (h9 : 0x09 ≤ f.kind.toNat) (h22 : f.kind.toNat ≤ 0x22) (hk : knownKind f.kind = true)
    (hm : b.sil.mode ≠ .operate) : takeRequest f b = refuse .wrongMode b := by
  cases i <;> cases hf <;> dsimp only at h9 h22 hk
  case unknownKind kind tag body =>
    simp only [WellFormed, Bool.and_eq_true, Bool.not_eq_true'] at hw
    exact absurd hk (by simp [hw.1])
  all_goals first
    | exact absurd h9 (by decide)
    | exact absurd h22 (by decide)
    | exact inMode_other hm

/-- Settles O22: every request outside its modes is turned away before anything of it is judged but its length. -/
theorem requestsNeedTheirMode : Obligations.RequestsNeedTheirMode := fun _ _ _ hw hf hq =>
  ⟨fun h4 h8 hm => exec_answered hf (requestFits hw hf) hq (takeRequest_notConfig hw hf _ h4 h8 hm),
    fun h9 h22 hk hm => exec_answered hf (requestFits hw hf) hq (takeRequest_notOperate hw hf _ h9 h22 hk hm)⟩

/-! ## Phases, then permits (R7, R8) -/

/-- What a quiet port answers to an operating request without arguments that is turned away: WRONG_PHASE outside its phases,
and in them the first failing condition of its permit. -/
theorem exec_judged {i : Instr} {kind tag : Octet} {phase : Bool} {permit : List Cond} {effect : Blocks → Blocks}
    {s : State} (hf : requestFrame i = some { kind := kind, tag := tag, body := [] })
    (ht : takeRequest { kind := kind, tag := tag, body := [] } (atTaking s) =
      operate [] phase permit effect (atTaking s))
    (hq : QuietPort s) (hm : (atTaking s).sil.mode = .operate) :
    (phase = false → exec i s = .next (answered s { kind := kind, tag := tag, body := [] } (atTaking s) .wrongPhase)) ∧
    (phase = true → ∀ c : Cond, permitFails (atTaking s) permit = some c → exec i s =
      .next (answered s { kind := kind, tag := tag, body := [] } (atTaking s) (.notPermitted c))) :=
  ⟨fun hp => exec_answered hf (Nat.zero_le _) hq (ht.trans (operate_wrongPhase hm hp)),
    fun hp _ hc => exec_answered hf (Nat.zero_le _) hq (ht.trans (operate_notPermitted hm hp hc))⟩

/-- An operating request without arguments that is accepted on a quiet port. -/
theorem exec_accepted {i : Instr} {kind tag : Octet} {phase : Bool} {permit : List Cond} {effect : Blocks → Blocks}
    {s : State} (hf : requestFrame i = some { kind := kind, tag := tag, body := [] })
    (ht : takeRequest { kind := kind, tag := tag, body := [] } (atTaking s) =
      operate [] phase permit effect (atTaking s))
    (hq : QuietPort s) (hm : (atTaking s).sil.mode = .operate) (hp : phase = true)
    (hc : permitFails (atTaking s) permit = none) : exec i s =
      .next (answered s { kind := kind, tag := tag, body := [] } (effect (atTaking s)) (.ok [])) :=
  exec_answered hf (Nat.zero_le _) hq (ht.trans (operate_accepted hm hp hc))

theorem closePhase_iff (b : Blocks) : closePhase b = true ↔ b.sil.phase = .traffic ∨ b.sil.phase = .recovery ∧
    [RoadPhase.roadOpen, .exitRaising, .entryRaising, .alert].contains b.rsq.phase = true := by
  have road : ∀ p : RoadPhase, (!(closureRunning p) && p != .roadClosed) =
      [RoadPhase.roadOpen, .exitRaising, .entryRaising, .alert].contains p := by
    intro p
    cases p <;> rfl
  unfold closePhase
  split <;> simp_all

theorem openPhase_iff (b : Blocks) : openPhase b = true ↔
    b.sil.phase = .closing ∨ b.sil.phase = .closed ∨ b.sil.phase = .traffic ∧ b.rsq.phase = .alert := by
  unfold openPhase
  split <;> simp_all

theorem drivePhase_iff (p : SpanPhase) :
    drivePhase p = true ↔ p = .unlocking ∨ p = .unlocked ∨ p = .seated ∨ p = .recovery := by
  cases p <;> simp [drivePhase]

theorem recoveryNeeded_iff (b : Blocks) : recoveryNeeded b = true ↔
    ∃ l : LeafId, (b.leaves.get l).pos.certain = false ∧ leafState b l ≠ .seated := by
  simp [recoveryNeeded, anyLeaf_iff]

/-- P_LOCK with its condition that applies in RECOVERY only. -/
theorem permitLock_eq (b : Blocks) : permitLock b =
    if b.sil.phase = .recovery then [.estopLatched, .roadNotClosed, .leafNotSeated]
    else [.estopLatched, .leafNotSeated] := by
  unfold permitLock condsWhen
  split <;> simp_all

/-- The answers of `exec_judged` for phases said as a proposition. -/
theorem exec_judged_iff {i : Instr} {kind tag : Octet} {phase : Bool} {p : Prop} {permit : List Cond}
    {effect : Blocks → Blocks} {s : State} (hp : phase = true ↔ p)
    (hf : requestFrame i = some { kind := kind, tag := tag, body := [] })
    (ht : takeRequest { kind := kind, tag := tag, body := [] } (atTaking s) =
      operate [] phase permit effect (atTaking s))
    (hq : QuietPort s) (hm : (atTaking s).sil.mode = .operate) :
    (¬ p → exec i s = .next (answered s { kind := kind, tag := tag, body := [] } (atTaking s) .wrongPhase)) ∧
    (p → ∀ c : Cond, permitFails (atTaking s) permit = some c → exec i s =
      .next (answered s { kind := kind, tag := tag, body := [] } (atTaking s) (.notPermitted c))) := by
  rw [← hp, Bool.not_eq_true]
  exact exec_judged hf ht hq hm

/-- Settles O24: the phases of each request are those of R8, and its permit is judged in them alone. -/
theorem operatingRequestsAreJudged : Obligations.OperatingRequestsAreJudged := by
  intro tag s hq hm
  refine ⟨exec_judged_iff (closePhase_iff _) rfl rfl hq hm, exec_judged_iff (openPhase_iff _) rfl rfl hq hm,
    exec_judged_iff ?_ rfl rfl hq hm, ?_, exec_judged_iff ?_ rfl rfl hq hm, exec_judged_iff ?_ rfl rfl hq hm⟩
  · simp
  · rw [← permitLock_eq]
    exact exec_judged_iff (drivePhase_iff _) rfl rfl hq hm
  · simp
  · simp [recoveryNeeded_iff]

/-! ## SET_PARAM (R202) -/

/-- The four octets of a 32-bit operand hold its signed number. -/
theorem signed32_octets32 (v : BitVec 32) :
    signed32 (BitVec.ofNat 8 (v.toNat / 16777216)) (BitVec.ofNat 8 (v.toNat / 65536)) (BitVec.ofNat 8 (v.toNat / 256))
      (BitVec.ofNat 8 v.toNat) = v.toInt := by
  have hv := v.isLt
  have digits : 16777216 * (v.toNat / 16777216 % 256) + 65536 * (v.toNat / 65536 % 256) +
      256 * (v.toNat / 256 % 256) + v.toNat % 256 = v.toNat := by omega
  simp only [signed32, BitVec.toNat_ofNat, Nat.reducePow, digits]
  rw [BitVec.ofNat_toNat, BitVec.setWidth_eq]

theorem takeSetParam_eq (ident subject : Octet) (value : BitVec 32) (b : Blocks) :
    takeSetParam (ident :: subject :: octets32 value) b = setParam ident.toNat subject.toNat value.toInt b := by
  rw [← signed32_octets32 value]
  rfl

/-- SET_PARAM on a quiet port is answered as its fields are judged. -/
theorem exec_setParam {tag ident subject : Octet} {value : BitVec 32} {s : State} {b : Blocks} {r : Result}
    (hq : QuietPort s)
    (h : setParam ident.toNat subject.toNat value.toInt (atTaking s) = { blocks := b, result := r }) :
    exec (.setParam tag ident subject value) s =
      .next (answered s { kind := 0x02#8, tag := tag, body := ident :: subject :: octets32 value } b r) :=
  exec_answered rfl (Nat.le_of_ble_eq_true rfl) hq ((takeSetParam_eq ident subject value _).trans h)

/-- The checks of SET_PARAM that an accepted write passes (R202). -/
theorem setParam_accepted {ident subject : Nat} {v : Int} {b : Blocks} (hn : paramNamed ident subject = true)
    (hm : paramModeFails ident b.sil.mode = false) (hr : paramInRange ident v = true)
    (hc : ¬ (ident = 18 ∧ b.sil.mode = .operate ∧ v < (b.par.vCreep : Int))) :
    setParam ident subject v b = accept (writeParam ident subject v.toNat b) := by
  simp only [setParam, hn, hm, hr, hc, Bool.true_eq_false, Bool.false_eq_true, if_false]

theorem paramClass_staged_iff (ident : Nat) :
    paramClass ident = .staged ↔ ident ∈ [1, 13, 18, 20, 38, 39, 40] := by
  unfold paramClass
  split <;> simp_all

theorem paramClass_atOnce_iff (ident : Nat) : paramClass ident = .atOnce ↔ ident = 2 := by
  unfold paramClass
  split <;> simp_all

/-- A staged parameter keeps the value written to its pending field. -/
theorem pendingGet_pendingSet_same {ident : Nat} (h : paramClass ident = .staged) (q : Pending) (v : Option Nat) :
    pendingGet (pendingSet q ident v) ident = v := by
  rw [paramClass_staged_iff] at h
  simp only [List.mem_cons, List.not_mem_nil, or_false] at h
  rcases h with rfl | rfl | rfl | rfl | rfl | rfl | rfl <;> rfl

theorem pendingGet_pendingSet_other {ident i : Nat} (h : i ≠ ident) (q : Pending) (v : Option Nat) :
    pendingGet (pendingSet q ident v) i = pendingGet q i := by
  unfold pendingSet pendingGet
  split <;> first | rfl | (split <;> simp_all)

/-- A write of a staged parameter in OPERATE touches the pending values alone. -/
theorem writeParam_staged {ident : Nat} (subject v : Nat) {b : Blocks} (hc : paramClass ident = .staged)
    (hm : b.sil.mode = .operate) :
    writeParam ident subject v b = { b with pend := pendingSet b.pend ident (some v) } := if_pos ⟨hc, hm⟩

/-- REPORT_FLOOR becomes active at once. -/
theorem writeParam_reportFloor (subject v : Nat) (b : Blocks) :
    writeParam 2 subject v b = { b with par := { b.par with reportFloor := v } } := by
  simp [writeParam, paramClass, afterWrite, paramSet, pendingSet]

/-- The mode refuses a write in ADOPT, and in OPERATE one of a parameter of CONFIG alone. -/
theorem paramModeFails_iff (ident : Nat) (m : Mode) : paramModeFails ident m = true ↔
    m = .adopt ∨ m = .operate ∧ paramClass ident = .configOnly := by
  cases m <;> simp [paramModeFails]

/-- Settles O16: a write that passes every check goes to the pending value or, for REPORT_FLOOR, to the active one; each check
that fails ends it before. -/
theorem setParamStagesAndChecks : Obligations.SetParamStagesAndChecks := by
  refine ⟨?staged, ?atOnce, fun i => ⟨paramClass_staged_iff i, paramClass_atOnce_iff i⟩, ?refusals⟩
  case staged =>
    intro tag ident subject value s hq hm hn hc hr hv
    have allowed : paramModeFails ident.toNat (atTaking s).sil.mode = false := by simp [hm, hc, paramModeFails]
    have speed : ¬ (ident.toNat = 18 ∧ (atTaking s).sil.mode = .operate ∧ value.toInt < ((atTaking s).par.vCreep : Int)) :=
      fun ⟨hi, _, hlt⟩ => absurd (hv hi) (not_le.mpr hlt)
    refine ⟨_, exec_setParam hq ((setParam_accepted hn allowed hr speed).trans
      (congrArg accept (writeParam_staged _ _ hc hm))), pendingGet_pendingSet_same hc _ _,
      fun i hi => pendingGet_pendingSet_other hi _ _, ?_⟩
    intro f hf
    cases f
    case pend => exact absurd (List.mem_singleton_self _) hf
    all_goals rfl
  case atOnce =>
    intro tag subject value s hq hm hs h0 h3
    subst hs
    have inRange : paramInRange 2 value.toInt = true := by simp [paramInRange, paramRange, h0, h3]
    exact exec_setParam hq ((setParam_accepted rfl (by rw [hm]; rfl) inRange (by simp)).trans
      (congrArg accept (writeParam_reportFloor _ _ _)))
  case refusals =>
    intro tag ident subject value s hq
    refine ⟨fun hn => exec_setParam hq (by simp [setParam, hn, refuse]), fun hn => ⟨fun hm => ?_, fun hm => ⟨fun hr => ?_,
      fun hi ho hv => ?_⟩⟩⟩
    · have fails := (paramModeFails_iff ident.toNat (atTaking s).sil.mode).mpr hm
      exact exec_setParam hq (by simp [setParam, hn, fails, refuse])
    all_goals
      have allowed : paramModeFails ident.toNat (atTaking s).sil.mode = false := by
        rw [← Bool.not_eq_true, paramModeFails_iff]
        rintro (h | ⟨h, hc⟩) <;> rcases hm with h' | ⟨h', hc'⟩ <;> simp_all
    · exact exec_setParam hq (by simp [setParam, hn, allowed, hr, refuse])
    · refine exec_setParam hq ?_
      rw [hi] at hn allowed ⊢
      rw [ho] at allowed
      simp [setParam, hn, allowed, ho, hv, refuse]

end Sys2Proof.Proofs

/-! Overrides, the outputs and the first incomplete item of CONFIG_DONE. -/

namespace Sys2Proof.Proofs

open Sys2Proof.Machine Sys2Proof.Safety

/-! ## Overrides (R24, R25) -/

theorem overrideStands_iff (b : Blocks) (o : Override) : overrideStands b o = true ↔ match o with
    | .barrier i => (b.barriers.get i).state ≠ .up ∧ (b.barriers.get i).state ≠ .down
    | .complement a => holdsComplement b a = false := by
  cases o <;> simp [overrideStands]

theorem overrideApplies_iff (b : Blocks) (o : Override) : overrideApplies b o = true ↔ match o with
    | .barrier i => b.rsq.phase ≠ .roadOpen ∧
        ((b.barriers.get i).state = .fault ∨ (b.barriers.get i).state = .unproven)
    | .complement a => holdsComplement b a = false := by
  cases o <;> simp [overrideApplies]

/-- The kind and the subject of an entry name it. -/
theorem overrideOf_named {kind subject : Nat} {o : Override}
    (h : (kind = 0 ∧ ∃ i : BarrierId, o = .barrier i ∧ subject = barrierNumber i) ∨
      (kind = 1 ∧ ∃ a : Approach, o = .complement a ∧ subject = approachNumber a)) :
    overrideOf kind subject = some o := by
  obtain ⟨rfl, i, rfl, rfl⟩ | ⟨rfl, a, rfl, rfl⟩ := h
  · cases i <;> rfl
  · cases a <;> rfl

theorem inMode_same {m : Mode} {b : Blocks} {t : Taken} (h : b.sil.mode = m) : inMode m b t = t := if_pos h

theorem takeOverrideGrant_eq {kind subject : Octet} {b : Blocks} (hm : b.sil.mode = .operate) :
    takeOverrideGrant [kind, subject] b = match overrideOf kind.toNat subject.toNat with
      | none => refuse .range b
      | some o =>
        if b.sil.overrides.contains o then refuse .duplicate b
        else if overrideApplies b o = false then refuse (.notPermitted .overrideNotApplicable) b
        else accept (changeOverrides (b.sil.overrides ++ [o]) b) := inMode_same hm

theorem takeOverrideRevoke_eq {kind subject : Octet} {b : Blocks} (hm : b.sil.mode = .operate) :
    takeOverrideRevoke [kind, subject] b = match overrideOf kind.toNat subject.toNat with
      | none => refuse .range b
      | some o =>
        if b.sil.overrides.contains o then accept (changeOverrides (b.sil.overrides.filter fun x => x != o) b)
        else refuse .notFound b := inMode_same hm

/-- OVERRIDE_GRANT on a quiet port is answered as its taking says. -/
theorem exec_overrideGrant {tag kind subject : Octet} {s : State} {b : Blocks} {r : Result} (hq : QuietPort s)
    (h : takeOverrideGrant [kind, subject] (atTaking s) = { blocks := b, result := r }) :
    exec (.overrideGrant tag kind subject) s =
      .next (answered s { kind := 0x1B#8, tag := tag, body := [kind, subject] } b r) :=
  exec_answered rfl (Nat.le_of_ble_eq_true rfl) hq h

/-- OVERRIDE_REVOKE on a quiet port is answered as its taking says. -/
theorem exec_overrideRevoke {tag kind subject : Octet} {s : State} {b : Blocks} {r : Result} (hq : QuietPort s)
    (h : takeOverrideRevoke [kind, subject] (atTaking s) = { blocks := b, result := r }) :
    exec (.overrideRevoke tag kind subject) s =
      .next (answered s { kind := 0x1C#8, tag := tag, body := [kind, subject] } b r) :=
  exec_answered rfl (Nat.le_of_ble_eq_true rfl) hq h

/-- A change of the override table in OPERATE posts its SPAN report among the event's postings. -/
theorem changeOverrides_reported (os : List Override) (s0 : Blocks) {b : Blocks} (hm : b.sil.mode = .operate) :
    ({ kind := .span, subject := 0, body := spanFields (settle s0 (changeOverrides os b)) } : Posting) ∈
      eventPostings s0 (settle s0 (changeOverrides os b)) :=
  List.mem_flatten.mpr ⟨_, by simp, changeOverrides_posts os s0 b hm⟩

/-- Settles O34: the table is changed where the entry and its reason allow it, and a change is among the event's postings. -/
theorem overridesAreGrantedAndRevoked : Obligations.OverridesAreGrantedAndRevoked := by
  refine ⟨fun b => ⟨rfl, List.filter_sublist, fun o => ?_⟩, fun tag kind subject s hq => ?_⟩
  · exact List.mem_filter.trans (and_congr_right fun _ => overrideStands_iff b o)
  intro b f table reported hm
  refine ⟨fun hn => ⟨exec_overrideGrant hq ?_, exec_overrideRevoke hq ?_⟩, fun o named => ?_⟩
  · rw [takeOverrideGrant_eq hm, hn]; rfl
  · rw [takeOverrideRevoke_eq hm, hn]; rfl
  have ho : overrideOf kind.toNat subject.toNat = some o := overrideOf_named named
  have without : (fun x : Override => decide (x ≠ o)) = fun x => x != o := by
    funext x
    by_cases h : x = o <;> simp [h]
  refine ⟨fun hmem => ⟨exec_overrideGrant hq ?_, exec_overrideRevoke hq ?_, changeOverrides_reported _ _ hm⟩,
    fun hmem => ⟨exec_overrideRevoke hq ?_, fun ha => ⟨exec_overrideGrant hq ?_, changeOverrides_reported _ _ hm⟩,
      fun ha => exec_overrideGrant hq ?_⟩⟩
  · rw [takeOverrideGrant_eq hm, ho]
    simp [b, hmem, refuse]
  · rw [takeOverrideRevoke_eq hm, ho, without]
    simp [b, hmem, accept, table, changeOverrides, setOverrides, note]
  · rw [takeOverrideRevoke_eq hm, ho]
    simp [b, hmem, refuse]
  · rw [takeOverrideGrant_eq hm, ho]
    simp [b, hmem, (overrideApplies_iff _ o).mpr ha, accept, table, changeOverrides, setOverrides, note]
  · have fails := Bool.eq_false_of_not_eq_true (mt (overrideApplies_iff _ o).mp ha)
    rw [takeOverrideGrant_eq hm, ho]
    simp [b, hmem, fails, refuse]

/-! ## Outputs (R3, R44, R74, R75, R101, R140, R146, R150) -/

theorem barrierOutputs_of_command {b : Blocks} {i : BarrierId} (h : (b.barriers.get i).state ≠ .fault) :
    (outputValue b (.lower i) = true ↔ (b.barriers.get i).command = .lower) ∧
      (outputValue b (.raise i) = true ↔ (b.barriers.get i).command = .raise) := by
  simp [outputValue, h]

/-- A barrier has one command, so at most one of its outputs is on. -/
theorem barrierOutputsOk (b : Blocks) : BarrierOutputsOk b := by
  intro i
  cases h : (b.barriers.get i).command <;> simp [outputValue, h]

/-- A lock travels one way at a time, so at most one of its motor lines is on. -/
theorem lockLinesOk (b : Blocks) : LockLinesOk b := by
  intro k
  cases h : (b.locks.get k).state <;> simp [lockDriveLine, lockWithdrawLine, h]

theorem machineryAtRest {b : Blocks} (h : b.sil.mode ≠ .operate ∨ b.sil.latch = true) : MachineryAtRest b := by
  rcases h with h | h <;>
    exact ⟨fun l => by simp [driveDuty, brakeLine, h], fun k => by simp [lockDriveLine, lockWithdrawLine, h]⟩

theorem outputValue_lampOutput (b : Blocks) (g : Lamp) : outputValue b (lampOutput g) = (lampRec b g).command := by
  cases g <;> rfl

theorem roadLampCommands (b : Blocks) (a : Approach) :
    lampCommand b (.amber a) = decide (b.slu.aspects.get a = .amber) ∧
      lampCommand b (.redA a) = decide (b.slu.aspects.get a = .redFlash ∧ b.slu.phaseB = false) ∧
      lampCommand b (.redB a) = decide (b.slu.aspects.get a = .redFlash ∧ b.slu.phaseB = true) := by
  cases ha : b.slu.aspects.get a <;> cases hp : b.slu.phaseB <;> simp [lampCommand, ha, hp]

/-- The three lamps of a direction by its aspect. -/
theorem channelLampCommands (b : Blocks) (d : Dir) :
    lampCommand b (.red1 d) = red1Command (b.nav.aspects.get d) b.slu.phaseB ∧
      lampCommand b (.red2 d) = red2Command (b.nav.aspects.get d) b.slu.phaseB
        (decide ((lampRec b (.red1 d)).state = .failed)) ∧
      lampCommand b (.green d) = (b.nav.aspects.get d == .proceed) := ⟨rfl, rfl, rfl⟩

/-- Settles O58: each output is read off the one record that it follows. -/
theorem outputsFollowTheRecords : Obligations.OutputsFollowTheRecords := by
  refine fun b => ⟨barrierOutputsOk b, lockLinesOk b, machineryAtRest, fun hm hl => ⟨fun l => ?_, fun k => ?_⟩,
    fun i hi => ?_, fun i hi => barrierOutputs_of_command hi, fun a => rfl, outputValue_lampOutput b, roadLampCommands b,
    fun d => ?_⟩
  · simp [driveDuty, brakeLine, hm, hl]
  · simp [lockDriveLine, lockWithdrawLine, hm, hl]
  · simp [outputValue, hi]
  · obtain ⟨h1, h2, hg⟩ := channelLampCommands b d
    rw [h1, h2, hg]
    refine ⟨fun h => ?_, fun h => ?_, fun h => ?_, fun h => ?_⟩ <;> rw [h] <;> exact ⟨rfl, rfl, rfl⟩

end Sys2Proof.Proofs

/-! CONFIG_DONE and the first incomplete item (R4, R68). -/

namespace Sys2Proof.Proofs

open Sys2Proof.Machine Sys2Proof.Safety

/-! ## The least item by class and number -/

/-- `o` is the least number with a property, none where no number has it. -/
def LeastNumber (p : Nat → Prop) : Option Nat → Prop
  | none => ∀ n, ¬ p n
  | some n => p n ∧ ∀ m, p m → n ≤ m

/-- `o` is the least failing item by class, then by number; none where none fails. -/
def LeastItem (fails : Nat → Nat → Prop) : Option (Nat × Nat) → Prop
  | none => ∀ cls number, ¬ fails cls number
  | some (cls, number) => fails cls number ∧ ∀ x y, fails x y → cls < x ∨ (cls = x ∧ number ≤ y)

theorem leastItem_eq_none {fails : Nat → Nat → Prop} {o : Option (Nat × Nat)} (h : LeastItem fails o) :
    o = none ↔ ∀ cls number, ¬ fails cls number := by
  cases o with
  | none => exact ⟨fun _ => h, fun _ => rfl⟩
  | some item => exact ⟨nofun, fun hn => absurd h.1 (hn _ _)⟩

theorem leastItem_eq_some {fails : Nat → Nat → Prop} {o : Option (Nat × Nat)} (h : LeastItem fails o)
    (cls number : Nat) : o = some (cls, number) ↔
      fails cls number ∧ ∀ x y, fails x y → cls < x ∨ (cls = x ∧ number ≤ y) := by
  cases o with
  | none => exact ⟨nofun, fun hf => absurd hf.1 (h _ _)⟩
  | some item =>
    constructor
    · rintro ⟨⟩
      exact h
    · intro hf
      have here := h.2 _ _ hf.1
      have there := hf.2 _ _ h.1
      rw [Option.some.injEq]
      ext <;> dsimp only <;> omega

/-- The items of one class. -/
theorem leastItem_class {p : Nat → Prop} {o : Option Nat} (c : Nat) (h : LeastNumber p o) :
    LeastItem (fun cls number => cls = c ∧ p number) (o.map (c, ·)) := by
  cases o with
  | none => exact fun _ _ hf => h _ hf.2
  | some n => exact ⟨⟨rfl, h.1⟩, fun x y hf => .inr ⟨hf.1.symm, h.2 y hf.2⟩⟩

/-- The items of one class stand before those of the classes above it. -/
theorem leastItem_or {p : Nat → Prop} {rest : Nat → Nat → Prop} {o : Option Nat} {o' : Option (Nat × Nat)} {c : Nat}
    (h : LeastNumber p o) (h' : LeastItem rest o') (above : ∀ x y, rest x y → c < x) :
    LeastItem (fun cls number => (cls = c ∧ p number) ∨ rest cls number) ((o.map (c, ·)).or o') := by
  cases o with
  | some n => exact ⟨.inl ⟨rfl, h.1⟩, fun x y hf => hf.elim (fun ⟨hx, hy⟩ => .inr ⟨hx.symm, h.2 y hy⟩)
      fun hr => .inl (above x y hr)⟩
  | none =>
    have skip : ∀ x y, ((x = c ∧ p y) ∨ rest x y) ↔ rest x y := fun x y => or_iff_right fun hp => h y hp.2
    simp only [skip]
    exact h'

/-- The first element of a list in rising order of its numbers is the least one. -/
theorem leastNumber_find {α : Type} (key : α → Nat) (test : α → Bool) : ∀ l : List α,
    l.Pairwise (fun x y => key x ≤ key y) →
      LeastNumber (fun n => ∃ x ∈ l, test x = true ∧ n = key x) ((l.find? test).map key)
  | [], _ => by simp [LeastNumber]
  | a :: l, hl => by
    have ih := leastNumber_find key test l hl.of_cons
    by_cases ha : test a = true
    · rw [List.find?_cons_of_pos ha]
      refine ⟨⟨a, List.mem_cons_self, ha, rfl⟩, ?_⟩
      rintro m ⟨x, hx, -, rfl⟩
      rcases List.mem_cons.mp hx with rfl | hx
      · exact le_rfl
      · exact List.rel_of_pairwise_cons hl hx
    · rw [List.find?_cons_of_neg ha]
      have tail : ∀ n, (∃ x ∈ a :: l, test x = true ∧ n = key x) ↔ ∃ x ∈ l, test x = true ∧ n = key x := fun n => by
        simp [ha]
      simp only [tail]
      exact ih

theorem leastNumber_congr {p q : Nat → Prop} (h : ∀ n, p n ↔ q n) {o : Option Nat} (ho : LeastNumber p o) :
    LeastNumber q o := by
  rw [← funext fun n => propext (h n)]
  exact ho

/-! ## The items of CONFIG_DONE, class by class -/

theorem inputMissing_iff (b : Blocks) (i : Fin 24) : inputMissing b i = true ↔ isOptional (fieldFn i) = false ∧
    ∀ (p : Position) (n : Nat) (inv rep : Bool), b.cat.inputs.get i ≠ some (.position p n inv rep) := by
  cases he : b.cat.inputs.get i with
  | none => simp [inputMissing, he]
  | some e =>
    cases e with
    | notFitted => simp [inputMissing, he]
    | position p n inv rep =>
      have held : inputMissing b i = false := by simp [inputMissing, he]
      rw [held]
      exact ⟨nofun, fun h => absurd rfl (h.2 p n inv rep)⟩

theorem outputFitted_iff (b : Blocks) (g : OutputFn) :
    outputFitted b g = true ↔ ∃ (l : Link) (p : Position), (b.cat.outputs.get l).get p = some g := by
  have row : ∀ v : Vector (Option OutputFn) 60, (v.toList.any fun e => e == some g) = true ↔
      ∃ p : Position, v.get p = some g := by
    intro v
    rw [List.any_eq_true]
    constructor
    · rintro ⟨e, he, hg⟩
      obtain ⟨k, hk, rfl⟩ := List.getElem_of_mem he
      exact ⟨⟨k, by simpa using hk⟩, by simpa [Vector.get] using hg⟩
    · rintro ⟨p, hp⟩
      exact ⟨_, List.getElem_mem (n := p.val) (by simp), by simpa [Vector.get] using hp⟩
  have links : ∀ f : Link → Bool, Link.all.any f = true ↔ ∃ l, f l = true := by
    intro f
    constructor
    · intro h
      obtain ⟨l, -, hl⟩ := List.any_eq_true.mp h
      exact ⟨l, hl⟩
    · rintro ⟨l, hl⟩
      exact List.any_eq_true.mpr ⟨l, by cases l <;> simp [Link.all], hl⟩
  simp only [outputFitted, links, row]

theorem outputMissing_iff (b : Blocks) (g : OutputFn) : outputMissing b g = true ↔ outputMandatory g = true ∧
    ¬ ∃ (l : Link) (p : Position), (b.cat.outputs.get l).get p = some g := by
  rw [← outputFitted_iff]
  simp [outputMissing]

theorem lampInconsistent_iff (b : Blocks) (g : Lamp) : lampInconsistent b g = true ↔
    ¬ ((∃ (l : Link) (p : Position), (b.cat.outputs.get l).get p = some (lampOutput g)) ↔
      ∃ p : Position, sourcePosition b (inputIndex (lampInput g)) = some p) := by
  rw [← outputFitted_iff, ← Option.isSome_iff_exists, ← Bool.eq_iff_iff]
  simp [lampInconsistent]

theorem tableFits_iff (b : Blocks) : tableFits b = true ↔ b.nav.loaded = true ∧
    (b.nav.table.map Prod.fst).getLastD 0 ≤ min b.par.openAngleCd.north b.par.openAngleCd.south := by
  simp only [tableFits, Bool.and_eq_true, decide_eq_true_eq]
  rfl

theorem lampGroups_rise : lampGroups.Pairwise fun g h => (lampIndex g).val ≤ (lampIndex h).val := by decide

theorem mem_lampGroups (g : Lamp) : g ∈ lampGroups := by
  obtain a | a | a | d | d | d := g
  all_goals first | (cases a <;> decide) | (cases d <;> decide)

/-- The missing inputs, by number. -/
theorem leastNumber_inputs (b : Blocks) : LeastNumber
    (fun number => ∃ i : Fin 24, number = i.val + 1 ∧ isOptional (fieldFn i) = false ∧
      ∀ (p : Position) (n : Nat) (inv rep : Bool), b.cat.inputs.get i ≠ some (.position p n inv rep))
    (((List.finRange 24).find? (inputMissing b)).map fun i => i.val + 1) := by
  refine leastNumber_congr (fun n => ?_) (leastNumber_find (fun i : Fin 24 => i.val + 1) (inputMissing b) _ (by decide))
  simp only [List.mem_finRange, true_and, inputMissing_iff]
  exact exists_congr fun i => and_comm

/-- The missing outputs, by number. -/
theorem leastNumber_outputs (b : Blocks) : LeastNumber
    (fun number => ∃ g : OutputFn, outputOf number = some g ∧ outputMandatory g = true ∧
      ¬ ∃ (l : Link) (p : Position), (b.cat.outputs.get l).get p = some g)
    (((List.range 22).find? fun k => (outputOf (k + 1)).any (outputMissing b)).map fun k => k + 1) := by
  refine leastNumber_congr (fun n => ?_)
    (leastNumber_find (fun k : Nat => k + 1) (fun k => (outputOf (k + 1)).any (outputMissing b)) _ (by decide))
  simp only [Option.any_eq_true, outputMissing_iff, List.mem_range]
  constructor
  · rintro ⟨k, -, ⟨g, hg, hm⟩, rfl⟩
    exact ⟨g, hg, hm⟩
  · rintro ⟨g, hg, hm⟩
    obtain _ | k := n
    · cases hg
    · exact ⟨k, (List.getElem?_eq_some_iff.mp hg).1, ⟨g, hg, hm⟩, rfl⟩

/-- The lamp groups whose output and current input do not agree, by number. -/
theorem leastNumber_lamps (b : Blocks) : LeastNumber
    (fun number => ∃ g : Lamp, number = (lampIndex g).val ∧
      ¬ ((∃ (l : Link) (p : Position), (b.cat.outputs.get l).get p = some (lampOutput g)) ↔
        ∃ p : Position, sourcePosition b (inputIndex (lampInput g)) = some p))
    ((lampGroups.find? (lampInconsistent b)).map fun g => (lampIndex g).val) := by
  refine leastNumber_congr (fun n => ?_)
    (leastNumber_find (fun g => (lampIndex g).val) (lampInconsistent b) _ lampGroups_rise)
  simp only [mem_lampGroups, true_and, lampInconsistent_iff]
  exact exists_congr fun g => and_comm

theorem leastNumber_table (b : Blocks) : LeastNumber
    (fun number => number = 0 ∧ ¬ (b.nav.loaded = true ∧
      (b.nav.table.map Prod.fst).getLastD 0 ≤ min b.par.openAngleCd.north b.par.openAngleCd.south))
    (if tableFits b then none else some 0) := by
  rw [← tableFits_iff]
  cases tableFits b <;> simp [LeastNumber]

/-- The failing cross-checks, by number. -/
theorem leastNumber_checks (p : Params) : LeastNumber
    (fun number => (number = 1 ∧ p.vCruise < p.vCreep) ∨ (number = 2 ∧ p.skewLimitCd ≤ p.skewTrimCd) ∨
      (number = 3 ∧ p.wStopDms ≤ p.wKneeDms) ∨ (number = 4 ∧ p.wKneeDms ≤ p.wHystDms))
    ([1, 2, 3, 4].find? (crossCheckFails p)) := by
  have first := leastNumber_find (fun k : Nat => k) (crossCheckFails p) [1, 2, 3, 4] (by decide)
  rw [Option.map_id'] at first
  refine leastNumber_congr (fun n => ?_) first
  simp only [List.mem_cons, List.not_mem_nil, or_false, or_and_right, exists_or, exists_eq_left, crossCheckFails,
    decide_eq_true_eq, and_comm]

/-- The first incomplete item as one choice over the five classes. -/
theorem firstIncomplete_eq (b : Blocks) : firstIncomplete b =
    ((((List.finRange 24).find? (inputMissing b)).map fun i => i.val + 1).map (0, ·)).or
      (((((List.range 22).find? fun k => (outputOf (k + 1)).any (outputMissing b)).map fun k => k + 1).map (1, ·)).or
        ((((lampGroups.find? (lampInconsistent b)).map fun g => (lampIndex g).val).map (2, ·)).or
          (((if tableFits b then none else some 0).map (3, ·)).or
            (([1, 2, 3, 4].find? (crossCheckFails b.par)).map (4, ·))))) := by
  simp only [firstIncomplete, Option.map_map, apply_ite (Option.map _), Option.map_none, Option.map_some]
  rfl

/-- Settles O20: the search for an incomplete item goes class by class, so what it finds is the least. -/
theorem configDoneStartsAdoption : Obligations.ConfigDoneStartsAdoption := by
  refine ⟨fun tag s hq hm => ?_, fun b => ?_⟩
  · have still : atTaking s = s.blocks := by
      rw [atTaking, presenceRestart, if_neg (by simp [hm]), settle_config _ _ hm]
    have taken : takeRequest { kind := 0x08#8, tag := tag, body := [] } (atTaking s) = match firstIncomplete s.blocks with
        | some (cls, number) => refuse (.incomplete cls number) s.blocks
        | none => accept (enterAdopt s.blocks) := by
      rw [still]
      exact inMode_same hm
    refine ⟨fun hn => exec_answered rfl (Nat.zero_le _) hq (taken.trans (by rw [hn]; rfl)), fun cls number hi =>
      exec_answered rfl (Nat.zero_le _) hq (taken.trans (by rw [hi]; rfl))⟩
  · have least := firstIncomplete_eq b ▸ leastItem_or (leastNumber_inputs b)
      (leastItem_or (c := 1) (leastNumber_outputs b)
        (leastItem_or (c := 2) (leastNumber_lamps b)
          (leastItem_or (c := 3) (leastNumber_table b) (leastItem_class 4 (leastNumber_checks b.par))
            (by omega)) (by omega)) (by omega)) (by omega)
    exact ⟨leastItem_eq_none least, leastItem_eq_some least⟩

end Sys2Proof.Proofs

/-! The frames of the operations of a whole event: which records what follows by itself, adoption, the timers, the lines and
the published inputs can change. -/

namespace Sys2Proof.Proofs

open Sys2Proof.Machine Sys2Proof.Safety

/-! ## Frames compose -/

/-- A frame after another, both inside a wider one. -/
theorem sameBut_join {fs gs hs : List BlockField} {a b c : Blocks} (h : SameBut fs a b) (k : SameBut gs b c)
    (hf : ∀ f ∈ fs, f ∈ hs) (hg : ∀ g ∈ gs, g ∈ hs) : SameBut hs a c :=
  sameBut_trans (sameBut_mono h hf) (sameBut_mono k hg)

theorem sameBut_ite {fs : List BlockField} {p : Prop} [Decidable p] {a x y : Blocks} (h : SameBut fs a x)
    (k : SameBut fs a y) : SameBut fs a (if p then x else y) := by
  split
  · exact h
  · exact k

/-! ## The road -/

theorem enterAlert_sameBut (c : AlertCause) (b : Blocks) : SameBut [.rsq, .slu] b (enterAlert c b) :=
  showPhase_sameBut .alert c b

theorem enterAmber_sameBut (b : Blocks) : SameBut [.rsq, .slu, .barriers] b (enterAmber b) :=
  sameBut_join (enterPhase_sameBut .amber b) (setRoadTimer_sameBut _ _) (by decide) (by decide)

theorem enterRedWarn_sameBut (b : Blocks) : SameBut [.rsq, .slu, .barriers] b (enterRedWarn b) :=
  sameBut_join (enterPhase_sameBut .redWarn b) (setRoadTimer_sameBut _ _) (by decide) (by decide)

theorem enterClearance_sameBut (b : Blocks) : SameBut [.rsq, .slu, .barriers] b (enterClearance b) :=
  sameBut_join (enterPhase_sameBut .clearance b) (setClearance_sameBut _ _) (by decide) (by decide)

theorem rsq_sameBut (r : Rsq) (b : Blocks) : SameBut [.rsq] b { b with rsq := r } := by
  intro f hf
  cases f <;> first | rfl | exact absurd (by decide) hf

theorem sil_sameBut (r : Sil) (b : Blocks) : SameBut [.sil] b { b with sil := r } := by
  intro f hf
  cases f <;> first | rfl | exact absurd (by decide) hf

theorem nav_sameBut (n : Nav) (b : Blocks) : SameBut [.nav] b { b with nav := n } := by
  intro f hf
  cases f <;> first | rfl | exact absurd (by decide) hf

theorem pauseExits_sameBut (b : Blocks) : SameBut [.rsq, .slu, .barriers] b (pauseExits b) :=
  sameBut_join (sameBut_trans (barrierStop_sameBut .northExit b) (barrierStop_sameBut .southExit _))
    (sameBut_join (rsq_sameBut _ _) (enterClearance_sameBut _) (hs := [.rsq, .slu, .barriers]) (by decide) (by decide))
    (by decide) (by decide)

theorem followLoops_sameBut (b : Blocks) : SameBut [.rsq] b (followLoops b) := by
  unfold followLoops
  split
  · exact setClearance_sameBut _ b
  · exact sameBut_trans (setClearance_sameBut _ b) (setStep_sameBut _ _)
  · exact setClearance_sameBut _ b
  · exact sameBut_refl _ b

theorem amberExpiry_sameBut (b : Blocks) : SameBut [.rsq, .slu, .barriers] b (amberExpiry b) := by
  unfold amberExpiry
  split
  · exact sameBut_ite (sameBut_mono (sameBut_trans (setRoadTimer_sameBut _ b) (setStep_sameBut _ _)) (by decide))
      (enterRedWarn_sameBut b)
  · exact sameBut_refl _ b

theorem redWarnExpiry_sameBut (b : Blocks) : SameBut [.rsq, .slu, .barriers] b (redWarnExpiry b) := by
  unfold redWarnExpiry
  split
  · exact sameBut_join (setRoadTimer_sameBut _ b) (testComplement_sameBut _) (by decide) (by decide)
  · exact sameBut_refl _ b

theorem clearanceExpiry_sameBut (b : Blocks) : SameBut [.rsq, .slu, .barriers] b (clearanceExpiry b) := by
  unfold clearanceExpiry
  split
  · exact sameBut_ite (sameBut_mono (sameBut_trans (setClearance_sameBut _ b) (setStep_sameBut _ _)) (by decide))
      (enterPhase_sameBut _ b)
  · exact sameBut_refl _ b

/-- Entry to ROAD_OPEN removes the overrides and leaves the rest of the SIL record. -/
theorem enterRoadOpen_sil (b : Blocks) : (enterRoadOpen b).sil = { b.sil with overrides := [] } := by
  have opened : (enterPhase .roadOpen { b with sil := { b.sil with overrides := [] } }).sil =
      { b.sil with overrides := [] } := enterPhase_sameBut _ _ .sil (by decide)
  unfold enterRoadOpen
  dsimp only
  split <;> exact opened

/-- An advance of the road changes the sequencer, the aspects, the barriers and, at ROAD_OPEN, the overrides. -/
theorem roadAdvance_sameBut (b : Blocks) : SameBut [.sil, .rsq, .slu, .barriers, .notes] b (roadAdvance b) := by
  have wide : ∀ {x : Blocks}, SameBut [.rsq, .slu, .barriers] b x → SameBut [.sil, .rsq, .slu, .barriers, .notes] b x :=
    fun h => sameBut_mono h (by decide)
  unfold roadAdvance
  split
  · exact sameBut_ite (sameBut_join (enterAlert_sameBut _ b) (note_sameBut .road _) (by decide) (by decide))
      (sameBut_refl _ b)
  · exact sameBut_ite (wide (enterRedWarn_sameBut b)) (sameBut_refl _ b)
  · exact sameBut_ite (wide (testComplement_sameBut b)) (sameBut_refl _ b)
  · exact sameBut_ite (wide (enterClearance_sameBut b)) (sameBut_refl _ b)
  · exact sameBut_mono (followLoops_sameBut b) (by decide)
  · exact sameBut_ite (wide (pauseExits_sameBut b)) (sameBut_ite (wide (enterPhase_sameBut _ b)) (sameBut_refl _ b))
  · exact sameBut_refl _ b
  · exact sameBut_ite (sameBut_ite (sameBut_mono (setStep_sameBut _ b) (by decide)) (wide (enterPhase_sameBut _ b)))
      (sameBut_refl _ b)
  · exact sameBut_ite (sameBut_mono (enterRoadOpen_sameBut b) (by decide)) (sameBut_refl _ b)
  · exact sameBut_ite (sameBut_refl _ b) (sameBut_mono (rsq_sameBut _ b) (by decide))

/-- The one thing an advance of the road can do to the SIL record is to remove the overrides. -/
theorem roadAdvance_sil (b : Blocks) :
    (roadAdvance b).sil = b.sil ∨ (roadAdvance b).sil = { b.sil with overrides := [] } := by
  have kept : ∀ {x : Blocks}, SameBut [.rsq, .slu, .barriers] b x → x.sil = b.sil := fun h => h .sil (by decide)
  unfold roadAdvance
  split
  case h_9 =>
    split
    · exact .inr (enterRoadOpen_sil b)
    · exact .inl rfl
  all_goals left
  · split <;> rfl
  · split
    · exact kept (enterRedWarn_sameBut b)
    · rfl
  · split
    · exact kept (testComplement_sameBut b)
    · rfl
  · split
    · exact kept (enterClearance_sameBut b)
    · rfl
  · exact followLoops_sameBut b .sil (by decide)
  · split
    · exact kept (pauseExits_sameBut b)
    · split
      · exact kept (enterPhase_sameBut _ b)
      · rfl
  · rfl
  · split
    · split
      · rfl
      · exact kept (enterPhase_sameBut _ b)
    · rfl
  · split <;> rfl

/-! ## What follows by itself -/

theorem followLeaves_sameBut (b : Blocks) : SameBut [.leaves, .brakes] b (followLeaves b) :=
  sameBut_trans (sameBut_mono (sameBut_trans (judgeRaiseArrival_sameBut .north b)
      (sameBut_trans (judgeRaiseArrival_sameBut .south _)
        (sameBut_trans (leafRest_sameBut .north _) (leafRest_sameBut .south _)))) (by decide))
    (sameBut_trans (profileStart_sameBut _) (superviseSkew_sameBut _))

theorem followConditions_sameBut (b : Blocks) :
    SameBut [.sil, .leaves, .brakes, .locks, .par, .pend] b (followConditions b) :=
  sameBut_join (dropOverrides_sameBut b)
    (sameBut_join (maintainConditions_sameBut _)
      (sameBut_join (interruptUnseated_sameBut _)
        (sameBut_join (sameBut_trans (applyCeiling_sameBut .north _) (applyCeiling_sameBut .south _))
          (takeNextMovement_sameBut _) (hs := [.sil, .leaves, .brakes, .par, .pend]) (by decide) (by decide))
        (hs := [.sil, .leaves, .brakes, .locks, .par, .pend]) (by decide) (by decide))
      (hs := [.sil, .leaves, .brakes, .locks, .par, .pend]) (by decide) (by decide)) (by decide) (by decide)

theorem completePhase_sameBut (b : Blocks) : SameBut [.sil, .notes] b (completePhase b) := by
  have moved : SameBut [.sil, .notes] b (note .span (setPhase (nextPhase b.sil.phase) b)) :=
    sameBut_join (setPhase_sameBut _ b) (note_sameBut .span _) (by decide) (by decide)
  unfold completePhase
  exact sameBut_ite (sameBut_ite (sameBut_trans moved (sameBut_mono (setOrder_sameBut none _) (by decide))) moved)
    (sameBut_refl _ b)

theorem followSpan_sameBut (s0 b : Blocks) : SameBut [.sil, .notes] b (followSpan s0 b) :=
  sameBut_join (completePhase_sameBut b)
    (sameBut_trans (completeRecovery_sameBut _) (sameBut_trans (rederiveAt_sameBut s0 _) (endShort_sameBut _)))
    (by decide) (by decide)

/-- The records that a round over the blocks can change. -/
theorem settleRound_sameBut (s0 b : Blocks) :
    SameBut [.sil, .slu, .rsq, .barriers, .leaves, .brakes, .locks, .seq, .nav, .par, .pend, .notes] b
      (settleRound s0 b) :=
  sameBut_trans (sameBut_mono (followLeaves_sameBut b) (by decide))
    (sameBut_trans (sameBut_mono (noteLeaves_sameBut s0 _) (by decide))
      (sameBut_trans (sameBut_mono (followConditions_sameBut _) (by decide))
        (sameBut_trans (sameBut_mono (advanceSequence_sameBut _) (by decide))
          (sameBut_trans (sameBut_mono (roadAdvance_sameBut _) (by decide))
            (sameBut_trans (sameBut_mono (followSpan_sameBut s0 _) (by decide))
              (sameBut_join (followPassage_sameBut _) (followAspects_sameBut _) (by decide) (by decide)))))))

theorem sameBut_iter {fs : List BlockField} {f : Blocks → Blocks} (h : ∀ b, SameBut fs b (f b)) :
    ∀ (n : Nat) (b : Blocks), SameBut fs b (iter f n b)
  | 0, b => sameBut_refl fs b
  | n + 1, b => sameBut_trans (h b) (sameBut_iter h n (f b))

theorem settleOperate_sameBut (s0 b : Blocks) :
    SameBut [.sil, .slu, .rsq, .barriers, .leaves, .brakes, .locks, .seq, .nav, .par, .pend, .notes] b
      (settleOperate s0 b) := sameBut_iter (settleRound_sameBut s0) 4 b

/-! ## Adoption -/

theorem adoptBarrier_sameBut (i : BarrierId) (b : Blocks) : SameBut [.barriers] b (adoptBarrier i b) := by
  unfold adoptBarrier
  split <;> exact setBarrier_sameBut _ _ b

theorem adoptLock_sameBut (k : LockId) (b : Blocks) : SameBut [.locks] b (adoptLock k b) := by
  unfold adoptLock
  dsimp only
  split <;> exact setLock_sameBut _ _ b

theorem adoptMachinery_sameBut (b : Blocks) : SameBut [.barriers, .locks, .brakes, .leaves] b (adoptMachinery b) :=
  sameBut_join (sameBut_foldl (fun x i => adoptBarrier i x) (fun x i => adoptBarrier_sameBut i x) BarrierId.all b)
    (sameBut_join (sameBut_foldl (fun x k => adoptLock k x) (fun x k => adoptLock_sameBut k x) LockId.all _)
      (sameBut_join (sameBut_trans (brakeSetRequest_sameBut .north _) (brakeSetRequest_sameBut .south _))
        (sameBut_trans (setLeaf_sameBut .north _ _) (setLeaf_sameBut .south _ _))
        (hs := [.brakes, .leaves]) (by decide) (by decide))
      (hs := [.locks, .brakes, .leaves]) (by decide) (by decide)) (by decide) (by decide)

theorem adoptRoad_sameBut (p : RoadPhase) (b : Blocks) : SameBut [.rsq, .slu] b (adoptRoad p b) := by
  unfold adoptRoad
  exact sameBut_ite (enterAlert_sameBut _ b) (showPhase_sameBut _ _ b)

theorem overtravelAtEntry_sameBut (l : LeafId) (b : Blocks) : SameBut [.leaves, .brakes] b (overtravelAtEntry l b) :=
  sameBut_ite (leafFault_sameBut l .overtravel b) (sameBut_refl _ b)

theorem beginSupervision_sameBut (b : Blocks) (g : Lamp) : SameBut [.slu] b (beginSupervision b g) := by
  unfold beginSupervision
  dsimp only
  exact sameBut_ite (setLamp_sameBut _ _ b) (sameBut_ite (setLamp_sameBut _ _ b) (setLamp_sameBut _ _ b))

theorem beginLamps_sameBut (b : Blocks) : SameBut [.slu, .par, .pend] b (beginLamps b) :=
  sameBut_trans (followDemand_sameBut b)
    (sameBut_mono (sameBut_foldl beginSupervision beginSupervision_sameBut lampGroups _) (by decide))

theorem adoptionNotes_sameBut (b : Blocks) : SameBut [.notes] b (adoptionNotes b) := by
  have posted : SameBut [.notes] b (note (.leaf .south) (note (.leaf .north) (note .road b))) :=
    sameBut_trans (note_sameBut _ b) (sameBut_trans (note_sameBut _ _) (note_sameBut _ _))
  unfold adoptionNotes
  exact sameBut_ite (sameBut_trans posted (note_sameBut _ _)) posted

/-- The blocks at the decision of adoption, before the road, the overtravel, the aspects and the lamps follow (R195). -/
def adoptionSet (o : AdoptOutcome) (b : Blocks) : Blocks :=
  { adoptMachinery b with
    nav := (adoptMachinery b).nav.cleared
    sil := adoptedSil (adoptMachinery b) o (adoptedPhases (adoptMachinery b)).1
    presence := some (adoptMachinery b).par.presenceMs }

/-- The blocks once the road has its adopted phase and the overtravel inputs are judged. -/
def adoptionEntered (o : AdoptOutcome) (b : Blocks) : Blocks :=
  overtravelAtEntry .south
    (overtravelAtEntry .north (adoptRoad (adoptedPhases (adoptMachinery b)).2 (adoptionSet o b)))

theorem adopt_eq (o : AdoptOutcome) (b : Blocks) :
    adopt o b = adoptionNotes (beginLamps (selectAspects (adoptionEntered o b))) := rfl

theorem adoptionSet_sameBut (o : AdoptOutcome) (b : Blocks) :
    SameBut [.sil, .barriers, .locks, .brakes, .leaves, .nav, .presence] b (adoptionSet o b) := by
  have written : ∀ (x : Blocks) (n : Nav) (r : Sil) (p : Option Nat),
      SameBut [.sil, .nav, .presence] x { x with nav := n, sil := r, presence := p } := by
    intro x n r p f hf
    cases f <;> first | rfl | exact absurd (by decide) hf
  exact sameBut_join (adoptMachinery_sameBut b) (written _ _ _ _) (by decide) (by decide)

theorem adoptionEntered_sameBut (o : AdoptOutcome) (b : Blocks) :
    SameBut [.rsq, .slu, .leaves, .brakes] (adoptionSet o b) (adoptionEntered o b) :=
  sameBut_join (adoptRoad_sameBut _ _)
    (sameBut_trans (overtravelAtEntry_sameBut .north _) (overtravelAtEntry_sameBut .south _)) (by decide) (by decide)

/-- After the decision adoption changes the aspects, the lamps with the cadence, and the postings. -/
theorem adopt_sameBut_entered (o : AdoptOutcome) (b : Blocks) :
    SameBut [.nav, .slu, .par, .pend, .notes] (adoptionEntered o b) (adopt o b) :=
  sameBut_join (selectAspects_sameBut _)
    (sameBut_join (beginLamps_sameBut _) (adoptionNotes_sameBut _) (hs := [.slu, .par, .pend, .notes]) (by decide)
      (by decide)) (by decide) (by decide)

theorem adopt_sameBut (o : AdoptOutcome) (b : Blocks) :
    SameBut [.sil, .slu, .rsq, .barriers, .leaves, .brakes, .locks, .nav, .par, .pend, .presence, .notes] b
      (adopt o b) :=
  sameBut_join (adoptionSet_sameBut o b)
    (sameBut_join (adoptionEntered_sameBut o b) (adopt_sameBut_entered o b)
      (hs := [.rsq, .slu, .leaves, .brakes, .nav, .par, .pend, .notes]) (by decide) (by decide)) (by decide) (by decide)

/-- Adoption decides the SIL record. -/
theorem adopt_sil (o : AdoptOutcome) (b : Blocks) :
    (adopt o b).sil = adoptedSil (adoptMachinery b) o (adoptedPhases (adoptMachinery b)).1 := by
  have h := adopt_sameBut_entered o b .sil (by decide)
  have k := adoptionEntered_sameBut o b .sil (by decide)
  exact h.trans k

/-- Everything that can follow by itself, in every mode. -/
theorem settle_sameBut (s0 b : Blocks) : SameBut [.sil, .slu, .rsq, .barriers, .leaves, .brakes, .locks, .seq, .nav,
    .par, .pend, .presence, .notes] b (settle s0 b) := by
  unfold settle
  split
  · exact sameBut_refl _ b
  · exact sameBut_ite (sameBut_join (adopt_sameBut _ b) (settleOperate_sameBut s0 _) (by decide) (by decide))
      (sameBut_refl _ b)
  · exact sameBut_mono (settleOperate_sameBut s0 b) (by decide)

/-! ## Timers and leaves -/

theorem presenceRestart_sameBut (b : Blocks) :
    SameBut [.sil, .par, .pend, .presence, .notes] b (presenceRestart b) := by
  unfold presenceRestart
  dsimp only
  refine sameBut_ite (sameBut_ite ?_ ?_) (sameBut_refl _ b)
  all_goals
    intro f hf
    cases f <;> first | rfl | exact absurd (by decide) hf

theorem startFrame_sameBut (l : Link) (b : Blocks) : SameBut [.links] b (startFrame l b) := setLink_sameBut _ _ b

theorem phaseBoundary_sameBut (b : Blocks) : SameBut [.slu, .par, .pend] b (phaseBoundary b) := by
  unfold phaseBoundary
  dsimp only
  refine sameBut_ite (sameBut_trans (sameBut_mono (applyCadence_sameBut b) (by decide)) ?_) (sameBut_refl _ b)
  intro f hf
  cases f <;> first | rfl | exact absurd (by decide) hf

theorem onFitted_sameBut (g : Lamp) (u : LampRec → LampRec) (b : Blocks) : SameBut [.slu] b (onFitted g u b) :=
  sameBut_ite (setLamp_sameBut _ _ b) (sameBut_refl _ b)

theorem barrierTimeout_sameBut (i : BarrierId) (b : Blocks) : SameBut [.barriers] b (barrierTimeout i b) := by
  unfold barrierTimeout
  dsimp only
  split
  · split <;> exact setBarrier_sameBut _ _ b
  · exact sameBut_refl _ b

theorem lockTimeout_sameBut (k : LockId) (b : Blocks) : SameBut [.locks] b (lockTimeout k b) := by
  unfold lockTimeout
  split
  · exact sameBut_ite (setLock_sameBut _ _ b) (setLock_sameBut _ _ b)
  · exact sameBut_ite (setLock_sameBut _ _ b) (setLock_sameBut _ _ b)
  all_goals exact sameBut_refl _ b

theorem leafIllegal_sameBut (l : LeafId) (b : Blocks) : SameBut [.leaves, .notes] b (leafIllegal l b) := by
  have counted : ∀ p : PositionRec, SameBut [.leaves, .notes] b (note (.leaf l) (setPos l p b)) := fun p =>
    sameBut_join (setPos_sameBut l p b) (note_sameBut _ _) (by decide) (by decide)
  unfold leafIllegal
  exact sameBut_ite (counted _) (sameBut_trans (counted _) (sameBut_mono (loseCertainty_sameBut l _) (by decide)))

theorem askBrakeSet_sameBut (l : LeafId) (b : Blocks) : SameBut [.leaves, .brakes] b (askBrakeSet l b) :=
  sameBut_ite (sameBut_join (setMot_sameBut l _ b) (brakeSetRequest_sameBut l _) (by decide) (by decide))
    (sameBut_refl _ b)

theorem windowEnd_sameBut (l : LeafId) (b : Blocks) : SameBut [.leaves, .brakes] b (windowEnd l b) :=
  have closed : ∀ w : SpeedRec, SameBut [.leaves, .brakes] b (setWin l w b) :=
    fun w => sameBut_mono (setWin_sameBut l w b) (by decide)
  sameBut_ite (sameBut_ite (sameBut_trans (closed _) (leafFault_sameBut l .overspeed _))
    (sameBut_trans (closed _) (askBrakeSet_sameBut l _))) (sameBut_refl _ b)

theorem stallExpiry_sameBut (l : LeafId) (b : Blocks) : SameBut [.leaves, .brakes] b (stallExpiry l b) :=
  sameBut_ite (sameBut_trans (sameBut_mono (setFlt_sameBut l _ b) (by decide)) (leafFault_sameBut l .stall _))
    (sameBut_refl _ b)

theorem brakeNotReleased_sameBut (l : LeafId) (b : Blocks) : SameBut [.leaves, .brakes] b (brakeNotReleased l b) :=
  sameBut_ite (sameBut_trans (sameBut_mono (setBrake_sameBut l _ b) (by decide)) (leafFault_sameBut l _ _))
    (sameBut_refl _ b)

theorem brakeNotSet_sameBut (l : LeafId) (b : Blocks) : SameBut [.leaves, .brakes] b (brakeNotSet l b) :=
  sameBut_ite (sameBut_trans (sameBut_mono (setBrake_sameBut l _ b) (by decide)) (leafFault_sameBut l _ _))
    (sameBut_refl _ b)

/-! ## Published inputs (R61) -/

theorem seatArrive_sameBut (l : LeafId) (b : Blocks) : SameBut [.leaves, .brakes] b (seatArrive l b) :=
  sameBut_join (setMot_sameBut l _ b) (brakeSetRequest_sameBut l _) (by decide) (by decide)

theorem seatReference_sameBut (l : LeafId) (b : Blocks) :
    SameBut [.leaves, .brakes, .notes] b (seatReference l b) := by
  have referenced : ∀ p : PositionRec, SameBut [.leaves, .brakes, .notes] b (setPos l p b) :=
    fun p => sameBut_mono (setPos_sameBut l p b) (by decide)
  have posted : ∀ p : PositionRec, SameBut [.leaves, .brakes, .notes] b
      (if (b.leaves.get l).pos.position = 0 then setPos l p b else note (.leaf l) (setPos l p b)) := fun p =>
    sameBut_ite (referenced p) (sameBut_trans (referenced p) (sameBut_mono (note_sameBut _ _) (by decide)))
  unfold seatReference
  dsimp only
  have arrives : ∀ x, SameBut [.leaves, .brakes, .notes] b x → SameBut [.leaves, .brakes, .notes] b (seatArrive l x) :=
    fun x h => sameBut_trans h (sameBut_mono (seatArrive_sameBut l x) (by decide))
  split
  · split
    · exact sameBut_trans (posted _) (sameBut_mono (setLeaf_sameBut l _ _) (by decide))
    iterate 3
      split
      · exact sameBut_trans (posted _) (sameBut_mono (setMot_sameBut l _ _) (by decide))
      · exact arrives _ (posted _)
      · exact arrives _ (posted _)
      · exact posted _
    all_goals exact posted _
  · exact posted _

theorem seatLost_sameBut (l : LeafId) (b : Blocks) : SameBut [.leaves] b (seatLost l b) :=
  sameBut_ite (setLeaf_sameBut l _ b) (sameBut_refl _ b)

theorem openLimitMade_sameBut (l : LeafId) (b : Blocks) : SameBut [.leaves, .notes] b (openLimitMade l b) :=
  sameBut_join (setPos_sameBut l _ b) (note_sameBut _ _) (by decide) (by decide)

theorem publishPosition_sameBut (s0 b : Blocks) (l : LeafId) :
    SameBut [.leaves, .brakes, .notes] b (publishPosition s0 b l) := by
  have seats : SameBut [.leaves, .brakes, .notes] b (if inputRises s0 b (.seated l) then seatReference l b else b) :=
    sameBut_ite (seatReference_sameBut l b) (sameBut_refl _ b)
  have leaves : ∀ x, SameBut [.leaves, .brakes, .notes] b x →
      SameBut [.leaves, .brakes, .notes] b (if inputFalls s0 b (.seated l) then seatLost l x else x) := fun x h =>
    sameBut_ite (sameBut_trans h (sameBut_mono (seatLost_sameBut l x) (by decide))) h
  unfold publishPosition
  exact sameBut_ite (sameBut_trans (leaves _ seats) (sameBut_mono (openLimitMade_sameBut l _) (by decide)))
    (leaves _ seats)

theorem brakeShowsReleased_sameBut (l : LeafId) (b : Blocks) : SameBut [.brakes] b (brakeShowsReleased l b) := by
  unfold brakeShowsReleased
  dsimp only
  split
  · exact setBrake_sameBut _ _ b
  · exact setBrake_sameBut _ _ b
  all_goals exact sameBut_refl _ b

theorem brakeShowsSet_sameBut (l : LeafId) (b : Blocks) : SameBut [.leaves, .brakes] b (brakeShowsSet l b) := by
  have brake : ∀ q : BrakeRec, SameBut [.leaves, .brakes] b (setBrake l q b) :=
    fun q => sameBut_mono (setBrake_sameBut l q b) (by decide)
  unfold brakeShowsSet
  dsimp only
  split
  · exact brake _
  · exact brake _
  · exact sameBut_ite (brake _) (sameBut_refl _ b)
  · exact sameBut_ite (sameBut_trans (brake _) (leafFault_sameBut l _ _)) (brake _)
  · exact sameBut_refl _ b

theorem publishDrive_sameBut (s0 b : Blocks) (l : LeafId) : SameBut [.leaves, .brakes] b (publishDrive s0 b l) := by
  have b1 : SameBut [.leaves, .brakes] b (if inputRises s0 b (.brakeReleased l) then brakeShowsReleased l b else b) :=
    sameBut_ite (sameBut_mono (brakeShowsReleased_sameBut l b) (by decide)) (sameBut_refl _ b)
  have b2 : ∀ x, SameBut [.leaves, .brakes] b x →
      SameBut [.leaves, .brakes] b (if inputFalls s0 b (.brakeReleased l) then brakeShowsSet l x else x) :=
    fun x h => sameBut_ite (sameBut_trans h (brakeShowsSet_sameBut l x)) h
  have b3 : ∀ (p : Prop) [Decidable p] (k : LeafFault) (x : Blocks), SameBut [.leaves, .brakes] b x →
      SameBut [.leaves, .brakes] b (if p then leafFault l k x else x) :=
    fun p _ k x h => sameBut_ite (sameBut_trans h (leafFault_sameBut l k x)) h
  exact b3 _ .overtravel _ (b3 _ .driveNotReady _ (b2 _ b1))

theorem publishLeaves_sameBut (s0 b : Blocks) : SameBut [.leaves, .brakes, .notes] b (publishLeaves s0 b) :=
  sameBut_trans (sameBut_foldl (publishPosition s0) (publishPosition_sameBut s0) LeafId.all b)
    (sameBut_mono (sameBut_trans (sameBut_foldl (publishDrive s0) (publishDrive_sameBut s0) LeafId.all _)
      (skewFinding_sameBut _ _ _)) (by decide))

theorem judgeBarrier_sameBut (i : BarrierId) (b : Blocks) : SameBut [.barriers] b (judgeBarrier i b) := by
  unfold judgeBarrier rejudgeBarrier
  dsimp only
  repeat' split
  all_goals first | exact setBarrier_sameBut _ _ b | exact sameBut_refl _ b

theorem publishLock_sameBut (s0 b : Blocks) (k : LockId) : SameBut [.locks] b (publishLock s0 b k) :=
  sameBut_ite (judgeLock_sameBut k b) (sameBut_refl _ b)

theorem publishBarrier_sameBut (s0 b : Blocks) (i : BarrierId) : SameBut [.barriers] b (publishBarrier s0 b i) :=
  sameBut_ite (judgeBarrier_sameBut i b) (sameBut_refl _ b)

theorem publishLamp_sameBut (s0 b : Blocks) (g : Lamp) : SameBut [.slu] b (publishLamp s0 b g) :=
  sameBut_ite (onFitted_sameBut g _ b) (sameBut_refl _ b)

/-! ## Field links and inputs -/

theorem setLastGood_sameBut (l : Link) (b : Blocks) : SameBut [.iq] b (setLastGood l b) := by
  intro f hf
  cases f <;> first | rfl | exact absurd (by decide) hf

theorem leaveAlignment_sameBut (l : Link) (c : HuntCause) (r : LinkRec) (b : Blocks) :
    SameBut [.links, .iq, .notes] b (leaveAlignment l c r b) :=
  sameBut_join (setLink_sameBut l _ b)
    (sameBut_join (note_sameBut _ _) (mapInputs_sameBut _ _) (hs := [.iq, .notes]) (by decide) (by decide))
    (by decide) (by decide)

theorem takeGoodFrame_sameBut (l : Link) (f : BitVec 80) (b : Blocks) : SameBut [.iq] b (takeGoodFrame l f b) :=
  sameBut_trans (mapInputs_sameBut _ b) (setLastGood_sameBut l _)

theorem starveTest_sameBut (l : Link) (b : Blocks) : SameBut [.iq] b (starveTest l b) := by
  unfold starveTest
  split
  · exact sameBut_refl _ b
  · exact sameBut_ite (mapInputs_sameBut _ b) (sameBut_refl _ b)

theorem handOn_sameBut (l : Link) (e : BitVec 4) (j : FrameJudgement) (f : BitVec 80) (b : Blocks) :
    SameBut [.links, .iq] b (handOn l e j f b) := by
  have judged : ∀ r : LinkRec, SameBut [.links, .iq] b (if e = lastNumber then setLink l r b else b) := fun r =>
    sameBut_ite (sameBut_mono (setLink_sameBut l r b) (by decide)) (sameBut_refl _ b)
  unfold handOn
  exact sameBut_ite (sameBut_trans (judged _) (sameBut_mono (takeGoodFrame_sameBut l f _) (by decide)))
    (sameBut_trans (judged _) (sameBut_mono (starveTest_sameBut l _) (by decide)))

theorem alignedBoundary_sameBut (l : Link) (f : BitVec 80) (b : Blocks) :
    SameBut [.links, .iq, .notes] b (alignedBoundary l f b) := by
  have hands : ∀ (e : BitVec 4) (j : FrameJudgement) (r : LinkRec),
      SameBut [.links, .iq, .notes] b (handOn l e j f (setLink l r b)) := fun e j r =>
    sameBut_join (setLink_sameBut l r b) (handOn_sameBut l e j f _) (by decide) (by decide)
  unfold alignedBoundary
  dsimp only
  exact sameBut_ite (leaveAlignment_sameBut _ _ _ b)
    (sameBut_ite (sameBut_ite (leaveAlignment_sameBut _ _ _ b) (hands _ _ _)) (hands _ _ _))

theorem boundaryFrame_sameBut (l : Link) (f : BitVec 80) (b : Blocks) :
    SameBut [.links, .iq, .notes] b (boundaryFrame l f b) :=
  sameBut_ite (alignedBoundary_sameBut l f b) (sameBut_refl _ b)

theorem huntCandidate_sameBut (l : Link) (f : BitVec 80) (b : Blocks) : SameBut [.links] b (huntCandidate l f b) :=
  sameBut_ite (setLink_sameBut l _ b) (sameBut_refl _ b)

theorem confirmCandidate_sameBut (l : Link) (f : BitVec 80) (b : Blocks) :
    SameBut [.links, .iq] b (confirmCandidate l f b) := by
  have link : ∀ r : LinkRec, SameBut [.links, .iq] b (setLink l r b) :=
    fun r => sameBut_mono (setLink_sameBut l r b) (by decide)
  unfold confirmCandidate
  dsimp only
  exact sameBut_ite (sameBut_ite (sameBut_ite
    (sameBut_trans (link _) (sameBut_mono (setLastGood_sameBut l _) (by decide))) (link _)) (link _)) (sameBut_refl _ b)

end Sys2Proof.Proofs

/-! What every operation keeps of the HELD flag with its cause and of the channel aspects (R21, R171). -/

namespace Sys2Proof.Proofs

open Sys2Proof.Machine Sys2Proof.Safety

/-- The HELD flag agrees with its cause, and PROCEED shows in at most one direction (R21, R171). -/
def Steady (b : Blocks) : Prop := HoldOk b.sil ∧ ProceedOk b.nav

section
variable {a b : Blocks}

theorem steady_of_fields (hh : b.sil.held = a.sil.held) (hc : b.sil.cause = a.sil.cause)
    (ha : b.nav.aspects = a.nav.aspects) (h : Steady a) : Steady b := by
  unfold Steady HoldOk ProceedOk
  rw [hh, hc, ha]
  exact h

/-- An operation that leaves the SIL record and the navigation record alone. -/
theorem steady_of_sameBut {fs : List BlockField} (k : SameBut fs a b) (h : Steady a)
    (hs : BlockField.sil ∉ fs := by decide) (hn : BlockField.nav ∉ fs := by decide) : Steady b := by
  have es : b.sil = a.sil := k .sil hs
  have en : b.nav = a.nav := k .nav hn
  exact steady_of_fields (by rw [es]) (by rw [es]) (by rw [en]) h

theorem steady_ite {p : Prop} [Decidable p] (ha : Steady a) (hb : Steady b) : Steady (if p then a else b) := by
  split
  · exact ha
  · exact hb

/-- A setting of the HELD flag gives it a cause. -/
theorem steady_setHeld {c : HoldCause} (hc : c ≠ .none) (h : Steady b) : Steady (setHeld c b) :=
  ⟨⟨fun _ => hc, fun _ => rfl⟩, h.2⟩

theorem steady_setPhase (p : SpanPhase) (h : Steady b) : Steady (setPhase p b) := h

theorem steady_setOrder (m : Option Movement) (h : Steady b) : Steady (setOrder m b) := h

theorem steady_note (n : Note) (h : Steady b) : Steady (note n b) := h

end

/-! ## Aspects (R175) -/

theorem channelAspect_proceed {b : Blocks} {d : Dir} (h : channelAspect b d = .proceed) :
    b.nav.proceedShown = some d := by
  unfold channelAspect at h
  split_ifs at h with h1 h2
  · exact h2

/-- A selection leaves the aspect it selects, and the vessel to which PROCEED is shown. -/
theorem selectAspect_aspects (b : Blocks) (d : Dir) :
    (selectAspect b d).nav = { b.nav with aspects := b.nav.aspects.set d (channelAspect b d) } := by
  unfold selectAspect
  dsimp only
  split
  next h =>
    rw [← h]
    cases d <;> rfl
  next => rfl

/-- The aspects that a selection reads nothing of are those it leaves in the other direction. -/
theorem channelAspect_selectAspect (b : Blocks) (d e : Dir) :
    channelAspect (selectAspect b d) e = channelAspect b e := by
  have hl : (selectAspect b d).leaves = b.leaves := selectAspect_sameBut b d .leaves (by decide)
  have hw : (selectAspect b d).wmn = b.wmn := selectAspect_sameBut b d .wmn (by decide)
  have hs : (selectAspect b d).sil = b.sil := selectAspect_sameBut b d .sil (by decide)
  simp only [channelAspect, standingCondition, leafState, hl, hw, hs, selectAspect_aspects]
  rfl

/-- Both aspects after their selection. -/
theorem selectAspects_nav (b : Blocks) : (selectAspects b).nav =
    { b.nav with aspects := ⟨channelAspect b .inbound, channelAspect b .outbound⟩ } := by
  rw [selectAspects, selectAspect_aspects, channelAspect_selectAspect, selectAspect_aspects]
  rfl

/-- PROCEED is shown to one vessel, so it shows in one direction. -/
theorem proceedOk_selectAspects (b : Blocks) : ProceedOk (selectAspects b).nav := by
  rw [selectAspects_nav]
  rintro ⟨hi, ho⟩
  have both := (channelAspect_proceed hi).symm.trans (channelAspect_proceed ho)
  cases both

theorem steady_selectAspects {b : Blocks} (h : HoldOk b.sil) : Steady (selectAspects b) := by
  refine ⟨?_, proceedOk_selectAspects b⟩
  rw [show (selectAspects b).sil = b.sil from selectAspects_sameBut b .sil (by decide)]
  exact h

/-! ## What follows by itself -/

section
variable {b : Blocks}

theorem steady_stopAndHold {c : HoldCause} (hc : c ≠ .none) (h : Steady b) : Steady (stopAndHold c b) :=
  steady_setHeld hc (steady_of_sameBut (stopLeaves_sameBut b) h)

theorem steady_maintainConditions (h : Steady b) : Steady (maintainConditions b) := by
  unfold maintainConditions
  split
  · split
    · exact steady_stopAndHold nofun h
    · exact steady_ite (steady_stopAndHold nofun h) h
  · exact h

theorem steady_interruptUnseated (h : Steady b) : Steady (interruptUnseated b) :=
  steady_ite (steady_setHeld nofun (steady_of_sameBut (interruptLocks_sameBut b) h)) h

theorem steady_takeNextMovement (h : Steady b) : Steady (takeNextMovement b) := by
  have taken : Steady (setNext none b) := steady_of_sameBut (setNext_sameBut none b) h
  unfold takeNextMovement
  split
  · exact h
  · refine steady_ite h (steady_ite taken (steady_ite taken ?_))
    split
    · exact steady_setHeld nofun taken
    · exact steady_of_sameBut (startMovement_sameBut _ _) taken

theorem steady_followConditions (h : Steady b) : Steady (followConditions b) :=
  steady_takeNextMovement (steady_of_sameBut (applyCeiling_sameBut .south _)
    (steady_of_sameBut (applyCeiling_sameBut .north _)
      (steady_interruptUnseated (steady_maintainConditions (b := dropOverrides b) h))))

theorem steady_enterRoadOpen (h : Steady b) : Steady (enterRoadOpen b) := by
  have nav : (enterRoadOpen b).nav = b.nav := enterRoadOpen_sameBut b .nav (by decide)
  exact steady_of_fields (by rw [enterRoadOpen_sil]) (by rw [enterRoadOpen_sil]) (by rw [nav]) h

theorem steady_roadAdvance (h : Steady b) : Steady (roadAdvance b) := by
  have nav : (roadAdvance b).nav = b.nav := roadAdvance_sameBut b .nav (by decide)
  rcases roadAdvance_sil b with e | e <;>
    exact steady_of_fields (by rw [e]) (by rw [e]) (by rw [nav]) h

theorem steady_rederive (h : Steady b) : Steady (rederive b) := steady_ite (steady_setPhase _ h) h

theorem steady_followSpan (s0 : Blocks) (h : Steady b) : Steady (followSpan s0 b) := by
  have phase : Steady (completePhase b) := steady_ite (steady_ite (a := setOrder none _) h h) h
  have recovery : ∀ {x : Blocks}, Steady x → Steady (completeRecovery x) := fun hx =>
    steady_ite (steady_rederive (steady_setOrder none hx)) hx
  have derived : ∀ {x : Blocks}, Steady x → Steady (rederiveAt s0 x) := fun hx => steady_ite (steady_rederive hx) hx
  exact steady_ite (steady_setHeld nofun (derived (recovery phase))) (derived (recovery phase))

theorem steady_followPassage (h : HoldOk b.sil) : Steady (followPassage b) := by
  refine ⟨?_, proceedOk_selectAspects _⟩
  rw [show (followPassage b).sil = b.sil from followPassage_sameBut b .sil (by decide)]
  exact h

theorem steady_settleRound (s0 : Blocks) (h : Steady b) : Steady (settleRound s0 b) :=
  steady_of_sameBut (followAspects_sameBut _) (steady_followPassage
    (steady_followSpan s0 (steady_roadAdvance (steady_of_sameBut (advanceSequence_sameBut _)
      (steady_followConditions (steady_of_sameBut (noteLeaves_sameBut s0 _)
        (steady_of_sameBut (followLeaves_sameBut b) h)))))).1)

theorem steady_settleOperate (s0 : Blocks) (h : Steady b) : Steady (settleOperate s0 b) :=
  iter_keeps (P := Steady) (fun _ => steady_settleRound s0) 4 b h

/-- Adoption leaves the HELD flag clear and selects both aspects. -/
theorem steady_adopt (o : AdoptOutcome) (b : Blocks) : Steady (adopt o b) := by
  rw [adopt_eq]
  have hold : HoldOk (adoptionEntered o b).sil := by
    rw [show (adoptionEntered o b).sil = (adoptionSet o b).sil from adoptionEntered_sameBut o b .sil (by decide)]
    exact ⟨nofun, fun h => absurd rfl h⟩
  exact steady_of_sameBut (adoptionNotes_sameBut _) (steady_of_sameBut (beginLamps_sameBut _) (steady_selectAspects hold))

theorem steady_settle (s0 : Blocks) (h : Steady b) : Steady (settle s0 b) := by
  unfold settle
  split
  · exact h
  · exact steady_ite (steady_settleOperate s0 (steady_adopt _ b)) h
  · exact steady_settleOperate s0 h

/-! ## Events of the blocks -/

theorem steady_presenceRestart (h : Steady b) : Steady (presenceRestart b) := by
  unfold presenceRestart
  exact steady_ite (steady_ite (a := note .console _) h h) h

theorem steady_presenceExpiry (h : Steady b) : Steady (presenceExpiry b) := by
  unfold presenceExpiry
  exact steady_ite (steady_note _ (steady_stopAndHold (b := { b with
    sil := { b.sil with consoleLost := true }, presence := none, presRanOut := b.par.presenceMs }) nofun h)) h

theorem steady_gapExpiry (h : Steady b) : Steady (gapExpiry b) := by
  unfold gapExpiry
  split <;> exact h

theorem steady_adoptExpiry (h : Steady b) : Steady (adoptExpiry b) := steady_ite (steady_adopt _ b) h

theorem steady_passMillisecond (h : Steady b) : Steady (passMillisecond b) := h

theorem barrierEstop_sameBut (i : BarrierId) (b : Blocks) : SameBut [.barriers] b (barrierEstop i b) :=
  sameBut_ite (barrierStop_sameBut i b) (sameBut_refl _ b)

theorem estopLeaf_sameBut (l : LeafId) (b : Blocks) : SameBut [.leaves] b (estopLeaf l b) :=
  sameBut_ite (sameBut_ite (setLeaf_sameBut l _ b) (setLeaf_sameBut l _ b)) (sameBut_refl _ b)

theorem steady_estopEvent (h : Steady b) : Steady (estopEvent b) := by
  have latched : Steady (setHeld .estop { b with sil := { b.sil with latch := true } }) :=
    steady_setHeld (b := { b with sil := { b.sil with latch := true } }) nofun h
  have rest := steady_of_sameBut (sameBut_trans (estopLeaf_sameBut .north _) (estopLeaf_sameBut .south _)) latched
  have braked := steady_of_sameBut (sameBut_trans (brakeSetRequest_sameBut .north _) (brakeSetRequest_sameBut .south _))
    rest
  exact steady_note _ (steady_of_sameBut
    (sameBut_foldl (fun x i => barrierEstop i x) (fun x i => barrierEstop_sameBut i x) _ _)
    (steady_of_sameBut (interruptLocks_sameBut _) braked))

theorem steady_publish (s0 : Blocks) (h : Steady b) : Steady (publish s0 b) := by
  have leaves : Steady (publishLeaves s0 b) := steady_of_sameBut (publishLeaves_sameBut s0 b) h
  have locks : Steady (LockId.all.foldl (publishLock s0) (publishLeaves s0 b)) :=
    steady_of_sameBut (sameBut_foldl (publishLock s0) (publishLock_sameBut s0) _ _) leaves
  have stopped : Steady (publishEstop s0 (LockId.all.foldl (publishLock s0) (publishLeaves s0 b))) :=
    steady_ite (steady_estopEvent locks) locks
  exact steady_ite (steady_of_sameBut (sameBut_foldl (publishLamp s0) (publishLamp_sameBut s0) _ _)
    (steady_of_sameBut (sameBut_foldl (publishBarrier s0) (publishBarrier_sameBut s0) _ _) stopped)) leaves

end

end Sys2Proof.Proofs

/-! The frames of what the requests do, and what every taken request keeps of the HELD flag and the aspects. -/

namespace Sys2Proof.Proofs

open Sys2Proof.Machine Sys2Proof.Safety

/-! ## The road -/

theorem closeFromAlert_sameBut (b : Blocks) : SameBut [.rsq, .slu, .barriers] b (closeFromAlert b) := by
  have warns : ∀ x : Blocks → Blocks, (∀ y, SameBut [.rsq, .slu, .barriers] y (x y)) →
      SameBut [.rsq, .slu, .barriers] b (x (setRoadTimer .runOut (enterPhase .redWarn b))) := fun x hx =>
    sameBut_trans (enterPhase_sameBut _ b) (sameBut_trans (sameBut_mono (setRoadTimer_sameBut _ _) (by decide)) (hx _))
  unfold closeFromAlert
  split
  · exact enterPhase_sameBut _ b
  · exact warns _ fun y => sameBut_mono (setStep_sameBut _ y) (by decide)
  · exact warns _ fun y => sameBut_mono (setWait_sameBut _ y) (by decide)

theorem stopIfLowering_sameBut (b : Blocks) (i : BarrierId) : SameBut [.barriers] b (stopIfLowering b i) :=
  sameBut_ite (barrierStop_sameBut i b) (sameBut_refl _ b)

/-- The barriers at an abandonment: under HELD those that are LOWERING stop first (R95). -/
def abandonReady (b : Blocks) : Blocks := if b.sil.held then BarrierId.all.foldl stopIfLowering b else b

theorem abandonReady_sameBut (b : Blocks) : SameBut [.barriers] b (abandonReady b) :=
  sameBut_ite (sameBut_foldl stopIfLowering stopIfLowering_sameBut BarrierId.all b) (sameBut_refl _ b)

theorem abandonClosure_warning {b : Blocks} (h : b.rsq.phase = .amber ∨ b.rsq.phase = .redWarn) :
    abandonClosure b = enterRoadOpen (abandonReady b) := by
  rcases h with h | h <;> simp [abandonClosure, abandonReady, h]

theorem abandonClosure_lowering {b : Blocks} (h : ¬ (b.rsq.phase = .amber ∨ b.rsq.phase = .redWarn)) :
    abandonClosure b = if barriersAre (abandonReady b) false .up then enterPhase .entryRaising (abandonReady b)
      else enterPhase .exitRaising (abandonReady b) := by
  push Not at h
  unfold abandonClosure
  dsimp only
  split
  · exact absurd ‹_› h.1
  · exact absurd ‹_› h.2
  all_goals rfl

theorem abandonClosure_sameBut (b : Blocks) : SameBut [.sil, .rsq, .slu, .barriers] b (abandonClosure b) := by
  have ready : SameBut [.sil, .rsq, .slu, .barriers] b (abandonReady b) :=
    sameBut_mono (abandonReady_sameBut b) (by decide)
  by_cases h : b.rsq.phase = .amber ∨ b.rsq.phase = .redWarn
  · rw [abandonClosure_warning h]
    exact sameBut_trans ready (enterRoadOpen_sameBut _)
  · rw [abandonClosure_lowering h]
    exact sameBut_trans ready (sameBut_mono (sameBut_ite (enterPhase_sameBut _ _) (enterPhase_sameBut _ _)) (by decide))

theorem recommandBarrier_sameBut (b : Blocks) (i : BarrierId) : SameBut [.barriers] b (recommandBarrier b i) := by
  unfold recommandBarrier
  split
  · exact sameBut_refl _ b
  · exact sameBut_ite (sameBut_refl _ b) (sameBut_ite (barrierCommand_sameBut i _ b) (sameBut_refl _ b))

theorem takePendingStep_sameBut (b : Blocks) : SameBut [.rsq, .slu, .barriers] b (takePendingStep b) := by
  have cleared : SameBut [.rsq, .slu, .barriers] b (setStep .none b) := sameBut_mono (setStep_sameBut _ b) (by decide)
  unfold takePendingStep
  dsimp only
  split
  · exact sameBut_refl _ b
  · exact sameBut_trans cleared (enterRedWarn_sameBut _)
  · exact sameBut_trans cleared (testComplement_sameBut _)
  · exact sameBut_ite (sameBut_trans cleared (enterPhase_sameBut _ _)) cleared
  · exact sameBut_trans cleared (enterPhase_sameBut _ _)

theorem barrierClearStop_sameBut (i : BarrierId) (b : Blocks) : SameBut [.barriers] b (barrierClearStop i b) :=
  setBarrier_sameBut i _ b

theorem clearBarrier_sameBut (i : BarrierId) (b : Blocks) : SameBut [.barriers] b (clearBarrier i b) := by
  unfold clearBarrier
  exact sameBut_ite (barrierClearStop_sameBut i b)
    (sameBut_trans (setBarrier_sameBut i _ b) (barrierCommand_sameBut i _ _))

/-! ## Locks and leaves -/

theorem clearLock_sameBut (k : LockId) (b : Blocks) : SameBut [.locks] b (clearLock k b) := by
  unfold clearLock
  dsimp only
  split <;> exact setLock_sameBut k _ b

theorem clearLeaf_sameBut (l : LeafId) (b : Blocks) : SameBut [.leaves] b (clearLeaf l b) :=
  sameBut_ite (setLeaf_sameBut l _ b) (setLeaf_sameBut l _ b)

/-! ## Configuration -/

theorem afterWrite_sameBut (ident : Nat) (b : Blocks) : SameBut [.iq, .wmn] b (afterWrite ident b) := by
  unfold afterWrite
  split
  · exact sameBut_mono (mapInputs_sameBut _ b) (by decide)
  · exact sameBut_mono (onWind_sameBut _ b) (by decide)
  · exact sameBut_mono (onWind_sameBut _ b) (by decide)
  · exact sameBut_mono (onWind_sameBut _ b) (by decide)
  · exact sameBut_refl _ b

theorem writeParam_sameBut (ident subject v : Nat) (b : Blocks) :
    SameBut [.par, .pend, .iq, .wmn] b (writeParam ident subject v b) := by
  have written : ∀ (p : Params) (q : Pending), SameBut [.par, .pend] b { b with par := p, pend := q } := by
    intro p q f hf
    cases f <;> first | rfl | exact absurd (by decide) hf
  unfold writeParam
  exact sameBut_ite (sameBut_mono (written _ _) (by decide))
    (sameBut_join (written _ _) (afterWrite_sameBut ident _) (by decide) (by decide))

theorem setEntry_sameBut (i : Fin 24) (e : Option InputEntry) (b : Blocks) : SameBut [.cat, .iq] b (setEntry i e b) := by
  intro f hf
  cases f <;> first | rfl | exact absurd (by decide) hf

theorem assignEntry_sameBut (i : Fin 24) (e : Option InputEntry) (b : Blocks) :
    SameBut [.cat, .iq, .notes] b (assignEntry i e b) :=
  have set : SameBut [.cat, .iq, .notes] b (setEntry i e b) := sameBut_mono (setEntry_sameBut i e b) (by decide)
  sameBut_ite (sameBut_trans set (sameBut_mono (note_sameBut _ _) (by decide))) set

theorem cat_sameBut (c : Cat) (b : Blocks) : SameBut [.cat] b { b with cat := c } := by
  intro f hf
  cases f <;> first | rfl | exact absurd (by decide) hf

theorem setOutput_sameBut (l : Link) (p : Position) (g : Option OutputFn) (b : Blocks) :
    SameBut [.cat] b (setOutput l p g b) := cat_sameBut _ b

theorem clearTable_sameBut (b : Blocks) : SameBut [.cat, .iq, .notes] b (clearTable b) :=
  sameBut_trans (sameBut_foldl (fun x i => assignEntry i none x) (fun x i => assignEntry_sameBut i none x) _ b)
    (sameBut_mono (cat_sameBut _ _) (by decide))

/-! ## Resets (R5, R6) -/

/-- The blocks of RESTART and RECONFIGURE before the links and the inputs are reset. -/
def restartKept (b : Blocks) : Blocks :=
  { Blocks.reset with
    links := b.links
    cat := b.cat
    nav := b.nav.cleared
    par := adoptPending b.par b.pend
    leaves := ⟨b.leaves.north.restart, b.leaves.south.restart⟩
    presRanOut := b.presRanOut
    now := b.now }

theorem restartBlocks_eq (b : Blocks) :
    restartBlocks b = Link.all.foldl (noteLinkReset b) (resetInputs (resetLinks (restartKept b))) := rfl

theorem noteLinkReset_sameBut (before b : Blocks) (l : Link) : SameBut [.notes] b (noteLinkReset before b l) :=
  note_sameBut _ b

theorem restartBlocks_sameBut_kept (b : Blocks) : SameBut [.links, .iq, .notes] (restartKept b) (restartBlocks b) := by
  rw [restartBlocks_eq]
  have links : ∀ x, SameBut [.links, .iq, .notes] x (resetLinks x) := by
    intro x f hf
    cases f <;> first | rfl | exact absurd (by decide) hf
  have inputs : ∀ x, SameBut [.links, .iq, .notes] x (resetInputs x) := by
    intro x f hf
    cases f
    case iq => exact absurd (by decide) hf
    all_goals simp only [BlockField.same, resetInputs]
  exact sameBut_trans (links _) (sameBut_trans (inputs _)
    (sameBut_mono (sameBut_foldl (noteLinkReset b) (noteLinkReset_sameBut b) Link.all _) (by decide)))

/-! ## What the requests keep -/

section
variable {b : Blocks}

theorem steady_restartBlocks : Steady (restartBlocks b) :=
  steady_of_sameBut (restartBlocks_sameBut_kept b)
    ⟨⟨nofun, fun h => absurd rfl h⟩, fun h => ChannelAspect.noConfusion h.1⟩

theorem steady_inMode {m : Mode} {t : Taken} (h : Steady b) (ht : Steady t.blocks) : Steady (inMode m b t).blocks := by
  unfold inMode
  split
  · exact ht
  · exact h

theorem steady_operate {body : List Octet} {phase : Bool} {permit : List Cond} {effect : Blocks → Blocks}
    (h : Steady b) (he : Steady (effect b)) : Steady (operate body phase permit effect b).blocks := by
  unfold operate
  split
  · exact h
  · refine steady_inMode h ?_
    split
    · exact h
    · split
      · exact h
      · exact he

theorem steady_closeRoad (h : Steady b) : Steady (closeRoad b) := by
  have alert : ∀ {x : Blocks}, Steady x → Steady (closeFromAlert x) :=
    fun hx => steady_of_sameBut (closeFromAlert_sameBut _) hx
  unfold closeRoad
  exact steady_ite (alert h) (steady_ite (steady_of_sameBut (enterAmber_sameBut _) (steady_setPhase .closing h))
    (alert (steady_setPhase .closing h)))

theorem steady_abandonClosure (h : Steady b) : Steady (abandonClosure b) := by
  have ready : Steady (abandonReady b) := steady_of_sameBut (abandonReady_sameBut b) h
  by_cases hp : b.rsq.phase = .amber ∨ b.rsq.phase = .redWarn
  · rw [abandonClosure_warning hp]
    exact steady_enterRoadOpen ready
  · rw [abandonClosure_lowering hp]
    exact steady_ite (steady_of_sameBut (enterPhase_sameBut _ _) ready) (steady_of_sameBut (enterPhase_sameBut _ _) ready)

theorem steady_openRoad (h : Steady b) : Steady (openRoad b) := by
  have left : Steady (leaveAlert b) := steady_of_sameBut
    (showPhase_sameBut .roadOpen .none { b with sil := { b.sil with overrides := [] } }) h
  unfold openRoad
  exact steady_ite left (steady_ite (steady_abandonClosure (steady_setPhase .reopening h))
    (steady_of_sameBut (enterPhase_sameBut _ _) (steady_setPhase .reopening h)))

theorem steady_startSequence (q : LockSequence) (h : Steady b) : Steady (startSequence q b) :=
  steady_of_sameBut (startSequence_sameBut q b) h

theorem steady_withdrawLocks (h : Steady b) : Steady (withdrawLocks b) :=
  steady_of_sameBut (advanceSequence_sameBut _)
    (steady_startSequence .withdraw (steady_ite (steady_setPhase .unlocking h) h))

theorem steady_driveLocks (h : Steady b) : Steady (driveLocks b) := by
  unfold driveLocks
  exact steady_of_sameBut (advanceSequence_sameBut _)
    (steady_ite (steady_of_sameBut (reverseSequence_sameBut _) (steady_setPhase .locking h))
      (steady_ite (steady_startSequence .drive h) (steady_startSequence .drive (steady_setPhase .locking h))))

theorem steady_directUnlessHeld (m : Movement) (h : Steady b) : Steady (directUnlessHeld m b) :=
  steady_ite h (steady_of_sameBut (directMovement_sameBut m b) h)

theorem steady_formGroup (passage newOpening : Bool) (h : Steady b) : Steady (formGroup passage newOpening b) := h

theorem steady_raiseLeaves (passage : Bool) (h : Steady b) : Steady (raiseLeaves passage b) := by
  have formed := steady_formGroup passage (b.sil.phase == .unlocked) h
  unfold raiseLeaves
  exact steady_ite formed (steady_directUnlessHeld _ (steady_setPhase .raising (steady_setOrder _ formed)))

theorem steady_lowerLeaves (h : Steady b) : Steady (lowerLeaves b) := by
  have ordered : Steady (setPhase .lowering (setOrder (some .lower) (dissolveGroup b))) := h
  have stopped := steady_of_sameBut (stopLeaves_sameBut _) ordered
  unfold lowerLeaves
  refine steady_ite ordered ?_
  split
  · exact steady_setHeld nofun stopped
  · exact steady_of_sameBut (directMovement_sameBut _ _) stopped

theorem steady_recoveryLowerLeaves (h : Steady b) : Steady (recoveryLowerLeaves b) :=
  steady_directUnlessHeld .recoveryLower (steady_setOrder _ h)

theorem steady_resumeRoad (h : Steady b) : Steady (resumeRoad b) := by
  have called : Steady (BarrierId.all.foldl recommandBarrier b) :=
    steady_of_sameBut (sameBut_foldl recommandBarrier recommandBarrier_sameBut _ b) h
  exact steady_of_sameBut (takePendingStep_sameBut _) (steady_of_fields (b := dropOverrides _) rfl rfl rfl called)

theorem steady_resumeMovement (h : Steady b) : Steady (resumeMovement b) := by
  unfold resumeMovement
  split
  · exact h
  · exact steady_ite h (steady_of_sameBut (directMovement_sameBut _ b) h)

theorem steady_resumeMotion (h : Steady b) : Steady (resumeMotion b) := by
  have cleared : Steady (note .span { b with sil := { b.sil with held := false, cause := .none } }) :=
    ⟨⟨nofun, fun h => absurd rfl h⟩, h.2⟩
  exact steady_resumeMovement (steady_of_sameBut (advanceSequence_sameBut _)
    (steady_of_sameBut (resumeLocks_sameBut _) (steady_resumeRoad cleared)))

theorem steady_clearVessel (v : Vessel) (h : Steady b) : Steady (clearVessel v b) := steady_selectAspects h.1

end

/-! ## Every request -/

section
variable (body : List Octet) {b : Blocks}

theorem steady_takeSetParam (h : Steady b) : Steady (takeSetParam body b).blocks := by
  unfold takeSetParam
  split
  · unfold setParam
    split_ifs
    iterate 4 exact h
    exact steady_of_sameBut (writeParam_sameBut _ _ _ b) h
  · exact h

theorem steady_takeAssignInput (h : Steady b) : Steady (takeAssignInput body b).blocks := by
  have assigned : ∀ i e, Steady (assignEntry i e b) := fun i e => steady_of_sameBut (assignEntry_sameBut i e b) h
  unfold takeAssignInput
  split
  · refine steady_inMode h ?_
    split
    · unfold assignPosition
      split
      · split_ifs <;> first | exact h | exact assigned _ _
      · exact h
    · split
      · exact assigned _ _
      · exact h
    · exact h
  · exact h

theorem steady_takeAssignOutput (h : Steady b) : Steady (takeAssignOutput body b).blocks := by
  unfold takeAssignOutput
  split
  · refine steady_inMode h ?_
    split
    · unfold assignOutput
      split
      · exact h
      · split
        · split <;> exact h
        · split
          · exact h
          · exact steady_of_sameBut (setOutput_sameBut _ _ _ b) h
    · exact h
  · exact h

theorem steady_takeClearAssignment (h : Steady b) : Steady (takeClearAssignment body b).blocks := by
  unfold takeClearAssignment
  split
  · refine steady_inMode h ?_
    split
    · unfold clearInput
      split
      · exact h
      · split
        · exact h
        · exact steady_of_sameBut (assignEntry_sameBut _ none b) h
    · unfold clearOutput
      split
      · split
        · exact h
        · exact steady_of_sameBut (setOutput_sameBut _ _ none b) h
      · exact h
    · exact steady_of_sameBut (clearTable_sameBut b) h
    · exact h
  · exact h

theorem steady_takeLoadClearance (h : Steady b) : Steady (takeLoadClearance body b).blocks := by
  unfold takeLoadClearance
  split
  · exact h
  · split
    · exact h
    · refine steady_inMode h ?_
      split <;> exact h

theorem steady_takeConfigDone (h : Steady b) : Steady (takeConfigDone body b).blocks := by
  unfold takeConfigDone
  split
  · exact h
  · refine steady_inMode h ?_
    split <;> exact h

theorem steady_takeReconfigure (h : Steady b) : Steady (takeReconfigure body b).blocks := by
  unfold takeReconfigure
  split_ifs
  · exact h
  · exact steady_inMode h h
  · exact steady_inMode h h
  · exact steady_inMode h steady_restartBlocks

theorem steady_takeRestart (h : Steady b) : Steady (takeRestart body b).blocks := by
  unfold takeRestart
  split_ifs
  · exact h
  · exact steady_inMode h h
  · exact steady_inMode h (steady_of_fields (a := restartBlocks b) rfl rfl rfl steady_restartBlocks)

theorem steady_takeLeavesRaise (h : Steady b) : Steady (takeLeavesRaise body b).blocks := by
  unfold takeLeavesRaise raiseTo
  split
  · refine steady_inMode h ?_
    split_ifs
    · exact h
    · exact h
    · split
      · exact h
      · exact steady_raiseLeaves _ h
  · exact h

theorem steady_takeEstopReset (h : Steady b) : Steady (takeEstopReset body b).blocks := by
  unfold takeEstopReset
  split_ifs
  · exact h
  all_goals exact steady_inMode h h

theorem steady_takeFaultClear (h : Steady b) : Steady (takeFaultClear body b).blocks := by
  unfold takeFaultClear
  split
  · refine steady_inMode h ?_
    split
    · unfold faultClearLeaf
      split
      · exact h
      · split
        · exact h
        · split
          · exact h
          · exact steady_of_sameBut (clearLeaf_sameBut _ b) h
    · unfold faultClearLock
      split
      · exact h
      · split_ifs
        iterate 4 exact h
        exact steady_of_sameBut (advanceSequence_sameBut _) (steady_of_sameBut (clearLock_sameBut _ b) h)
    · unfold faultClearBarrier
      split
      · exact h
      · split_ifs
        iterate 3 exact h
        exact steady_of_sameBut (clearBarrier_sameBut _ b) h
    · exact h
  · exact h

theorem steady_takeOverrideGrant (h : Steady b) : Steady (takeOverrideGrant body b).blocks := by
  unfold takeOverrideGrant
  split
  · refine steady_inMode h ?_
    split
    · exact h
    · split_ifs <;> exact h
  · exact h

theorem steady_takeOverrideRevoke (h : Steady b) : Steady (takeOverrideRevoke body b).blocks := by
  unfold takeOverrideRevoke
  split
  · refine steady_inMode h ?_
    split
    · exact h
    · split_ifs <;> exact h
  · exact h

theorem steady_addVessel (v : Vessel) (h : Steady b) : Steady (addVessel v b).blocks := by
  unfold addVessel
  split <;> exact h

theorem steady_takeVesselAdd (h : Steady b) : Steady (takeVesselAdd body b).blocks := by
  unfold takeVesselAdd
  split
  · refine steady_inMode h ?_
    split
    · split
      · exact h
      · unfold judgeVessel
        split_ifs
        iterate 4 exact h
        exact steady_addVessel _ h
    · exact h
  · exact h

theorem steady_takeVesselWithdraw (h : Steady b) : Steady (takeVesselWithdraw body b).blocks := by
  unfold takeVesselWithdraw withdrawVessel
  split
  · refine steady_inMode h ?_
    split_ifs
    · exact h
    · exact h
    · split <;> exact h
  · exact h

theorem steady_takeVesselCleared (h : Steady b) : Steady (takeVesselCleared body b).blocks := by
  unfold takeVesselCleared vesselPassed
  split
  · refine steady_inMode h ?_
    split
    · exact h
    · split
      · split
        · exact steady_clearVessel _ h
        · exact h
      · exact h
  · exact h

/-- A query changes nothing (R203). -/
theorem answerQuery_blocks (parts : Nat → Option (List (List Octet))) (b : Blocks) :
    (answerQuery body parts b).blocks = b := by
  unfold answerQuery
  split
  · split
    · rfl
    · split <;> rfl
  · rfl

theorem steady_takePresence (h : Steady b) : Steady (takePresence body b).blocks := by
  unfold takePresence
  split
  · split <;> exact h
  · exact h

theorem steady_takeIdentify (h : Steady b) : Steady (takeIdentify body b).blocks := by
  unfold takeIdentify
  split <;> exact h

theorem steady_takeGetParam (h : Steady b) : Steady (takeGetParam body b).blocks := by
  unfold takeGetParam
  split
  · split <;> exact h
  · exact h

end

/-- Every taken request, accepted or refused, keeps the hold and the aspects in order. -/
theorem steady_takeRequest (f : Frame) {b : Blocks} (h : Steady b) : Steady (takeRequest f b).blocks := by
  have query : ∀ parts, Steady (answerQuery f.body parts b).blocks := fun parts => by
    rw [answerQuery_blocks]
    exact h
  unfold takeRequest
  split
  · exact steady_takeIdentify _ h
  · exact steady_takeSetParam _ h
  · exact steady_takeGetParam _ h
  · exact steady_takeAssignInput _ h
  · exact steady_takeAssignOutput _ h
  · exact steady_takeClearAssignment _ h
  · exact steady_takeLoadClearance _ h
  · exact steady_takeConfigDone _ h
  · exact steady_takeReconfigure _ h
  · exact steady_takeRestart _ h
  · exact steady_operate h (steady_closeRoad h)
  · exact steady_operate h (steady_openRoad h)
  · exact steady_operate h (steady_withdrawLocks h)
  · exact steady_operate h (steady_driveLocks h)
  · exact steady_takeLeavesRaise _ h
  · exact steady_operate h (steady_lowerLeaves h)
  · exact steady_operate h (steady_recoveryLowerLeaves h)
  · exact steady_operate h (steady_stopAndHold nofun h)
  · exact steady_operate h (steady_resumeMotion h)
  · exact steady_takeEstopReset _ h
  · exact steady_takeFaultClear _ h
  · exact steady_takeOverrideGrant _ h
  · exact steady_takeOverrideRevoke _ h
  · exact steady_takeVesselAdd _ h
  · exact steady_takeVesselWithdraw _ h
  · exact steady_takeVesselCleared _ h
  · exact query _
  · exact query _
  · exact query _
  · exact query _
  · exact query _
  · exact query _
  · exact query _
  · exact query _
  · exact steady_takePresence _ h
  · exact h

end Sys2Proof.Proofs

/-! The ceiling of the speed commands and the skew at the end of every round (R141, R142), and the invariants that every step
keeps. -/

namespace Sys2Proof.Proofs

open Sys2Proof.Machine Sys2Proof.Safety

/-! ## What must hold of the leaves in OPERATE -/

/-- The speed command of a leaf in MOVING or STOPPING is at most its ceiling (R141). -/
def UnderCeiling (b : Blocks) : Prop :=
  ∀ l : LeafId, leafState b l = .moving ∨ leafState b l = .stopping → (b.leaves.get l).mot.command ≤ ceiling b l

/-- No leaf is MOVING in a RAISE or LOWER through a skew (R142). -/
def NoSkew (b : Blocks) : Prop :=
  ∀ l : LeafId, leafState b l = .moving → (b.leaves.get l).mot.kind = .raise ∨ (b.leaves.get l).mot.kind = .lower →
    b.leaves.north.pos.certain = true → b.leaves.south.pos.certain = true → angleDifference b < b.par.skewLimitCd

/-- No leaf is MOVING, and a STOPPING leaf has its command at 0. -/
def Resting (b : Blocks) : Prop :=
  ∀ l : LeafId, leafState b l ≠ .moving ∧ (leafState b l = .stopping → (b.leaves.get l).mot.command = 0)

theorem Resting.underCeiling {b : Blocks} (h : Resting b) : UnderCeiling b := fun l hl =>
  hl.elim (fun hm => absurd hm (h l).1) fun hs => ((h l).2 hs).trans_le (Nat.zero_le _)

theorem Resting.noSkew {b : Blocks} (h : Resting b) : NoSkew b := fun l hm => absurd hm (h l).1

/-- What the ceiling of a leaf is read from. -/
theorem ceiling_congr {a b : Blocks} {l : LeafId} (hp : (b.leaves.get l).pos = (a.leaves.get l).pos)
    (hk : (b.leaves.get l).mot.kind = (a.leaves.get l).mot.kind)
    (ht : (b.leaves.get l).mot.targetCounts = (a.leaves.get l).mot.targetCounts) (hr : b.par = a.par)
    (hw : b.wmn = a.wmn) : ceiling b l = ceiling a l := by
  have far : distance (b.leaves.get l) = distance (a.leaves.get l) := by simp only [distance, hp, hk, ht]
  have cap : windCap b = windCap a := by simp only [windCap, hr, hw]
  simp only [ceiling, far, cap, hp, hk, hr]

/-- The ceiling and the skew are read from the leaves, the parameters and the wind record. -/
theorem underCeiling_of_sameBut {fs : List BlockField} {a b : Blocks} (k : SameBut fs a b) (h : UnderCeiling a)
    (hl : BlockField.leaves ∉ fs := by decide) (hp : BlockField.par ∉ fs := by decide)
    (hw : BlockField.wmn ∉ fs := by decide) : UnderCeiling b := by
  have el : b.leaves = a.leaves := k .leaves hl
  intro l
  rw [leafState, ceiling_congr (by rw [el]) (by rw [el]) (by rw [el]) (k .par hp) (k .wmn hw), el]
  exact h l

theorem noSkew_of_sameBut {fs : List BlockField} {a b : Blocks} (k : SameBut fs a b) (h : NoSkew a)
    (hl : BlockField.leaves ∉ fs := by decide) (hp : BlockField.par ∉ fs := by decide) : NoSkew b := by
  have el : b.leaves = a.leaves := k .leaves hl
  have ep : b.par = a.par := k .par hp
  unfold NoSkew at *
  simp only [angleDifference, leafAngle, leafState, el, ep] at *
  exact h

/-! ## Leaves written one by one -/

theorem leaf_eq_or_other (l k : LeafId) : k = l ∨ k = otherLeaf l := by
  cases l <;> cases k <;> decide

theorem otherLeaf_ne (l : LeafId) : otherLeaf l ≠ l := by cases l <;> decide

/-- The leaf that is not written keeps its record. -/
theorem setLeaf_get_other (l : LeafId) (r : LeafRec) (b : Blocks) :
    (setLeaf l r b).leaves.get (otherLeaf l) = b.leaves.get (otherLeaf l) :=
  PerLeaf.get_set_other _ _ _ _ (otherLeaf_ne l)

/-- A stop request writes the motion record of its leaf (R143). -/
theorem stopLeaf_leaves (l : LeafId) (b : Blocks) : (stopLeaf l b).leaves =
    b.leaves.set l { b.leaves.get l with mot := stopped (b.leaves.get l).mot } := by
  have self : b.leaves.set l (b.leaves.get l) = b.leaves := by cases l <;> rfl
  unfold stopLeaf stopped
  cases h : (b.leaves.get l).mot.state <;> simp only [h] <;> first | rfl | exact self.symm

theorem stopLeaf_get (l : LeafId) (b : Blocks) : (stopLeaf l b).leaves.get l =
    { b.leaves.get l with mot := stopped (b.leaves.get l).mot } := by
  rw [stopLeaf_leaves, PerLeaf.get_set_same]

theorem stopLeaf_get_other (l : LeafId) (b : Blocks) :
    (stopLeaf l b).leaves.get (otherLeaf l) = b.leaves.get (otherLeaf l) := by
  rw [stopLeaf_leaves, PerLeaf.get_set_other _ _ _ _ (otherLeaf_ne l)]

/-- Both leaves after a stop request to both. -/
theorem stopLeaves_get (l : LeafId) (b : Blocks) : (stopLeaves b).leaves.get l =
    { b.leaves.get l with mot := stopped (b.leaves.get l).mot } := by
  have north : (stopLeaf .north b).leaves.get .south = b.leaves.get .south := stopLeaf_get_other .north b
  cases l
  · exact (stopLeaf_get_other .south _).trans (stopLeaf_get .north b)
  · exact (stopLeaf_get .south _).trans (by rw [north])

theorem leavesStopped_stopLeaves (b : Blocks) : LeavesStopped b (stopLeaves b) := fun l => stopLeaves_get l b

theorem stopped_not_moving (m : MotionRec) : (stopped m).state ≠ .moving := by
  unfold stopped
  split <;> simp_all

theorem stopped_kind (m : MotionRec) : (stopped m).kind = m.kind := by
  unfold stopped
  split <;> rfl

theorem stopped_rest {m : MotionRec} (hm : m.state ≠ .moving) (hc : m.state = .stopping → m.command = 0) :
    (stopped m).state = .stopping → (stopped m).command = 0 := by
  unfold stopped
  split <;> simp_all

/-! ## A fault finding (R117) -/

theorem leafFault_leaf_faulted {l : LeafId} {k : LeafFault} {b : Blocks} (hm : b.sil.mode = .operate)
    (hf : (b.leaves.get l).mot.state = .fault) : leafFault l k b =
      if k ∈ (b.leaves.get l).flt.kinds then b
      else setFlt l { (b.leaves.get l).flt with kinds := (b.leaves.get l).flt.kinds ++ [k] } b := by
  simp [leafFault, hm, hf]

/-- The record of a leaf that enters FAULT by a finding. -/
def faultedLeaf (k : LeafFault) (r : LeafRec) : LeafRec :=
  { r with
    flt := { r.flt with first := some k, kinds := [k], stall := none }
    mot := { r.mot with state := .fault, command := 0, updateTimer := none, brakeSetAsked := true }
    win := if r.mot.state = .seated then r.win.start else r.win }

theorem leafFault_leaf_sound {l : LeafId} {k : LeafFault} {b : Blocks} (hm : b.sil.mode = .operate)
    (hf : (b.leaves.get l).mot.state ≠ .fault) : leafFault l k b =
      stopLeaf (otherLeaf l) (brakeSetRequest l (setLeaf l (faultedLeaf k (b.leaves.get l)) b)) := by
  simp [leafFault, hm, hf, faultedLeaf]

theorem otherLeaf_otherLeaf (l : LeafId) : otherLeaf (otherLeaf l) = l := by cases l <;> rfl

/-- The leaf of a finding is in FAULT after it. -/
theorem leafFault_get {l : LeafId} {k : LeafFault} {b : Blocks} (hm : b.sil.mode = .operate)
    (hf : (b.leaves.get l).mot.state ≠ .fault) :
    (leafFault l k b).leaves.get l = faultedLeaf k (b.leaves.get l) := by
  have brake : (brakeSetRequest l (setLeaf l (faultedLeaf k (b.leaves.get l)) b)).leaves =
      (setLeaf l (faultedLeaf k (b.leaves.get l)) b).leaves := brakeSetRequest_sameBut l _ .leaves (by decide)
  have kept := stopLeaf_get_other (otherLeaf l) (brakeSetRequest l (setLeaf l (faultedLeaf k (b.leaves.get l)) b))
  rw [otherLeaf_otherLeaf] at kept
  rw [leafFault_leaf_sound hm hf, kept, brake, setLeaf_leaves, PerLeaf.get_set_same]

theorem leafFault_get_other {l : LeafId} {k : LeafFault} {b : Blocks} (hm : b.sil.mode = .operate)
    (hf : (b.leaves.get l).mot.state ≠ .fault) : (leafFault l k b).leaves.get (otherLeaf l) =
      { b.leaves.get (otherLeaf l) with mot := stopped (b.leaves.get (otherLeaf l)).mot } := by
  have brake : (brakeSetRequest l (setLeaf l (faultedLeaf k (b.leaves.get l)) b)).leaves =
      (setLeaf l (faultedLeaf k (b.leaves.get l)) b).leaves := brakeSetRequest_sameBut l _ .leaves (by decide)
  rw [leafFault_leaf_sound hm hf, stopLeaf_get, brake, setLeaf_get_other]

theorem leafFault_state (l : LeafId) (k : LeafFault) {b : Blocks} (hm : b.sil.mode = .operate) :
    leafState (leafFault l k b) l = .fault := by
  by_cases hf : (b.leaves.get l).mot.state = .fault
  · rw [leafFault_leaf_faulted hm hf]
    split
    · exact hf
    · simp [leafState, hf]
  · rw [leafState, leafFault_get hm hf]
    rfl

/-- A finding on the motion records: its leaf is in FAULT, and the other is as it was or stopped. -/
theorem leafFault_other_mot (l : LeafId) (k : LeafFault) (b : Blocks) :
    ((leafFault l k b).leaves.get (otherLeaf l)).mot = (b.leaves.get (otherLeaf l)).mot ∨
      ((leafFault l k b).leaves.get (otherLeaf l)).mot = stopped (b.leaves.get (otherLeaf l)).mot := by
  by_cases hm : b.sil.mode = .operate
  · by_cases hf : (b.leaves.get l).mot.state = .fault
    · left
      rw [leafFault_leaf_faulted hm hf]
      split
      · rfl
      · rw [setFlt_leaves, PerLeaf.get_set_other _ _ _ _ (otherLeaf_ne l)]
    · right
      rw [leafFault_get_other hm hf]
  · left
    rw [leafFault_outside l k b hm]

/-- No finding sets a leaf MOVING. -/
theorem leafFault_not_moving {l j : LeafId} {k : LeafFault} {b : Blocks} (hj : leafState b j ≠ .moving) :
    leafState (leafFault l k b) j ≠ .moving := by
  rcases leaf_eq_or_other l j with rfl | rfl
  · by_cases hm : b.sil.mode = .operate
    · rw [leafFault_state j k hm]
      nofun
    · rw [leafFault_outside j k b hm]
      exact hj
  · rcases leafFault_other_mot l k b with h | h
    · rw [leafState, h]
      exact hj
    · rw [leafState, h]
      exact stopped_not_moving _

theorem resting_leafFault (l : LeafId) (k : LeafFault) {b : Blocks} (hm : b.sil.mode = .operate) (h : Resting b) :
    Resting (leafFault l k b) := by
  intro j
  refine ⟨leafFault_not_moving (h j).1, ?_⟩
  rcases leaf_eq_or_other l j with rfl | rfl
  · rw [leafFault_state j k hm]
    nofun
  · rcases leafFault_other_mot l k b with e | e
    · rw [leafState, e]
      exact (h _).2
    · rw [leafState, e]
      exact stopped_rest (h _).1 (h _).2

theorem resting_of_leaves {a b : Blocks} (e : b.leaves = a.leaves) (h : Resting a) : Resting b := by
  unfold Resting leafState at *
  rw [e]
  exact h

/-! ## Supervision of the skew (R142) -/

/-- After a finding SKEW no leaf that was in motion moves on. -/
theorem skewFinding_not_moving {judged b : Blocks} (hm : b.sil.mode = .operate)
    (hj : ∀ l, leafInMotion judged l = false → leafState b l ≠ .moving) (l : LeafId) :
    leafState (skewFinding judged true b) l ≠ .moving := by
  unfold skewFinding
  simp only [Bool.true_and]
  have mode : ∀ (p : Bool) (k : LeafId), (if p then leafFault k .skew b else b).sil.mode = .operate := by
    intro p k
    split
    · rw [show (leafFault k .skew b).sil = b.sil from leafFault_sameBut k .skew b .sil (by decide)]
      exact hm
    · exact hm
  have first : leafState (if leafInMotion judged .north then leafFault .north .skew b else b) .north ≠ .moving := by
    split
    · rw [leafFault_state _ _ hm]
      nofun
    · exact hj _ (Bool.eq_false_of_not_eq_true ‹_›)
  have second : leafInMotion judged .south = false →
      leafState (if leafInMotion judged .north then leafFault .north .skew b else b) .south ≠ .moving := by
    intro hs
    split
    · exact leafFault_not_moving (hj _ hs)
    · exact hj _ hs
  cases l
  · split
    · exact leafFault_not_moving first
    · exact first
  · split
    · rw [leafFault_state _ _ (mode _ _)]
      nofun
    · exact second (Bool.eq_false_of_not_eq_true ‹_›)

/-- Where the skew test passes, no leaf moves through a skew. -/
theorem noSkew_of_skewStands {b : Blocks} (h : skewStands b = false) : NoSkew b := by
  intro l hm hk hn hs
  by_contra hd
  have moves : (anyLeaf fun l => leafState b l == .moving &&
      ((b.leaves.get l).mot.kind == .raise || (b.leaves.get l).mot.kind == .lower)) = true :=
    (anyLeaf_iff _).mpr ⟨l, by simp [hm, hk]⟩
  have certain : (bothLeaves fun l => (b.leaves.get l).pos.certain) = true :=
    (bothLeaves_iff _).mpr (forall_leaf.mpr ⟨hn, hs⟩)
  rw [skewStands, moves, certain] at h
  simp at h
  omega

theorem noSkew_superviseSkew {b : Blocks} (hm : b.sil.mode = .operate) : NoSkew (superviseSkew b) := by
  cases h : skewStands b
  · have still : superviseSkew b = b := by simp [superviseSkew, skewFinding, h]
    rw [still]
    exact noSkew_of_skewStands h
  · intro l hl
    refine absurd hl ?_
    rw [superviseSkew, h]
    refine skewFinding_not_moving hm (fun k hk hkm => ?_) l
    rw [← Bool.not_eq_true, leafInMotion_iff] at hk
    exact hk (.inr (.inl hkm))

theorem noSkew_followLeaves {b : Blocks} (hm : b.sil.mode = .operate) : NoSkew (followLeaves b) := by
  refine noSkew_superviseSkew ?_
  have kept : SameBut [.leaves, .brakes] b
      (profileStart (leafRest .south (leafRest .north (judgeRaiseArrival .south (judgeRaiseArrival .north b))))) :=
    sameBut_trans (sameBut_mono (sameBut_trans (judgeRaiseArrival_sameBut .north b)
      (sameBut_trans (judgeRaiseArrival_sameBut .south _)
        (sameBut_trans (leafRest_sameBut .north _) (leafRest_sameBut .south _)))) (by decide)) (profileStart_sameBut _)
  rw [show Blocks.sil _ = b.sil from kept .sil (by decide)]
  exact hm

/-! ## The conditions of the span and the ceilings (R20, R141) -/

/-- From `a` to `b` the positions stand, and a leaf that moves in `b` moved in `a`, with the same kind. -/
def MovesOn (a b : Blocks) : Prop :=
  ∀ l : LeafId, (b.leaves.get l).pos = (a.leaves.get l).pos ∧ (b.leaves.get l).mot.kind = (a.leaves.get l).mot.kind ∧
    (leafState b l = .moving → leafState a l = .moving)

theorem noSkew_of_movesOn {a b : Blocks} (k : MovesOn a b) (hp : b.par = a.par) (h : NoSkew a) : NoSkew b := by
  obtain ⟨hn, -⟩ := k .north
  obtain ⟨hs, -⟩ := k .south
  intro l hl
  obtain ⟨-, kind, moves⟩ := k l
  have before := h l (moves hl)
  rw [kind]
  simp only [angleDifference, leafAngle, hp, hn, hs] at before ⊢
  change b.leaves.north.pos = a.leaves.north.pos at hn
  change b.leaves.south.pos = a.leaves.south.pos at hs
  rw [hn, hs]
  exact before

theorem movesOn_stopLeaves (b : Blocks) : MovesOn b (stopLeaves b) := by
  intro l
  rw [leafState, stopLeaves_get]
  exact ⟨rfl, stopped_kind _, fun h => absurd h (stopped_not_moving _)⟩

/-- The record of a leaf after its command is held at its ceiling. -/
theorem applyCeiling_get (l : LeafId) (b : Blocks) : (applyCeiling l b).leaves.get l =
    { b.leaves.get l with mot := { (b.leaves.get l).mot with
      command := if leafState b l = .moving ∨ leafState b l = .stopping then
        min (b.leaves.get l).mot.command (ceiling b l) else (b.leaves.get l).mot.command } } := by
  unfold applyCeiling leafState
  dsimp only
  split
  · rw [setMot_leaves, PerLeaf.get_set_same]
  · rfl

theorem applyCeiling_get_other (l : LeafId) (b : Blocks) :
    (applyCeiling l b).leaves.get (otherLeaf l) = b.leaves.get (otherLeaf l) := by
  unfold applyCeiling
  dsimp only
  split
  · rw [setMot_leaves, PerLeaf.get_set_other _ _ _ _ (otherLeaf_ne l)]
  · rfl

/-- A held command changes neither the state nor the ceiling of a leaf. -/
theorem applyCeiling_reads (l j : LeafId) (b : Blocks) :
    leafState (applyCeiling l b) j = leafState b j ∧ ceiling (applyCeiling l b) j = ceiling b j ∧
      ((applyCeiling l b).leaves.get j).pos = (b.leaves.get j).pos ∧
      ((applyCeiling l b).leaves.get j).mot.kind = (b.leaves.get j).mot.kind := by
  have hp : (applyCeiling l b).par = b.par := applyCeiling_sameBut l b .par (by decide)
  have hw : (applyCeiling l b).wmn = b.wmn := applyCeiling_sameBut l b .wmn (by decide)
  rcases leaf_eq_or_other l j with rfl | rfl
  · have g := applyCeiling_get j b
    exact ⟨by rw [leafState, g]; rfl, ceiling_congr (by rw [g]) (by rw [g]) (by rw [g]) hp hw, by rw [g], by rw [g]⟩
  · have g := applyCeiling_get_other l b
    exact ⟨by rw [leafState, g]; rfl, ceiling_congr (by rw [g]) (by rw [g]) (by rw [g]) hp hw, by rw [g], by rw [g]⟩

theorem movesOn_applyCeiling (l : LeafId) (b : Blocks) : MovesOn b (applyCeiling l b) := fun j =>
  ⟨(applyCeiling_reads l j b).2.2.1, (applyCeiling_reads l j b).2.2.2, fun h => (applyCeiling_reads l j b).1.symm.trans h⟩

/-- The leaf whose command is held is under its ceiling. -/
theorem applyCeiling_under (l : LeafId) (b : Blocks)
    (h : leafState b l = .moving ∨ leafState b l = .stopping) :
    ((applyCeiling l b).leaves.get l).mot.command ≤ ceiling b l := by
  rw [applyCeiling_get]
  simp only [h, if_true]
  exact min_le_right _ _

theorem underCeiling_applyCeilings (b : Blocks) : UnderCeiling (applyCeiling .south (applyCeiling .north b)) := by
  intro l hl
  obtain ⟨hs, hc, -, -⟩ := applyCeiling_reads .south l (applyCeiling .north b)
  rw [hs] at hl
  rw [hc]
  cases l
  · have kept := applyCeiling_get_other .south (applyCeiling .north b)
    obtain ⟨hs', hc', -, -⟩ := applyCeiling_reads .north .north b
    rw [hs'] at hl
    rw [hc', show (applyCeiling .south (applyCeiling .north b)).leaves.get .north = _ from kept]
    exact applyCeiling_under .north b hl
  · exact applyCeiling_under .south _ hl

/-! ## The next movement (R144) -/

/-- A recorded next movement changes nothing that the ceiling or the skew reads. -/
theorem setNext_reads (m : Option Movement) (b : Blocks) (l : LeafId) :
    (setNext m b).leaves.get l = { b.leaves.get l with mot := { (b.leaves.get l).mot with next := m } } := by
  cases l <;> rfl

theorem underCeiling_setNext (m : Option Movement) {b : Blocks} (h : UnderCeiling b) : UnderCeiling (setNext m b) := by
  intro l hl
  have g := setNext_reads m b l
  rw [leafState, g] at hl
  rw [ceiling_congr (a := b) (b := setNext m b) (by rw [g]) (by rw [g]) (by rw [g]) rfl rfl, g]
  exact h l hl

theorem movesOn_setNext (m : Option Movement) (b : Blocks) : MovesOn b (setNext m b) := by
  intro l
  rw [leafState, setNext_reads]
  exact ⟨rfl, rfl, id⟩

theorem not_inMotion_of_movementMustWait {b : Blocks} (h : movementMustWait b = false) (l : LeafId) :
    leafInMotion b l = false := by
  simp only [movementMustWait, Bool.or_eq_false_iff, anyLeaf_eq_false_iff] at h
  exact h.1 l

/-- A leaf at a start goes to RELEASING or keeps its state. -/
theorem atStart_state (r : LeafRec) (m : Movement) (n : Nat) (taking : Bool) :
    (r.atStart m n taking).mot.state = if taking then .releasing else r.mot.state := by
  cases taking <;> rfl

/-- The start of a movement sets no leaf MOVING, and stops one at command 0 alone. -/
theorem resting_startMovement (m : Movement) {b : Blocks} (hm : b.sil.mode = .operate)
    (h : ∀ l, leafInMotion b l = false) : Resting (startMovement m b) := by
  have begun : Resting (movementBegun m b) := by
    intro l
    have rest := h l
    rw [← Bool.not_eq_true, leafInMotion_iff, leafState] at rest
    push Not at rest
    have state : leafState (movementBegun m b) l =
        if takesPart b l m then .releasing else (b.leaves.get l).mot.state := by
      cases l <;> exact atStart_state _ _ _ _
    rw [state]
    split
    · exact ⟨nofun, nofun⟩
    · exact ⟨rest.2.1, fun hs => absurd hs rest.2.2⟩
  have release : ∀ (t : Bool) (l : LeafId) (x : Blocks), Resting x → Resting (releaseIf t l x).1 := fun t l x hx =>
    resting_of_leaves (releaseIf_sameBut t l x .leaves (by decide)) hx
  have mode : ∀ (t : Bool) (l : LeafId) (x : Blocks), x.sil.mode = .operate → (releaseIf t l x).1.sil.mode = .operate := by
    intro t l x hx
    rw [show (releaseIf t l x).1.sil = x.sil from releaseIf_sameBut t l x .sil (by decide)]
    exact hx
  have fault : ∀ (t : Bool) (l : LeafId) (x : Blocks), x.sil.mode = .operate → Resting x →
      Resting (if t then leafFault l .brakeNotReleased x else x) ∧
        (if t then leafFault l .brakeNotReleased x else x).sil.mode = .operate := by
    intro t l x hx hr
    split
    · refine ⟨resting_leafFault l _ hx hr, ?_⟩
      rw [show (leafFault l .brakeNotReleased x).sil = x.sil from leafFault_sameBut l _ x .sil (by decide)]
      exact hx
    · exact ⟨hr, hx⟩
  have begunMode : (movementBegun m b).sil.mode = .operate := by
    unfold movementBegun
    split <;> exact hm
  have north := fault (releaseIf (takesPart b .north m) .north (movementBegun m b)).2 .north _
    (mode (takesPart b .south m) .south _ (mode (takesPart b .north m) .north _ begunMode))
    (release (takesPart b .south m) .south _ (release (takesPart b .north m) .north _ begun))
  exact (fault (releaseIf (takesPart b .south m) .south
    (releaseIf (takesPart b .north m) .north (movementBegun m b)).1).2 .south _ north.2 north.1).1

theorem movement_takeNextMovement {b : Blocks} (hm : b.sil.mode = .operate) (hu : UnderCeiling b) (hs : NoSkew b) :
    UnderCeiling (takeNextMovement b) ∧ NoSkew (takeNextMovement b) := by
  have taken : UnderCeiling (setNext none b) ∧ NoSkew (setNext none b) :=
    ⟨underCeiling_setNext none hu, noSkew_of_movesOn (movesOn_setNext none b) rfl hs⟩
  unfold takeNextMovement
  split
  · exact ⟨hu, hs⟩
  · dsimp only
    split_ifs with hw
    · exact ⟨hu, hs⟩
    · exact taken
    · exact taken
    · split
      · exact ⟨underCeiling_of_sameBut (setHeld_sameBut _ _) taken.1, noSkew_of_sameBut (setHeld_sameBut _ _) taken.2⟩
      · have still : ∀ l, leafInMotion (setNext none b) l = false := fun l => by
          rw [leafInMotion, leafState, setNext_reads]
          exact not_inMotion_of_movementMustWait (Bool.eq_false_of_not_eq_true hw) l
        have rests := resting_startMovement ‹_› (b := setNext none b) hm still
        exact ⟨rests.underCeiling, rests.noSkew⟩

theorem noSkew_maintainConditions {b : Blocks} (h : NoSkew b) : NoSkew (maintainConditions b) := by
  have stops : ∀ c, NoSkew (stopAndHold c b) := fun c =>
    noSkew_of_movesOn (b := stopAndHold c b) (movesOn_stopLeaves b) (stopAndHold_sameBut c b .par (by decide)) h
  unfold maintainConditions
  split
  · split
    · exact stops _
    · split
      · exact stops _
      · exact h
  · exact h

theorem noSkew_applyCeiling (l : LeafId) {b : Blocks} (h : NoSkew b) : NoSkew (applyCeiling l b) :=
  noSkew_of_movesOn (movesOn_applyCeiling l b) (applyCeiling_sameBut l b .par (by decide)) h

theorem stopAndHold_sil (c : HoldCause) (b : Blocks) :
    (stopAndHold c b).sil = { b.sil with held := true, cause := c } := by
  rw [stopAndHold, setHeld_sil, show (stopLeaves b).sil = b.sil from stopLeaves_sameBut b .sil (by decide)]

theorem maintainConditions_mode (b : Blocks) : (maintainConditions b).sil.mode = b.sil.mode := by
  unfold maintainConditions
  split
  · split
    · rw [stopAndHold_sil]
    · split
      · rw [stopAndHold_sil]
      · rfl
  · rfl

theorem interruptUnseated_mode (b : Blocks) : (interruptUnseated b).sil.mode = b.sil.mode := by
  unfold interruptUnseated
  split
  · rw [setHeld_sil, show (interruptLocks b).sil = b.sil from interruptLocks_sameBut b .sil (by decide)]
  · rfl

/-- After the conditions every command is under its ceiling, and no skew has come up (R20, R141, R144). -/
theorem movement_followConditions {b : Blocks} (hm : b.sil.mode = .operate) (h : NoSkew b) :
    UnderCeiling (followConditions b) ∧ NoSkew (followConditions b) := by
  have dropped : NoSkew (dropOverrides b) := noSkew_of_sameBut (dropOverrides_sameBut b) h
  have seated := noSkew_of_sameBut (interruptUnseated_sameBut _) (noSkew_maintainConditions dropped)
  refine movement_takeNextMovement ?_ (underCeiling_applyCeilings _) (noSkew_applyCeiling .south (noSkew_applyCeiling .north seated))
  rw [show (applyCeiling .south (applyCeiling .north _)).sil = _ from
      (sameBut_trans (applyCeiling_sameBut .north _) (applyCeiling_sameBut .south _)) .sil (by decide),
    interruptUnseated_mode, maintainConditions_mode]
  exact hm

end Sys2Proof.Proofs

/-! What every event leaves in order, and the invariants that every step keeps (R21, R141, R142, R171). -/

namespace Sys2Proof.Proofs

open Sys2Proof.Machine Sys2Proof.Safety

/-! ## One round -/

theorem takeNextMovement_mode (b : Blocks) : (takeNextMovement b).sil.mode = b.sil.mode := by
  unfold takeNextMovement
  split
  · rfl
  · dsimp only
    split_ifs
    · rfl
    · rfl
    · rfl
    · split
      · rfl
      · rw [show (startMovement _ (setNext none b)).sil = (setNext none b).sil from
          startMovement_sameBut _ _ .sil (by decide)]
        rfl

theorem followConditions_mode (b : Blocks) : (followConditions b).sil.mode = b.sil.mode := by
  rw [followConditions, takeNextMovement_mode, show (applyCeiling .south (applyCeiling .north _)).sil = _ from
      (sameBut_trans (applyCeiling_sameBut .north _) (applyCeiling_sameBut .south _)) .sil (by decide),
    interruptUnseated_mode, maintainConditions_mode]
  rfl

theorem roadAdvance_mode (b : Blocks) : (roadAdvance b).sil.mode = b.sil.mode := by
  rcases roadAdvance_sil b with h | h <;> rw [h]

theorem followSpan_mode (s0 b : Blocks) : (followSpan s0 b).sil.mode = b.sil.mode := by
  have phase : (completePhase b).sil.mode = b.sil.mode := by
    unfold completePhase
    dsimp only
    split_ifs <;> rfl
  have derived : ∀ x, (rederive x).sil.mode = x.sil.mode := fun x => by
    unfold rederive
    split <;> rfl
  have recovery : ∀ x, (completeRecovery x).sil.mode = x.sil.mode := fun x => by
    unfold completeRecovery
    split
    · rw [derived, setOrder_sil]
    · rfl
  have at_ : ∀ x, (rederiveAt s0 x).sil.mode = x.sil.mode := fun x => by
    unfold rederiveAt
    split
    · exact derived x
    · rfl
  have short : ∀ x, (endShort x).sil.mode = x.sil.mode := fun x => by
    unfold endShort
    split <;> rfl
  rw [followSpan, short, at_, recovery, phase]

theorem settleRound_mode (s0 b : Blocks) : (settleRound s0 b).sil.mode = b.sil.mode := by
  rw [settleRound, show (followAspects _).sil = _ from followAspects_sameBut _ .sil (by decide),
    show (followPassage _).sil = _ from followPassage_sameBut _ .sil (by decide), followSpan_mode, roadAdvance_mode,
    show (advanceSequence _).sil = _ from advanceSequence_sameBut _ .sil (by decide), followConditions_mode,
    show (noteLeaves s0 _).sil = _ from noteLeaves_sameBut s0 _ .sil (by decide),
    show (followLeaves b).sil = _ from followLeaves_sameBut b .sil (by decide)]

/-- The lamps follow with no parameter changed but the cadence. -/
theorem followAspects_par (b : Blocks) : ∃ v, (followAspects b).par = { b.par with flashFpm := v } := by
  have lamps : (followAspects b).par = (followDemand b).par :=
    sameBut_foldl takeCommand takeCommand_sameBut lampGroups _ .par (by decide)
  rw [lamps]
  unfold followDemand
  split
  · exact ⟨_, rfl⟩
  · exact ⟨b.par.flashFpm, rfl⟩
  · exact ⟨b.par.flashFpm, rfl⟩

theorem movement_followAspects {b : Blocks} (hu : UnderCeiling b) (hs : NoSkew b) :
    UnderCeiling (followAspects b) ∧ NoSkew (followAspects b) := by
  have hl : (followAspects b).leaves = b.leaves := followAspects_sameBut b .leaves (by decide)
  obtain ⟨v, hp⟩ := followAspects_par b
  have hw : (followAspects b).wmn = b.wmn := followAspects_sameBut b .wmn (by decide)
  constructor
  · intro l
    rw [leafState, ceiling_congr (a := { b with par := { b.par with flashFpm := v } }) (by rw [hl]) (by rw [hl])
      (by rw [hl]) hp hw, hl]
    exact hu l
  · unfold NoSkew angleDifference leafAngle leafState
    rw [hl, hp]
    exact hs

/-- After a round in OPERATE every command is under its ceiling and no leaf moves through a skew. -/
theorem movement_settleRound (s0 : Blocks) {b : Blocks} (hm : b.sil.mode = .operate) :
    UnderCeiling (settleRound s0 b) ∧ NoSkew (settleRound s0 b) := by
  have leaves := noSkew_followLeaves hm
  have mode : (noteLeaves s0 (followLeaves b)).sil.mode = .operate := by
    rw [show (noteLeaves s0 _).sil = _ from noteLeaves_sameBut s0 _ .sil (by decide),
      show (followLeaves b).sil = _ from followLeaves_sameBut b .sil (by decide), hm]
  obtain ⟨hu, hs⟩ := movement_followConditions mode (noSkew_of_sameBut (noteLeaves_sameBut s0 _) leaves)
  have rest : ∀ x, SameBut [.sil, .rsq, .slu, .barriers, .locks, .seq, .nav, .notes] x
      (followPassage (followSpan s0 (roadAdvance (advanceSequence x)))) := fun x =>
    sameBut_trans (sameBut_mono (advanceSequence_sameBut x) (by decide))
      (sameBut_trans (sameBut_mono (roadAdvance_sameBut _) (by decide))
        (sameBut_trans (sameBut_mono (followSpan_sameBut s0 _) (by decide))
          (sameBut_mono (followPassage_sameBut _) (by decide))))
  exact movement_followAspects (underCeiling_of_sameBut (rest _) hu) (noSkew_of_sameBut (rest _) hs)

/-! ## One event -/

/-- The invariants of the blocks between events. -/
def Safe (b : Blocks) : Prop := Steady b ∧ SpeedOk b ∧ SkewOk b

theorem iter_four {α : Type} (f : α → α) (a : α) : iter f 4 a = f (iter f 3 a) := rfl

theorem safe_settleOperate (s0 : Blocks) {b : Blocks} (h : Steady b) (hm : b.sil.mode = .operate) :
    Safe (settleOperate s0 b) := by
  have mode : (iter (settleRound s0) 3 b).sil.mode = .operate :=
    iter_keeps (P := fun x => x.sil.mode = .operate) (fun x hx => (settleRound_mode s0 x).trans hx) 3 b hm
  obtain ⟨hu, hs⟩ := movement_settleRound s0 mode
  have last : settleOperate s0 b = settleRound s0 (iter (settleRound s0) 3 b) := iter_four _ b
  rw [← last] at hu hs
  exact ⟨steady_settleOperate s0 h, fun _ => hu, fun _ => hs⟩

/-- Whatever an event's own work leaves of the leaves, what follows puts them in order. -/
theorem safe_settle (s0 : Blocks) {b : Blocks} (h : Steady b) : Safe (settle s0 b) := by
  unfold settle
  split
  next hm => exact ⟨h, fun ho => by simp [hm] at ho, fun ho => by simp [hm] at ho⟩
  next hm =>
    split
    · exact safe_settleOperate s0 (steady_adopt _ b) (by rw [adopt_sil]; rfl)
    · exact ⟨h, fun ho => by simp [hm] at ho, fun ho => by simp [hm] at ho⟩
  next hm => exact safe_settleOperate s0 h hm

theorem safe_takeHead {e : Event} (h : Safe e.blocks) : Safe (takeHead e).blocks := by
  rcases takeHead_cases e with ⟨he, -⟩ | ⟨f, rest, -, -, ⟨-, he⟩ | ⟨-, he⟩⟩ <;> rw [he]
  · exact h
  · exact safe_settle _ (steady_takeRequest f h.1)
  · exact safe_settle _ (steady_takeRequest f h.1)

theorem safe_takeWaiting {e : Event} (h : Safe e.blocks) : Safe (takeWaiting e).blocks :=
  iter_keeps (P := fun e => Safe e.blocks) (fun _ => safe_takeHead) _ e h

/-- The invariants of a state between events. -/
def Sound (s : State) : Prop := NotesOk s ∧ Safe s.blocks

theorem safe_finishEvent {e : Event} (h : Steady e.blocks) (q : List Instr) : Sound ((finishEvent e).toState q) := by
  have taken : Safe (takeWaiting (startReply (takeWaiting e.settled))).blocks := by
    refine safe_takeWaiting ?_
    rw [(startReply_keeps _).2.1]
    exact safe_takeWaiting (safe_settle _ h)
  have reported : (finishEvent e).blocks = (postReports (takeWaiting (startReply (takeWaiting e.settled)))).blocks :=
    (startReport_keeps _).2.1
  unfold Sound NotesOk
  rw [toState_blocks, reported, postReports_blocks]
  exact ⟨rfl, taken⟩

theorem sound_runEvent {f : Blocks → Blocks} (hf : ∀ b, Steady b → Steady (f b)) {s : State} (h : Sound s) :
    Sound (runEvent f s) := safe_finishEvent (hf _ h.2.1) _

theorem sound_inputEvent {f : Blocks → Blocks} (hf : ∀ b, Steady b → Steady (f b)) {s : State} (h : Sound s) :
    Sound (inputEvent f s) := sound_runEvent (fun b hb => steady_publish b (hf b hb)) h

theorem sound_validFrame (f : Frame) {s : State} (h : Sound s) : Sound (validFrame f s) := by
  refine safe_finishEvent ?_ _
  unfold receive
  dsimp only
  split <;> exact steady_presenceRestart h.2.1

theorem sound_completeFrame (kind tag : Octet) (body : List Octet) (crc : BitVec 16) {s : State} (h : Sound s) :
    Sound (completeFrame kind tag body crc s) := by
  unfold completeFrame
  split_ifs
  · exact h
  · exact sound_validFrame _ h
  · exact h

theorem sound_receiveOctet (o : Octet) (stop : Bool) {s : State} (h : Sound s) : Sound (receiveOctet o stop s) := by
  have complete : ∀ os, Sound (completeOctets os s) := fun os => by
    unfold completeOctets
    split
    · split
      · exact sound_completeFrame _ _ _ _ h
      · exact h
    · exact h
  have taken : ∀ os, Sound (frameOctetTaken os o s) := fun os => by
    unfold frameOctetTaken
    dsimp only
    split_ifs
    · exact h
    · exact complete _
    · exact h
  unfold receiveOctet
  split
  · split <;> exact h
  · split
    · exact taken _
    · exact h

/-! ## One step -/

/-- The invariants through a command that carries no request. -/
theorem sound_exec_event (i : Instr) (hf : requestFrame i = none) {s t : State} (h : Sound s) (he : exec i s = .next t) :
    Sound t := by
  have frame : ∀ {fs : List BlockField} (f : Blocks → Blocks), (∀ b, SameBut fs b (f b)) →
      BlockField.sil ∉ fs → BlockField.nav ∉ fs → ∀ b, Steady b → Steady (f b) :=
    fun f k hs hn b hb => steady_of_sameBut (k b) hb hs hn
  cases i
  case powerOnReset => cases he; exact ⟨rfl, ⟨⟨nofun, fun h => absurd rfl h⟩, fun h => ChannelAspect.noConfusion h.1⟩, nofun, nofun⟩
  case consoleFrameReceived => cases he; exact sound_completeFrame _ _ _ _ h
  case frameAbandoned => cases he; exact h
  case octetGapTimeout => cases he; exact h
  case transmitFrameEnd => cases he; exact safe_finishEvent h.2.1 _
  case presenceTimerExpiry => cases he; exact sound_runEvent (fun _ => steady_presenceExpiry) h
  case foundFrame k f => cases he; exact sound_inputEvent (frame _ (huntCandidate_sameBut k f) (by decide) (by decide)) h
  case confirmingFrame k f => cases he; exact sound_inputEvent (frame _ (confirmCandidate_sameBut k f) (by decide) (by decide)) h
  case alignedFrameBoundary k f =>
    cases he
    exact sound_inputEvent (frame _ (boundaryFrame_sameBut k f) (by decide) (by decide)) h
  case fieldFrameStart k => cases he; exact sound_runEvent (frame _ (startFrame_sameBut k) (by decide) (by decide)) h
  case samplingTimerExpiry lines =>
    cases he
    exact sound_inputEvent (fun b hb => steady_of_sameBut (mapInputs_sameBut _ _) (steady_passMillisecond hb))
      (s := tickReceiver s) h
  case holdExpiry k => cases he; exact sound_inputEvent (frame (endHolds k) (fun _ => mapInputs_sameBut _ _) (by decide) (by decide)) h
  case flashPhaseBoundary => cases he; exact sound_runEvent (frame _ phaseBoundary_sameBut (by decide) (by decide)) h
  case edgeWindowExpiry g =>
    cases he
    exact sound_runEvent (frame (lampEdgeExpiry g) (fun _ => onFitted_sameBut g _ _) (by decide) (by decide)) h
  case proveTimerExpiry g =>
    cases he
    exact sound_runEvent (frame (lampProveExpiry g) (fun _ => onFitted_sameBut g _ _) (by decide) (by decide)) h
  case settleExpiry g =>
    cases he
    exact sound_runEvent (frame (lampSettleExpiry g) (fun _ => onFitted_sameBut g _ _) (by decide) (by decide)) h
  case amberExpiry => cases he; exact sound_runEvent (frame _ amberExpiry_sameBut (by decide) (by decide)) h
  case redWarnExpiry => cases he; exact sound_runEvent (frame _ redWarnExpiry_sameBut (by decide) (by decide)) h
  case clearanceTimerExpiry => cases he; exact sound_runEvent (frame _ clearanceExpiry_sameBut (by decide) (by decide)) h
  case barrierTravelTimeout k => cases he; exact sound_runEvent (frame _ (barrierTimeout_sameBut k) (by decide) (by decide)) h
  case encoderCount l forward => cases he; exact sound_runEvent (frame _ (leafCount_sameBut l forward) (by decide) (by decide)) h
  case illegalTransition l => cases he; exact sound_runEvent (frame _ (leafIllegal_sameBut l) (by decide) (by decide)) h
  case speedWindowEnd l => cases he; exact sound_runEvent (frame _ (windowEnd_sameBut l) (by decide) (by decide)) h
  case stallTimerExpiry l => cases he; exact sound_runEvent (frame _ (stallExpiry_sameBut l) (by decide) (by decide)) h
  case profileUpdate l => cases he; exact sound_runEvent (frame _ (leafUpdate_sameBut l) (by decide) (by decide)) h
  case brakeReleaseTimeout l => cases he; exact sound_runEvent (frame _ (brakeNotReleased_sameBut l) (by decide) (by decide)) h
  case brakeSetTimeout l => cases he; exact sound_runEvent (frame _ (brakeNotSet_sameBut l) (by decide) (by decide)) h
  case lockTravelTimeout k => cases he; exact sound_runEvent (frame _ (lockTimeout_sameBut k) (by decide) (by decide)) h
  case gapRunOut => cases he; exact sound_runEvent (fun _ => steady_gapExpiry) h
  case anemoFallingEdge n => cases he; exact sound_runEvent (frame _ (onWind_sameBut _) (by decide) (by decide)) h
  case calm => cases he; exact sound_runEvent (frame _ (onWind_sameBut _) (by decide) (by decide)) h
  case gustAgeRise => cases he; exact sound_runEvent (frame _ (onWind_sameBut _) (by decide) (by decide)) h
  case adoptTimeout => cases he; exact sound_runEvent (fun _ => steady_adoptExpiry) h
  case consoleOctetReceived o stop => cases he; exact sound_receiveOctet o stop h
  all_goals cases hf

/-- The invariants through any command. -/
theorem sound_exec (i : Instr) {s t : State} (h : Sound s) (he : exec i s = .next t) : Sound t := by
  cases hf : requestFrame i with
  | some f =>
    rw [exec_requestFrame hf] at he
    cases he
    exact sound_completeFrame _ _ _ _ h
  | none => exact sound_exec_event i hf h he

/-- Settles O59: what an event's own work leaves keeps the hold and the aspects in order, and the rounds at its end bring the
commands under their ceilings and find the skew. -/
theorem safetyInvariantsAreKept : Obligations.SafetyInvariantsAreKept := by
  intro s t notes hold speed skew proceed hs
  have before : Sound s := ⟨notes, ⟨hold, proceed⟩, speed, skew⟩
  have after : Sound t := by
    unfold step at hs
    split at hs
    · cases hs
      exact before
    next c rest _ => exact sound_exec c (s := { s with pending := rest }) before hs
  obtain ⟨hn, ⟨hh, hp⟩, hsp, hsk⟩ := after
  exact ⟨hn, hh, hsp, hsk, hp⟩

end Sys2Proof.Proofs

/-! Holding the bridge: MOTION_HOLD, the presence expiry, the maintained conditions and the interrupt of the locks. -/

namespace Sys2Proof.Proofs

open Sys2Proof.Machine Sys2Proof.Safety

theorem leafDriven_iff (b : Blocks) (l : LeafId) :
    leafDriven b l = true ↔ leafState b l = .releasing ∨ leafState b l = .moving := by
  simp [leafDriven]

theorem anyDriven_iff (b : Blocks) :
    anyLeaf (leafDriven b) = true ↔ ∃ l, leafState b l = .releasing ∨ leafState b l = .moving := by
  simp only [anyLeaf_iff, leafDriven_iff]

theorem lockTravelling_iff (r : LockRec) : lockTravelling r = true ↔ r.state = .driving ∨ r.state = .withdrawing := by
  simp [lockTravelling]

theorem exists_lock {p : LockId → Prop} : (∃ k, p k) ↔ p .centre ∨ p .northTail ∨ p .southTail :=
  ⟨fun ⟨k, h⟩ => by cases k <;> simp [h], fun h => h.elim (⟨_, ·⟩) fun h => h.elim (⟨_, ·⟩) (⟨_, ·⟩)⟩

theorem anyLock_iff (p : LockId → Bool) : LockId.all.any p = true ↔ ∃ k, p k = true := by
  simp [LockId.all, exists_lock]

/-! ## MOTION_HOLD and the presence expiry (R20, R143, R192) -/

theorem leavesStopped_stopAndHold (c : HoldCause) (b : Blocks) : LeavesStopped b (stopAndHold c b) :=
  leavesStopped_stopLeaves b

theorem presenceExpiry_taken {b : Blocks} (hm : b.sil.mode = .operate) (hp : b.presence ≠ none) :
    presenceExpiry b = note .console (stopAndHold .consoleLost { b with
      sil := { b.sil with consoleLost := true }, presence := none, presRanOut := b.par.presenceMs }) :=
  if_pos ⟨Option.isSome_iff_ne_none.mpr hp, hm⟩

theorem presenceExpiry_untaken {b : Blocks} (h : b.sil.mode ≠ .operate ∨ b.presence = none) : presenceExpiry b = b :=
  if_neg fun ⟨hp, hm⟩ => h.elim (absurd hm) fun hn => by simp [hn] at hp

/-! ## The maintained conditions (R20) -/

theorem maintainConditions_rest {b : Blocks} (h : anyLeaf (leafDriven b) = false) : maintainConditions b = b := by
  simp [maintainConditions, h]

theorem maintainConditions_locks {b : Blocks} (hd : anyLeaf (leafDriven b) = true)
    (hl : allLocks b .withdrawn = false) :
    maintainConditions b = stopAndHold (.maintained .locksNotWithdrawn) b := by
  simp [maintainConditions, maintainedFails, hd, hl]

theorem maintainConditions_barriers {b : Blocks} (hd : anyLeaf (leafDriven b) = true)
    (hl : allLocks b .withdrawn = true) (hb : barriersClosed b = false) :
    maintainConditions b = stopAndHold (.maintained .barrierNotProven) b := by
  simp [maintainConditions, maintainedFails, hd, hl, hb]

theorem maintainConditions_held {b : Blocks} (hl : allLocks b .withdrawn = true) (hb : barriersClosed b = true) :
    maintainConditions b =
      if anyLeaf (leafDriven b) = true ∧ b.sil.consoleLost = true then stopAndHold .consoleLost b else b := by
  unfold maintainConditions maintainedFails
  split_ifs <;> simp_all

/-! ## Interrupts of travelling locks (R156) -/

/-- The record of a lock after an interrupt. -/
def interrupted (r : LockRec) : LockRec :=
  if lockTravelling r then { r with state := .interrupted, timer := r.timer.halt } else r

theorem lockInterrupt_locks (k : LockId) (b : Blocks) :
    (lockInterrupt k b).locks = b.locks.set k (interrupted (b.locks.get k)) := by
  unfold lockInterrupt interrupted
  dsimp only
  split
  · rfl
  · cases k <;> rfl

theorem interruptLocks_get (b : Blocks) (k : LockId) :
    (interruptLocks b).locks.get k = interrupted (b.locks.get k) := by
  unfold interruptLocks
  simp only [lockInterrupt_locks]
  cases k <;> rfl

theorem interruptUnseated_taken {b : Blocks} (hs : bothSeated b = false)
    (hk : (LockId.all.any fun k => lockTravelling (b.locks.get k)) = true) :
    interruptUnseated b = setHeld (.maintained .leafNotSeated) (interruptLocks b) := if_pos ⟨hs, hk⟩

/-- Settles O30: each case gives the flag its cause by the same stop of both leaves; the locks are read one by one. -/
theorem holdsStopTheLeaves : Obligations.HoldsStopTheLeaves := by
  refine ⟨?request, ?expiry, ?conditions, ?unseated⟩
  case request =>
    intro tag s hq b f hm
    have judged : takeRequest f b = operate [] (motionRunning b || b.sil.held) [] holdMotion b := rfl
    refine ⟨fun hp => ⟨holdMotion b, ?_, stopAndHold_sil _ b, leavesStopped_stopAndHold _ b, stopAndHold_sameBut _ b⟩,
      fun hr hh => ?_⟩
    · exact exec_accepted rfl judged hq hm (by simpa using hp) rfl
    · exact (exec_judged rfl judged hq hm).1 (by simp [hr, hh])
  case expiry =>
    intro s b
    refine ⟨fun hm hp => ⟨presenceExpiry b, rfl, ?_⟩, fun h => ?_⟩
    · rw [presenceExpiry_taken hm hp]
      refine ⟨stopAndHold_sil _ _, leavesStopped_stopAndHold .consoleLost _, ?_, ?_, ?_, ?_⟩
      · exact stopAndHold_sameBut .consoleLost _ .presence (by decide)
      · exact stopAndHold_sameBut .consoleLost _ .presRanOut (by decide)
      · exact congrArg (· ++ [.console]) (stopAndHold_sameBut .consoleLost _ .notes (by decide))
      · intro x hx
        have same : ∀ a : Blocks, x ∉ [BlockField.sil, .leaves] → x.same a (stopAndHold .consoleLost a) := fun a =>
          stopAndHold_sameBut .consoleLost a x
        cases x <;> first | exact same _ (by decide) | exact absurd (by decide) hx
    · have ends : exec .presenceTimerExpiry s = .next (eventEnd s (presenceExpiry b)) := rfl
      rw [ends, presenceExpiry_untaken h]
  case conditions =>
    intro b c driven locks barriers stops
    have held : ∀ x, c = stopAndHold x b → stops x := fun x hx =>
      ⟨hx ▸ stopAndHold_sil x b, hx ▸ leavesStopped_stopAndHold x b, hx ▸ stopAndHold_sameBut x b⟩
    have hd : anyLeaf (leafDriven b) = true ↔ driven := anyDriven_iff b
    have hl : allLocks b .withdrawn = true ↔ locks := allLocks_iff b _
    have hb : barriersClosed b = true ↔ barriers := barriersClosed_iff b
    rw [← hd, ← hl, ← hb, Bool.not_eq_true, Bool.not_eq_true, Bool.not_eq_true]
    refine ⟨fun hd hl => held _ (maintainConditions_locks hd hl),
      fun hd hl hb => held _ (maintainConditions_barriers hd hl hb), fun hd hl hb hc => held _ ?_, ?_⟩
    · exact (maintainConditions_held hl hb).trans (if_pos ⟨hd, hc⟩)
    · rintro (hd | ⟨hl, hb, hc⟩)
      · exact maintainConditions_rest hd
      · exact (maintainConditions_held hl hb).trans (if_neg fun h => by simp [hc] at h)
  case unseated =>
    intro b c travels unseated
    have hu : bothSeated b = false ↔ unseated := by
      rw [← Bool.not_eq_true, bothSeated_iff, not_forall]
    have ht : (LockId.all.any fun k => lockTravelling (b.locks.get k)) = true ↔ ∃ k, travels k := by
      simp only [anyLock_iff, lockTravelling_iff, travels]
    refine ⟨fun hs hk => ?_, fun h => ?_⟩
    · have hc : c = _ := interruptUnseated_taken (hu.mpr hs) (ht.mpr hk)
      have lock : ∀ k, c.locks.get k = interrupted (b.locks.get k) := fun k => by
        rw [hc]
        exact interruptLocks_get b k
      refine ⟨?_, fun k ms hk timer => ?_, fun k hk => ?_, fun k hk => ?_, ?_⟩
      · rw [hc, setHeld_sil, show (interruptLocks b).sil = b.sil from interruptLocks_sameBut b .sil (by decide)]
      · rw [lock, interrupted, if_pos ((lockTravelling_iff _).mpr hk), timer]
        rfl
      · rw [lock, interrupted, if_pos ((lockTravelling_iff _).mpr hk)]
        exact ⟨rfl, rfl⟩
      · rw [lock, interrupted, if_neg (mt (lockTravelling_iff _).mp hk)]
      · rw [hc]
        exact sameBut_trans (sameBut_mono (interruptLocks_sameBut b) (by decide))
          (sameBut_mono (setHeld_sameBut _ _) (by decide))
    · refine if_neg fun ⟨hs, hk⟩ => ?_
      obtain ⟨k, hk⟩ := ht.mp hk
      exact h.elim (absurd (hu.mp hs)) fun hn => hn k hk

end Sys2Proof.Proofs

/-! The passage group, the grant test and the fall of proceed (R19, R168 to R178). -/

namespace Sys2Proof.Proofs

open Sys2Proof.Machine Sys2Proof.Safety

/-! ## P_PROCEED (R19) -/

/-- Whether a reason of the grant test stands, by the tests of P_PROCEED alone. -/
def reasonStands (b : Blocks) (d : Dir) (required : Nat) : Blocked → Bool
  | .none | .gap => false
  | .pierNotReady => !(stationReady b .p)
  | .greenFailed => (lampRec b (.green d)).state == .failed
  | .estopLatched => b.sil.latch
  | .consoleLost => b.sil.consoleLost
  | .leafNotParked => !(bothLeaves fun l => leafState b l == .parked)
  | .positionUncertain => !(bothLeaves fun l => (b.leaves.get l).pos.certain || made b (.openLimit l))
  | .angleLow => decide (effectiveLower b < (required : Int))

/-- The conditions of P_PROCEED in R19's order. -/
def proceedOrder : List Blocked :=
  [.pierNotReady, .greenFailed, .estopLatched, .consoleLost, .leafNotParked, .positionUncertain, .angleLow]

theorem proceedFails_eq_find (b : Blocks) (d : Dir) (required : Nat) :
    proceedFails b d required = proceedOrder.find? (reasonStands b d required) := by
  have cons : ∀ (p : Blocked → Bool) x xs, List.find? p (x :: xs) = if p x = true then some x else xs.find? p := by
    intro p x xs
    cases h : p x <;> simp [h]
  simp only [proceedOrder, cons]
  simp only [proceedFails, List.find?_nil, reasonStands, decide_eq_true_eq]

theorem bothParked_iff (b : Blocks) :
    (bothLeaves fun l => leafState b l == .parked) = true ↔ ∀ l, leafState b l = .parked := by
  simp [bothLeaves_iff]

theorem reasonStands_leafNotParked (b : Blocks) (d : Dir) (required : Nat) :
    reasonStands b d required .leafNotParked = true ↔ ∃ l : LeafId, leafState b l ≠ .parked := by
  rw [reasonStands, Bool.not_eq_true', ← Bool.not_eq_true, bothParked_iff, not_forall]

theorem reasonStands_positionUncertain (b : Blocks) (d : Dir) (required : Nat) :
    reasonStands b d required .positionUncertain = true ↔
      ∃ l : LeafId, (b.leaves.get l).pos.certain = false ∧ made b (.openLimit l) = false := by
  rw [reasonStands, Bool.not_eq_true', ← Bool.not_eq_true, bothLeaves_iff, not_forall]
  simp

/-- The grant test passes exactly where every condition of P_PROCEED holds. -/
theorem proceedFails_eq_none (b : Blocks) (d : Dir) (required : Nat) : proceedFails b d required = none ↔
    stationReady b .p = true ∧ (lampRec b (.green d)).state ≠ .failed ∧ b.sil.latch = false ∧
      b.sil.consoleLost = false ∧ (∀ l : LeafId, leafState b l = .parked) ∧
      (∀ l : LeafId, (b.leaves.get l).pos.certain = true ∨ made b (.openLimit l) = true) ∧
      (required : Int) ≤ effectiveLower b := by
  rw [proceedFails_eq_find]
  simp [proceedOrder, reasonStands, bothLeaves_iff]

theorem proceedFails_eq_some (b : Blocks) (d : Dir) (required : Nat) (w : Blocked) :
    proceedFails b d required = some w ↔ ∃ before after : List Blocked, proceedOrder = before ++ w :: after ∧
      reasonStands b d required w = true ∧ ∀ x ∈ before, reasonStands b d required x = false := by
  rw [proceedFails_eq_find]
  simp only [List.find?_eq_some_iff_append, Bool.not_eq_true']
  exact ⟨fun ⟨hc, xs, ys, hp, hx⟩ => ⟨xs, ys, hp, hc, hx⟩, fun ⟨xs, ys, hp, hc, hx⟩ => ⟨hc, xs, ys, hp, hx⟩⟩

/-! ## The gap (R170) -/

theorem gapRequired_of_running {b : Blocks} {ms : Nat} (h : b.nav.gap = some ms) (d : Dir) :
    gapRequired b d = if b.nav.lastCleared = some d then b.par.followMs else b.par.reverseMs := by
  simp [gapRequired, h]

theorem gapRunOut_iff (b : Blocks) (d : Dir) : gapRunOut b d = true ↔ ∀ ms : Nat, b.nav.gap = some ms →
    (if b.nav.lastCleared = some d then b.par.followMs else b.par.reverseMs) ≤ ms := by
  unfold gapRunOut
  split
  next h => simp [h]
  next ms h => simp [h, gapRequired_of_running h]

theorem gapExpiry_runs {b : Blocks} {ms : Nat} {v : Vessel} (hg : b.nav.gap = some ms) (hc : candidate b.nav = some v) :
    gapExpiry b = { b with nav := { b.nav with gap := some (max ms
      (if b.nav.lastCleared = some v.dir then b.par.followMs else b.par.reverseMs)) } } := by
  simp only [gapExpiry, hg, hc, gapRequired_of_running hg]

theorem gapExpiry_rests {b : Blocks} (h : b.nav.gap = none ∨ candidate b.nav = none) : gapExpiry b = b := by
  unfold gapExpiry
  split
  next hg hc => simp [hg, hc] at h
  next => rfl

/-! ## The grant test (R171) -/

section
variable {b : Blocks} {v : Vessel} (hg : b.nav.group = .passing) (hp : proceedingVessel b.nav = none)
  (hc : candidate b.nav = some v)
include hg hp hc

theorem grantTest_gap (h : gapRunOut b v.dir = false) : grantTest b = { b with nav := { b.nav with blocked := .gap } } := by
  simp [grantTest, hg, hp, hc, h]

theorem grantTest_blocked {w : Blocked} (h : gapRunOut b v.dir = true) (hw : proceedFails b v.dir v.required = some w) :
    grantTest b = { b with nav := { b.nav with blocked := w } } := by
  simp [grantTest, hg, hp, hc, h, hw]

theorem grantTest_granted (h : gapRunOut b v.dir = true) (hw : proceedFails b v.dir v.required = none) :
    grantTest b = { b with nav := { setVessel v.ident .proceeding b.nav with
      proceedShown := some v.dir, fall := .none, blocked := .none } } := by
  simp [grantTest, hg, hp, hc, h, hw]

end

/-! ## What a group does by itself (R168, R173, R176) -/

theorem opens_iff (b : Blocks) : (b.nav.group = .awaitingOpen ∧ bothArrived b = true) ↔
    b.nav.group = .awaitingOpen ∧ ∀ l : LeafId, leafState b l = .parked ∧ (b.leaves.get l).mot.arrived = true :=
  and_congr_right fun _ => bothArrived_iff b

theorem completeGroup_eq (b : Blocks) : completeGroup b =
    if b.nav.group = .passing ∧ (∀ x ∈ b.nav.slots, x.state ≠ .waiting ∧ x.state ≠ .proceeding)
    then { b with nav := { b.nav with group := .complete } } else b := by
  simp [completeGroup, groupFinished]

theorem watchProceed_nothingShown {b : Blocks} (h : b.nav.proceedShown = none ∨ proceedingVessel b.nav = none) :
    watchProceed b = b := by
  unfold watchProceed
  split
  next hs hv => simp [hs, hv] at h
  next => rfl

theorem watchProceed_shown {b : Blocks} {d : Dir} {v : Vessel} (hs : b.nav.proceedShown = some d)
    (hv : proceedingVessel b.nav = some v) : watchProceed b =
      if bothParked b = false then note (.clearanceLost v false) (dropProceed .clearanceLost b)
      else if effectiveLower b < (v.required : Int) then note (.clearanceLost v true) (dropProceed .clearanceLost b)
      else if (lampRec b (.green d)).state = .failed then dropProceed .greenFailed b
      else b := by
  unfold watchProceed
  simp only [hs, hv]

/-- Settles O55: the gap timer, the group and the watch on PROCEED each follow case equations, and the grant test searches
the conditions of R19 in their order. -/
theorem gapsAndGrants : Obligations.GapsAndGrants := by
  refine ⟨?group, ?gap, ?grant⟩
  case group =>
    intro b opens done
    refine ⟨fun h => if_pos ((opens_iff b).mpr h), fun h => if_neg (mt (opens_iff b).mp h),
      fun h => (completeGroup_eq b).trans (if_pos h), fun h => (completeGroup_eq b).trans (if_neg h),
      watchProceed_nothingShown, fun d v hs hv => ?_⟩
    intro parked clear dark falls
    have shown := watchProceed_shown hs hv
    have hpark : bothParked b = true ↔ parked := bothParked_iff b
    refine ⟨fun hp => shown.trans (if_pos (Bool.eq_false_of_not_eq_true (mt hpark.mp hp))), fun hp hc => ?_, fun hp hc hd => ?_, fun hp hc hd => ?_⟩
    · rw [if_neg (by simp [hpark.mpr hp]), if_pos (not_le.mp hc)] at shown
      exact shown
    · rw [if_neg (by simp [hpark.mpr hp]), if_neg (not_lt.mpr hc), if_pos hd] at shown
      simpa [falls, dropProceed] using shown
    · rw [if_neg (by simp [hpark.mpr hp]), if_neg (not_lt.mpr hc), if_neg hd] at shown
      exact shown
  case gap =>
    intro s b
    have ends : exec .gapRunOut s = .next (eventEnd s (gapExpiry b)) := rfl
    refine ⟨fun ms v hg hc => ?_, fun h => ?_⟩
    · rw [ends, gapExpiry_runs hg hc]
    · rw [ends, gapExpiry_rests h]
  case grant =>
    intro b v hg hp hc gapDone permitted
    have gap : gapRunOut b v.dir = true ↔ gapDone := gapRunOut_iff b v.dir
    refine ⟨fun hd ht => ?_, fun hd => ?_, ?_⟩
    · exact grantTest_granted hg hp hc (gap.mpr hd) ((proceedFails_eq_none b v.dir v.required).mpr ht)
    · exact grantTest_gap hg hp hc (Bool.eq_false_of_not_eq_true (mt gap.mp hd))
    · intro fails hd ht
      have stands : ∀ w, fails w ↔ reasonStands b v.dir v.required w = true := by
        intro w
        cases w
        case leafNotParked => exact (reasonStands_leafNotParked b _ _).symm
        case positionUncertain => exact (reasonStands_positionUncertain b _ _).symm
        all_goals simp [fails, reasonStands]
      obtain ⟨w, hw⟩ := Option.ne_none_iff_exists'.mp (mt (proceedFails_eq_none b v.dir v.required).mp ht)
      obtain ⟨before, after, order, first, earlier⟩ := (proceedFails_eq_some b v.dir v.required w).mp hw
      refine ⟨before, after, w, order, (stands w).mpr first, fun x hx hf => ?_,
        grantTest_blocked hg hp hc (gap.mpr hd) hw⟩
      exact absurd ((stands x).mp hf) (by simp [earlier x hx])

end Sys2Proof.Proofs

/-! What an event leaves and what follows by itself (R14 to R16, R61, R127, R200, R204). -/

namespace Sys2Proof.Proofs

open Sys2Proof.Machine Sys2Proof.Safety

/-! ## The end of an event (R200, R204) -/

/-- With nothing received that waits, an event ends in the postings of its own blocks and the transmitter's choice. -/
theorem finishEvent_idle {e : Event} (h : e.cpt.buffer = []) :
    finishEvent e = startReport (postReports (startReply e.settled)) := by
  have settled : e.settled.cpt.buffer = [] := h
  have replied : (startReply e.settled).cpt.buffer = [] := by
    obtain ⟨-, -, -, -, -, buffer, -⟩ := startReply_keeps e.settled
    exact buffer.trans h
  rw [finishEvent, takeWaiting_empty _ settled, takeWaiting_empty _ replied]

theorem eventLeads_eventEnd (s : State) (b : Blocks) (h : s.cpt.buffer = []) : EventLeads s b (eventEnd s b) := by
  have ended : eventEnd s b = (startReport (postReports (startReply
      ({ beginEvent s s.cpt with blocks := b } : Event).settled))).toState s.pending := by
    rw [← finishEvent_idle (e := { beginEvent s s.cpt with blocks := b }) h]
    rfl
  generalize he : ({ beginEvent s s.cpt with blocks := b } : Event) = e at ended
  obtain ⟨-, hblocks, -, -, hreceiver, hbuffer, hoverrun⟩ := startReply_keeps e.settled
  obtain ⟨-, kblocks, -, kreceiver, kbuffer, -, koverrun⟩ := startReport_keeps (postReports (startReply e.settled))
  rw [ended]
  subst he
  refine ⟨rfl, ?_, ?_, ?_, ?_, fun ht => ?_⟩
  · rw [toState_blocks, kblocks, postReports_blocks, hblocks]
    rfl
  · exact kreceiver.trans hreceiver
  · exact kbuffer.trans hbuffer
  · exact koverrun.trans hoverrun
  · obtain ⟨f, hf⟩ := Option.ne_none_iff_exists'.mp ht
    rw [startReply_busy _ f hf, startReport_busy _ f hf]
    exact ⟨rfl, postReports_rq_quiet _ rfl⟩

/-! ## The clearance table stays (R160) -/

theorem followPassage_table (b : Blocks) : (followPassage b).nav.table = b.nav.table := by
  have grant : ∀ x : Blocks, (grantTest x).nav.table = x.nav.table := fun x => by
    unfold grantTest
    split
    · split
      · rfl
      · split
        · rfl
        · split <;> rfl
    · rfl
  have complete : ∀ x : Blocks, (completeGroup x).nav.table = x.nav.table := fun x => by
    unfold completeGroup
    split <;> rfl
  have opens : ∀ x : Blocks, (openGroup x).nav.table = x.nav.table := fun x => by
    unfold openGroup
    split <;> rfl
  have watch : (watchProceed b).nav.table = b.nav.table := by
    unfold watchProceed
    split
    · split_ifs <;> rfl
    · rfl
  rw [followPassage, selectAspects_nav, grant, complete, opens, watch]

theorem settleRound_table (s0 b : Blocks) : (settleRound s0 b).nav.table = b.nav.table := by
  have before : (followSpan s0 (roadAdvance (advanceSequence (followConditions (noteLeaves s0 (followLeaves b)))))).nav =
      b.nav :=
    sameBut_trans (sameBut_mono (followLeaves_sameBut b) (by decide))
      (sameBut_trans (sameBut_mono (noteLeaves_sameBut s0 _) (by decide))
        (sameBut_trans (sameBut_mono (followConditions_sameBut _) (by decide))
          (sameBut_trans (sameBut_mono (advanceSequence_sameBut _) (by decide))
            (sameBut_join (roadAdvance_sameBut _) (followSpan_sameBut s0 _)
              (hs := [.sil, .rsq, .slu, .barriers, .leaves, .brakes, .locks, .seq, .par, .pend, .notes])
              (by decide) (by decide))))) .nav (by decide)
  rw [settleRound, show (followAspects _).nav = _ from followAspects_sameBut _ .nav (by decide), followPassage_table, before]

theorem iter_table {f : Blocks → Blocks} (h : ∀ b, (f b).nav.table = b.nav.table) :
    ∀ (n : Nat) (b : Blocks), (iter f n b).nav.table = b.nav.table
  | 0, _ => rfl
  | n + 1, b => (iter_table h n (f b)).trans (h b)

theorem settleOperate_table (s0 b : Blocks) : (settleOperate s0 b).nav.table = b.nav.table := by
  unfold settleOperate
  exact iter_table (settleRound_table s0) 4 b

theorem adopt_table (o : AdoptOutcome) (b : Blocks) : (adopt o b).nav.table = b.nav.table := by
  have lamps : ∀ x, (adoptionNotes (beginLamps x)).nav = x.nav := fun x =>
    (adoptionNotes_sameBut (beginLamps x) .nav (by decide)).trans (beginLamps_sameBut x .nav (by decide))
  have entered : (adoptionEntered o b).nav = (adoptionSet o b).nav := adoptionEntered_sameBut o b .nav (by decide)
  have machinery : (adoptMachinery b).nav = b.nav := adoptMachinery_sameBut b .nav (by decide)
  have cleared : (adoptionSet o b).nav = (adoptMachinery b).nav.cleared := rfl
  rw [adopt_eq, lamps, selectAspects_nav, entered, cleared, machinery]
  rfl

theorem settle_table (s0 b : Blocks) : (settle s0 b).nav.table = b.nav.table := by
  unfold settle
  split
  · rfl
  · split
    · rw [settleOperate_table, adopt_table]
    · rfl
  · exact settleOperate_table s0 b

theorem following_sameBut (s0 b : Blocks) : SameBut [.sil, .slu, .rsq, .barriers, .leaves, .brakes, .locks, .seq, .nav,
    .par, .pend, .presence, .notes] b (following s0 b) := by
  intro f hf
  have same := settle_sameBut s0 b f hf
  cases f
  case notes => exact absurd (by decide) hf
  all_goals exact same

/-! ## The notes of changed leaves (R127) -/

/-- A leaf that changed is noted once. -/
theorem noteLeaf_notes (s0 b : Blocks) (l : LeafId) : (∃ more, (noteLeaf s0 b l).notes = b.notes ++ more) ∧
    ∀ n, n ∈ (noteLeaf s0 b l).notes ↔ n ∈ b.notes ∨ n = .leaf l ∧ leafMoved s0 b l = true := by
  unfold noteLeaf
  split
  next h =>
    simp only [Bool.and_eq_true] at h
    exact ⟨⟨[.leaf l], rfl⟩, fun n => by simp [note, h.1]⟩
  next h =>
    refine ⟨⟨[], (List.append_nil _).symm⟩, fun n => ⟨.inl, ?_⟩⟩
    rintro (hn | ⟨rfl, hm⟩)
    · exact hn
    · simpa [hm] using h

theorem leafMoved_noteLeaf (s0 b : Blocks) (k l : LeafId) : leafMoved s0 (noteLeaf s0 b k) l = leafMoved s0 b l := by
  unfold leafMoved
  rw [show (noteLeaf s0 b k).leaves = _ from noteLeaf_sameBut s0 b k .leaves (by decide),
    show (noteLeaf s0 b k).brakes = _ from noteLeaf_sameBut s0 b k .brakes (by decide)]

theorem noteLeaves_notes (s0 b : Blocks) : (∃ more, (noteLeaves s0 b).notes = b.notes ++ more) ∧
    ∀ n, n ∈ (noteLeaves s0 b).notes ↔ n ∈ b.notes ∨ ∃ l, n = .leaf l ∧ leafMoved s0 b l = true := by
  obtain ⟨⟨more, hmore⟩, north⟩ := noteLeaf_notes s0 b .north
  obtain ⟨⟨rest, hrest⟩, south⟩ := noteLeaf_notes s0 (noteLeaf s0 b .north) .south
  have both : noteLeaves s0 b = noteLeaf s0 (noteLeaf s0 b .north) .south := rfl
  rw [both]
  refine ⟨⟨more ++ rest, by rw [hrest, hmore, List.append_assoc]⟩, fun n => ?_⟩
  rw [south, north, leafMoved_noteLeaf, exists_leaf, or_assoc]

/-! ## The span's part of a round (R14, R15, R16) -/

theorem completePhase_rest {b : Blocks} (h : phaseDone b b.sil.phase = false) : completePhase b = b :=
  if_neg (by simp [h])

/-- A phase whose work is complete moves on; a raise or a lowering ends its order. -/
theorem completePhase_done {b : Blocks} (h : phaseDone b b.sil.phase = true) : (completePhase b).sil =
    { b.sil with
      phase := nextPhase b.sil.phase
      order := if b.sil.phase = .raising ∨ b.sil.phase = .lowering then none else b.sil.order } := by
  rw [completePhase, if_pos h]
  dsimp only
  split <;> rfl

theorem completeRecovery_rest {b : Blocks} (h : ¬ (b.sil.order = some .recoveryLower ∧ bothSeated b = true)) :
    completeRecovery b = b := if_neg h

theorem rederive_rest {b : Blocks} (h : b.sil.phase ≠ .recovery) : rederive b = b := if_neg fun hb => h hb.1

theorem rederiveAt_rest (s0 : Blocks) {b : Blocks} (h : b.sil.phase ≠ .recovery) : rederiveAt s0 b = b := by
  rw [rederiveAt, rederive_rest h, ite_self]

theorem leafInMotion_eq_false_iff (b : Blocks) (l : LeafId) : leafInMotion b l = false ↔
    leafState b l = .seated ∨ leafState b l = .parked ∨ leafState b l = .fault := by
  rw [← Bool.not_eq_true, leafInMotion_iff]
  cases leafState b l <;> simp

theorem endShort_noMovement {b : Blocks} (h : movementPhase b = false) : endShort b = b :=
  if_neg (by simp [h])

/-- A movement that a leaf still runs, or that another waits for, does not end. -/
theorem endShort_runs {b : Blocks} (h : (∃ l, leafInMotion b l = true) ∨ waitingMovement b ≠ none) : endShort b = b := by
  refine if_neg fun hb => ?_
  simp only [Bool.and_eq_true, Bool.not_eq_true', anyLeaf_eq_false_iff, Option.isNone_iff_eq_none] at hb
  obtain ⟨⟨⟨-, rests⟩, waits⟩, -⟩ := hb
  obtain ⟨l, hl⟩ | hw := h
  · exact absurd hl (by simp [rests l])
  · exact hw waits

/-- A movement that stands still without its completion holds the bridge, where it is not held already. -/
theorem endShort_short {b : Blocks} (hm : movementPhase b = true) (hl : ∀ l, leafInMotion b l = false)
    (hw : waitingMovement b = none) : (endShort b).sil =
      { b.sil with held := true, cause := if b.sil.held then b.sil.cause else .movementShort } := by
  have rests : anyLeaf (leafInMotion b) = false := (anyLeaf_eq_false_iff _).mpr hl
  rw [endShort, hm, rests, hw]
  cases hh : b.sil.held
  · rfl
  · rw [if_neg (by simp), if_pos rfl, ← hh]

/-- The end of a movement touches neither phase nor order. -/
theorem endShort_keeps (b : Blocks) : (endShort b).sil.phase = b.sil.phase ∧ (endShort b).sil.order = b.sil.order := by
  unfold endShort
  split <;> exact ⟨rfl, rfl⟩

/-- Once the order is gone and no movement or re-derivation is at hand nothing more follows. -/
theorem spanTail_rest (s0 : Blocks) {b : Blocks} (ho : b.sil.order = none) (hr : b.sil.phase ≠ .raising)
    (hl : b.sil.phase ≠ .lowering) (hp : b.sil.phase ≠ .recovery) :
    endShort (rederiveAt s0 (completeRecovery b)) = b := by
  rw [completeRecovery_rest (by simp [ho]), rederiveAt_rest s0 hp, endShort_noMovement]
  simp [movementPhase, ho, hr, hl]

/-- A phase whose work is complete, and that ends its order or has none. -/
theorem followSpan_completes (s0 : Blocks) {b : Blocks} {p : SpanPhase} (h : phaseDone b b.sil.phase = true)
    (hn : nextPhase b.sil.phase = p) (ho : b.sil.phase = .raising ∨ b.sil.phase = .lowering ∨ b.sil.order = none)
    (hr : p ≠ .raising) (hl : p ≠ .lowering) (hp : p ≠ .recovery) :
    (followSpan s0 b).sil = { b.sil with phase := p, order := none } := by
  have order : (if b.sil.phase = .raising ∨ b.sil.phase = .lowering then none else b.sil.order) = none := by
    split
    · rfl
    · next hne => exact ho.elim (fun h => absurd (.inl h) hne) fun ho => ho.elim (fun h => absurd (.inr h) hne) id
  have done : (completePhase b).sil = { b.sil with phase := p, order := none } := by
    rw [completePhase_done h, hn, order]
  rw [followSpan, spanTail_rest s0 (by rw [done]) (by rw [done]; exact hr) (by rw [done]; exact hl)
    (by rw [done]; exact hp), done]

/-- Outside RECOVERY, with no completion at hand, a span's part is the test whether a movement ends short. -/
theorem followSpan_movement (s0 : Blocks) {b : Blocks} (hd : phaseDone b b.sil.phase = false)
    (hp : b.sil.phase ≠ .recovery) (ho : ¬ (b.sil.order = some .recoveryLower ∧ bothSeated b = true)) :
    followSpan s0 b = endShort b := by
  rw [followSpan, completePhase_rest hd, completeRecovery_rest ho, rederiveAt_rest s0 hp]

/-! ### RECOVERY (R16) -/

/-- A moment at which RECOVERY is derived again while the road is closed. -/
def derivesAgain (s0 b : Blocks) : Prop :=
  (b.sil.order = some .recoveryLower ∧ bothSeated b = true) ∨ roadReachedClosed s0 b = true ∨
    sequenceCompleted s0 b = true

theorem rederive_sil (b : Blocks) : (rederive b).sil = { b.sil with
    phase := if b.sil.phase = .recovery ∧ b.rsq.phase = .roadClosed then derivedPhase b else b.sil.phase } := by
  unfold rederive
  split <;> rfl

/-- A derivation reads the leaves and the locks alone. -/
theorem derivedPhase_congr {a b : Blocks} (hl : b.leaves = a.leaves) (hk : b.locks = a.locks) :
    derivedPhase b = derivedPhase a := by
  unfold derivedPhase bothSeated leafState allLocks
  rw [hl, hk]

theorem derivedPhase_not_moving (b : Blocks) : derivedPhase b ≠ .raising ∧ derivedPhase b ≠ .lowering := by
  unfold derivedPhase
  split_ifs <;> exact ⟨nofun, nofun⟩

/-- A RECOVERY_LOWER that is seated ends its order, and RECOVERY is derived again where the road is closed. -/
theorem completeRecovery_seated {b : Blocks} (hp : b.sil.phase = .recovery)
    (h : b.sil.order = some .recoveryLower ∧ bothSeated b = true) : (completeRecovery b).sil = { b.sil with
      order := none
      phase := if b.rsq.phase = .roadClosed then derivedPhase b else .recovery } := by
  rw [completeRecovery, if_pos h, rederive_sil]
  simp only [setOrder, hp, true_and]
  rfl

theorem followSpan_recovery (s0 : Blocks) {b : Blocks} (hp : b.sil.phase = .recovery) :
    followSpan s0 b = endShort (rederiveAt s0 (completeRecovery b)) := by
  have done : phaseDone b b.sil.phase = false := by rw [hp]; rfl
  rw [followSpan, completePhase_rest done]

theorem sequenceCompleted_congr (s0 : Blocks) {a b : Blocks} (hs : b.seq = a.seq) (hk : b.locks = a.locks)
    (hn : b.notes = a.notes) : sequenceCompleted s0 b = sequenceCompleted s0 a := by
  unfold sequenceCompleted allLocks
  rw [hs, hk, hn]

theorem completeRecovery_reads (b : Blocks) : SameBut [.sil] b (completeRecovery b) := by
  unfold completeRecovery
  exact sameBut_ite (sameBut_trans (setOrder_sameBut none b)
    (sameBut_ite (setPhase_sameBut _ _) (sameBut_refl _ _))) (sameBut_refl _ b)

/-- The phase after RECOVERY: derived again at its moments while the road is closed, and RECOVERY otherwise. -/
theorem followSpan_recovery_phase (s0 : Blocks) {b : Blocks} (hp : b.sil.phase = .recovery) :
    (b.rsq.phase = .roadClosed → derivesAgain s0 b → (followSpan s0 b).sil.phase = derivedPhase b) ∧
    (b.rsq.phase ≠ .roadClosed ∨ ¬ derivesAgain s0 b → (followSpan s0 b).sil.phase = .recovery) := by
  have leaves : (completeRecovery b).leaves = b.leaves := completeRecovery_reads b .leaves (by decide)
  have locks : (completeRecovery b).locks = b.locks := completeRecovery_reads b .locks (by decide)
  have road : (completeRecovery b).rsq = b.rsq := completeRecovery_reads b .rsq (by decide)
  have derived : derivedPhase (completeRecovery b) = derivedPhase b := derivedPhase_congr leaves locks
  have moments : (roadReachedClosed s0 (completeRecovery b) || sequenceCompleted s0 (completeRecovery b)) =
      (roadReachedClosed s0 b || sequenceCompleted s0 b) := by
    rw [sequenceCompleted_congr s0 (completeRecovery_reads b .seq (by decide)) locks
      (completeRecovery_reads b .notes (by decide)), roadReachedClosed, roadReachedClosed, road]
  have first : (completeRecovery b).sil.phase =
      if (b.sil.order = some .recoveryLower ∧ bothSeated b = true) ∧ b.rsq.phase = .roadClosed then derivedPhase b
      else .recovery := by
    by_cases h : b.sil.order = some .recoveryLower ∧ bothSeated b = true
    · rw [completeRecovery_seated hp h]
      simp [h]
    · rw [completeRecovery_rest h, hp, if_neg fun hb => h hb.1]
  have last : (followSpan s0 b).sil.phase = (rederiveAt s0 (completeRecovery b)).sil.phase := by
    rw [followSpan_recovery s0 hp]
    exact (endShort_keeps _).1
  rw [last, rederiveAt, moments, derivesAgain, ← Bool.or_eq_true, ← or_comm]
  constructor
  · intro hr hd
    split
    · rw [rederive_sil, road, derived, first]
      by_cases hs : b.sil.order = some .recoveryLower ∧ bothSeated b = true <;> simp [hr, hs]
    · next hm => rw [first, if_pos ⟨hd.resolve_left hm, hr⟩]
  · intro h
    split
    · next hm =>
      have hr : b.rsq.phase ≠ .roadClosed := h.elim id fun hd => absurd (.inl hm) hd
      rw [rederive_sil, road, derived, first]
      simp [hr]
    · rw [first, if_neg]
      rintro ⟨ho, hr⟩
      exact h.elim (absurd hr) fun hd => hd (.inr ho)

/-- The derived phase, clause by clause. -/
theorem derivedPhase_reads (b : Blocks) :
    ((∀ l, leafState b l = .seated) → (∀ k, (b.locks.get k).state = .driven) → derivedPhase b = .closed) ∧
    ((∀ l, leafState b l = .seated) → (∀ k, (b.locks.get k).state = .withdrawn) → derivedPhase b = .unlocked) ∧
    (¬ ((∀ l, leafState b l = .seated) ∧ ((∀ k, (b.locks.get k).state = .driven) ∨
      ∀ k, (b.locks.get k).state = .withdrawn)) → derivedPhase b = .recovery) := by
  have both : ∀ x : LockState, (bothSeated b && allLocks b x) = true ↔
      (∀ l, leafState b l = .seated) ∧ ∀ k, (b.locks.get k).state = x := fun x => by
    rw [Bool.and_eq_true, bothSeated_iff, allLocks_iff]
  refine ⟨fun hs hd => if_pos ((both _).mpr ⟨hs, hd⟩), fun hs hw => ?_, fun h => ?_⟩
  · have driven : ¬ ∀ k, (b.locks.get k).state = .driven := fun hd => by
      have one := (hd .centre).symm.trans (hw .centre)
      cases one
    rw [derivedPhase, if_neg fun h => driven ((both _).mp h).2, if_pos ((both _).mpr ⟨hs, hw⟩)]
  · rw [derivedPhase, if_neg fun hd => h ⟨((both _).mp hd).1, .inl ((both _).mp hd).2⟩,
      if_neg fun hw => h ⟨((both _).mp hw).1, .inr ((both _).mp hw).2⟩]

/-- Whether a sequence has completed, as R16 says it. -/
theorem sequenceCompleted_iff (s0 b : Blocks) : sequenceCompleted s0 b = true ↔
    (b.seq.status = .complete ∧ (s0.seq.status ≠ .complete ∨ .lock .centre ∈ b.notes)) ∨
      (b.seq.sequence = .withdraw ∧ (∀ k, (b.locks.get k).state = .withdrawn) ∧
        ¬ ∀ k, (s0.locks.get k).state = .withdrawn) ∨
      (b.seq.sequence = .drive ∧ (∀ k, (b.locks.get k).state = .driven) ∧ ¬ ∀ k, (s0.locks.get k).state = .driven) := by
  simp only [← allLocks_iff]
  unfold sequenceCompleted
  cases b.seq.sequence <;> simp

theorem rederiveAt_sil (s0 b : Blocks) : (rederiveAt s0 b).sil.order = b.sil.order ∧
    (rederiveAt s0 b).sil.held = b.sil.held ∧ (rederiveAt s0 b).sil.cause = b.sil.cause := by
  unfold rederiveAt
  split
  · rw [rederive_sil]
    exact ⟨rfl, rfl, rfl⟩
  · exact ⟨rfl, rfl, rfl⟩

/-- A RECOVERY_LOWER that stands still off its seats ends short, whatever is derived. -/
theorem followSpan_recovery_short (s0 : Blocks) {b : Blocks} (hp : b.sil.phase = .recovery)
    (ho : b.sil.order = some .recoveryLower) (hs : bothSeated b = false) (hl : ∀ l, leafInMotion b l = false)
    (hw : waitingMovement b = none) : (followSpan s0 b).sil.held = true ∧
      (followSpan s0 b).sil.order = some .recoveryLower ∧
      (followSpan s0 b).sil.cause = if b.sil.held then b.sil.cause else .movementShort := by
  obtain ⟨order, held, cause⟩ := rederiveAt_sil s0 b
  have leaves : (rederiveAt s0 b).leaves = b.leaves := rederiveAt_sameBut s0 b .leaves (by decide)
  have ended : followSpan s0 b = endShort (rederiveAt s0 b) := by
    rw [followSpan_recovery s0 hp, completeRecovery_rest (by simp [hs])]
  have short := by
    refine endShort_short (b := rederiveAt s0 b) (by simp [movementPhase, order, ho]) (fun l => ?_) ?_
    · rw [leafInMotion, leafState, leaves]
      exact hl l
    · rw [waitingMovement, leaves]
      exact hw
  rw [ended, short, ← held, ← cause]
  exact ⟨rfl, order.trans ho, rfl⟩

/-- A RECOVERY_LOWER that is seated ends its order in RECOVERY, and the HELD flag stays. -/
theorem followSpan_recovery_seated (s0 : Blocks) {b : Blocks} (hp : b.sil.phase = .recovery)
    (h : b.sil.order = some .recoveryLower ∧ bothSeated b = true) :
    (followSpan s0 b).sil.order = none ∧ (followSpan s0 b).sil.held = b.sil.held := by
  obtain ⟨order, held, -⟩ := rederiveAt_sil s0 (completeRecovery b)
  rw [completeRecovery_seated hp h] at order held
  have phase : (followSpan s0 b).sil.phase ≠ .raising ∧ (followSpan s0 b).sil.phase ≠ .lowering := by
    by_cases hr : b.rsq.phase = .roadClosed
    · rw [(followSpan_recovery_phase s0 hp).1 hr (.inl h)]
      exact derivedPhase_not_moving b
    · rw [(followSpan_recovery_phase s0 hp).2 (.inl hr)]
      exact ⟨nofun, nofun⟩
  have ended := followSpan_recovery s0 hp
  rw [ended, (endShort_keeps _).1] at phase
  rw [ended, endShort_noMovement (by simp [movementPhase, order, phase])]
  exact ⟨order, held⟩

/-- In UNLOCKED a RECOVERY_LOWER that is seated ends its order and nothing else. -/
theorem followSpan_unlocked_seated (s0 : Blocks) {b : Blocks} (hp : b.sil.phase = .unlocked)
    (h : b.sil.order = some .recoveryLower ∧ bothSeated b = true) :
    (followSpan s0 b).sil = { b.sil with order := none } := by
  rw [followSpan, completePhase_rest (by rw [hp]; rfl), completeRecovery, if_pos h, rederive_rest (by simp [hp]),
    rederiveAt_rest s0 (by simp [hp]), endShort_noMovement]
  · rfl
  · simp [movementPhase, hp]

/-- Settles O5: an event on an idle receiver ends in its own postings; what follows leaves the inputs alone; and the
span's part of a round is read off phase by phase. -/
theorem eventsFollowAndPost : Obligations.EventsFollowAndPost := by
  refine ⟨eventLeads_eventEnd, fun s0 b => ⟨following_sameBut s0 b, settle_table s0 b, fun hm => ?_, fun hm => ?_, rfl,
    rfl, rfl, rfl⟩, ?notes, ?span⟩
  · rw [following, settle_config s0 b hm]
  · simp only [following, settle, hm]
    rfl
  case notes =>
    intro s0 b c same
    obtain ⟨more, members⟩ := noteLeaves_notes s0 b
    have moved : ∀ l, leafMoved s0 b l = true ↔ ¬ same l := fun l => by
      simp only [leafMoved, same, Bool.or_eq_true, bne_iff_ne]
      tauto
    refine ⟨noteLeaves_sameBut s0 b, more, fun n => ?_⟩
    simp only [c, members, moved]
  case span =>
    intro s0 b c atRest seated arrived locks reached completes movesTo shortOf derives
    have hseated : bothSeated b = true ↔ seated := bothSeated_iff b
    have still : (∀ l, atRest l) → ∀ l, leafInMotion b l = false := fun h l => (leafInMotion_eq_false_iff b l).mpr (h l)
    have moves : (∃ l, ¬ atRest l) → ∃ l, leafInMotion b l = true := fun ⟨l, hl⟩ =>
      ⟨l, by_contra fun h => hl ((leafInMotion_eq_false_iff b l).mp (Bool.eq_false_of_not_eq_true h))⟩
    have noRecovery : ¬ seated → ¬ (b.sil.order = some .recoveryLower ∧ bothSeated b = true) := fun h hb =>
      h (hseated.mp hb.2)
    have hcompletes : sequenceCompleted s0 b = true ↔ completes := sequenceCompleted_iff s0 b
    have derived : derives (derivedPhase b) := derivedPhase_reads b
    have short : ∀ {p : SpanPhase}, b.sil.phase = p → phaseDone b p = false → p ≠ .recovery →
        ¬ (b.sil.order = some .recoveryLower ∧ bothSeated b = true) → movementPhase b = true → (∀ l, atRest l) →
        waitingMovement b = none → shortOf := fun hp hd hr ho hm ha hw => by
      show (followSpan s0 b).sil = _
      rw [followSpan_movement s0 (hp ▸ hd) (hp ▸ hr) ho, endShort_short hm (still ha) hw]
    refine ⟨followSpan_sameBut s0 b, fun ho => ⟨fun hp hr => ?_, fun hp hr => ?_, fun hp hk => ?_, fun hp hk => ?_⟩,
      fun hp ha _ => ?_, fun hp hs => ?_, fun hp ha ho hl hw => ?_, fun hp hs hl hw => ?_, fun hp ho hs hl hw => ?_,
      fun hp ho => ⟨fun hs => ?_, fun hs hl hw => ?_, fun hs h => ?_⟩, fun hp ho hs => ⟨?_, ?_, fun hr => ?_, fun hr => ?_⟩,
      fun hp hr h0 => ?_, fun hp hr hc => ?_, fun hp h0 hc ho => ?_, fun hp hr => ?_⟩
    · exact followSpan_completes s0 (by simp [hp, phaseDone, hr]) (by rw [hp]; rfl) (.inr (.inr ho)) nofun nofun nofun
    · exact followSpan_completes s0 (by simp [hp, phaseDone, hr]) (by rw [hp]; rfl) (.inr (.inr ho)) nofun nofun nofun
    · exact followSpan_completes s0 (by rw [hp]; exact (allLocks_iff b _).mpr hk) (by rw [hp]; rfl) (.inr (.inr ho))
        nofun nofun nofun
    · exact followSpan_completes s0 (by rw [hp]; exact (allLocks_iff b _).mpr hk) (by rw [hp]; rfl) (.inr (.inr ho))
        nofun nofun nofun
    · exact followSpan_completes s0 (by rw [hp]; exact (bothArrived_iff b).mpr ha) (by rw [hp]; rfl) (.inl hp)
        nofun nofun nofun
    · exact followSpan_completes s0 (by rw [hp]; exact hseated.mpr hs) (by rw [hp]; rfl) (.inr (.inl hp))
        nofun nofun nofun
    · exact short hp (Bool.eq_false_of_not_eq_true (mt (bothArrived_iff b).mp ha)) nofun (fun h => ho h.1)
        (by simp [movementPhase, hp]) hl hw
    · exact short hp (Bool.eq_false_of_not_eq_true (mt hseated.mp hs)) nofun (noRecovery hs)
        (by simp [movementPhase, hp]) hl hw
    · exact followSpan_recovery_short s0 hp ho (Bool.eq_false_of_not_eq_true (mt hseated.mp hs)) (still hl) hw
    · exact followSpan_unlocked_seated s0 hp ⟨ho, hseated.mpr hs⟩
    · exact short hp rfl nofun (noRecovery hs) (by simp [movementPhase, ho]) hl hw
    · show (followSpan s0 b).sil = b.sil
      rw [followSpan_movement s0 (by rw [hp]; rfl) (by rw [hp]; nofun) (noRecovery hs), endShort_runs (h.imp_left moves)]
    · exact (followSpan_recovery_seated s0 hp ⟨ho, hseated.mpr hs⟩).1
    · exact (followSpan_recovery_seated s0 hp ⟨ho, hseated.mpr hs⟩).2
    · exact ((followSpan_recovery_phase s0 hp).1 hr (.inl ⟨ho, hseated.mpr hs⟩)).symm ▸ derived
    · exact (followSpan_recovery_phase s0 hp).2 (.inl hr)
    · have closed : roadReachedClosed s0 b = true := by simp [roadReachedClosed, hr, h0]
      exact ((followSpan_recovery_phase s0 hp).1 hr (.inr (.inl closed))).symm ▸ derived
    · exact ((followSpan_recovery_phase s0 hp).1 hr (.inr (.inr (hcompletes.mpr hc)))).symm ▸ derived
    · refine (followSpan_recovery_phase s0 hp).2 (.inr ?_)
      rintro (h | h | h)
      · exact ho ⟨h.1, hseated.mp h.2⟩
      · simp [roadReachedClosed, h0] at h
      · exact hc (hcompletes.mp h)
    · exact (followSpan_recovery_phase s0 hp).2 (.inl hr)

end Sys2Proof.Proofs

/-! RESTART and RECONFIGURE (R5, R6): the report queue after a taking that empties it, and the reset records. -/

namespace Sys2Proof.Proofs

open Sys2Proof.Machine Sys2Proof.Safety

/-! ## Posting keeps RQ in order (R204) -/

/-- The key of an entry of RQ. -/
def entryKey (e : Entry) : ReportKind × Nat := (e.kind, e.subject)

theorem post_keys (rq : List Entry) (p : Posting) : (post rq p).map entryKey =
    if (p.kind, p.subject) ∈ rq.map entryKey then rq.map entryKey else rq.map entryKey ++ [(p.kind, p.subject)] := by
  have stands : (rq.any fun e => e.hasKey p.kind p.subject) = true ↔ (p.kind, p.subject) ∈ rq.map entryKey := by
    simp only [List.any_eq_true, hasKey_iff, List.mem_map, entryKey]
  by_cases h : (p.kind, p.subject) ∈ rq.map entryKey
  · rw [if_pos h, post_present rq p (stands.mpr h), List.map_map]
    refine List.map_congr_left fun e _ => ?_
    rw [Function.comp_apply]
    split <;> rfl
  · rw [if_neg h, post_absent rq p (Bool.eq_false_of_not_eq_true (mt stands.mp h)), List.map_append]
    rfl

theorem queueOk_post {rq : List Entry} (p : Posting) (h : QueueOk rq) : QueueOk (post rq p) := by
  obtain ⟨keys, counts⟩ := h
  constructor
  · have nodup : ((post rq p).map entryKey).Nodup := by
      rw [post_keys]
      split
      · exact keys
      next hn => exact List.Nodup.append keys (List.nodup_singleton _) (by simpa using hn)
    exact nodup
  · intro e he
    unfold post at he
    split at he
    · obtain ⟨x, hx, rfl⟩ := List.mem_map.mp he
      have count := counts x hx
      unfold countOk at count ⊢
      split
      · simp only [Entry.again]
        omega
      · exact count
    · rcases List.mem_append.mp he with he | he
      · exact counts e he
      · rw [List.mem_singleton.mp he]
        exact ⟨le_refl 1, Nat.le_of_ble_eq_true rfl⟩

theorem queueOk_foldl_post (ps : List Posting) {rq : List Entry} (h : QueueOk rq) : QueueOk (ps.foldl post rq) := by
  induction ps generalizing rq with
  | nil => exact h
  | cons p ps ih => exact ih (queueOk_post p h)

/-- A key that stands in RQ stays there, and a posting leaves its key. -/
theorem mem_foldl_post (ps : List Posting) {rq : List Entry} {k : ReportKind × Nat}
    (h : k ∈ rq.map entryKey ∨ ∃ p ∈ ps, (p.kind, p.subject) = k) : k ∈ (ps.foldl post rq).map entryKey := by
  induction ps generalizing rq with
  | nil => simpa using h
  | cons p ps ih =>
    rw [List.foldl_cons]
    refine ih ?_
    rcases h with h | ⟨q, hq, hk⟩
    · left
      rw [post_keys]
      split
      · exact h
      · exact List.mem_append_left _ h
    · rcases List.mem_cons.mp hq with rfl | hq
      · left
        rw [post_keys, hk]
        split
        next hm => exact hm
        next => simp
      · exact .inr ⟨q, hq, hk⟩

/-! ## A taking that resets (R5, R6, R204) -/

/-- The state after a RESTART or RECONFIGURE taken on a quiet port, where nothing follows in the blocks it leaves. -/
def resetTaken (s : State) (f : Frame) (t : Taken) : State where
  pending := s.pending
  blocks := { t.blocks with notes := [] }
  cpt := { receiver := .hunting, buffer := [], replies := [], tx := some (replyFrame f t.result), overrun := 0 }
  rq := (eventPostings { atTaking s with iq := t.blocks.iq, notes := [] } t.blocks).foldl post []

theorem validFrame_resets (f : Frame) (s : State) (h : QuietPort s) (hr : (takeRequest f (atTaking s)).resets = true)
    (hs : ∀ s0, settle s0 (takeRequest f (atTaking s)).blocks = (takeRequest f (atTaking s)).blocks) :
    validFrame f s = resetTaken s f (takeRequest f (atTaking s)) := by
  obtain ⟨hb, hp, ht⟩ := h
  simp only [atTaking] at hr hs
  simp [validFrame, receive, beginEvent, hb, hp, ht, finishEvent, takeWaiting, takeHead, Event.settled, startReply,
    postReports, startReport, resetTaken, atTaking, Config.replyCapacity, Config.receiveCapacity, hr, hs, postIf,
    Event.toState]

/-! ## The reset records (R5, R50, R52) -/

/-- The blocks of a reset before the reports of the links are noted. -/
def restartSet (b : Blocks) : Blocks := resetInputs (resetLinks (restartKept b))

theorem restartBlocks_sameBut_set (b : Blocks) : SameBut [.notes] (restartSet b) (restartBlocks b) :=
  sameBut_foldl (noteLinkReset b) (noteLinkReset_sameBut b) Link.all _

theorem restartBlocks_links (b : Blocks) (l : Link) : (restartBlocks b).links.get l = (b.links.get l).restart := by
  have links : (restartBlocks b).links = (restartSet b).links := restartBlocks_sameBut_set b .links (by decide)
  rw [links]
  cases l <;> rfl

theorem restartBlocks_leaves (b : Blocks) (l : LeafId) : (restartBlocks b).leaves.get l = (b.leaves.get l).restart := by
  have leaves : (restartBlocks b).leaves = (restartKept b).leaves := restartBlocks_sameBut_kept b .leaves (by decide)
  rw [leaves]
  cases l <;> rfl

theorem restartBlocks_notes (b : Blocks) : (restartBlocks b).notes =
    Link.all.map fun l => .link l (b.links.get l).windowFrames (b.links.get l).windowErrors := rfl

theorem restartBlocks_iq (b : Blocks) :
    (restartBlocks b).iq = { recs := Vector.ofFn (resetRec (restartKept b)), lastGood := ⟨none, none, none⟩ } := by
  have iq : (restartBlocks b).iq = (restartSet b).iq := restartBlocks_sameBut_set b .iq (by decide)
  rw [iq]
  rfl

theorem restartBlocks_rec (b : Blocks) (i : Fin 41) : (restartBlocks b).iq.recs.get i = resetRec b i := by
  rw [restartBlocks_iq]
  exact Vector.getElem_ofFn _

theorem inputEntryAt_machinery (b : Blocks) {i : Fin 41} (h : 24 ≤ i.val) : inputEntryAt b i = none :=
  dif_neg (not_lt.mpr h)

/-- A record with a source keeps its first qualification pending. -/
theorem resetRec_sourced {b : Blocks} {i : Fin 41} (h : 24 ≤ i.val ∨ ∃ p : Position, sourcePosition b i = some p) :
    resetRec b i = { qualified := failSafe (inputAt i), freshness := .failsafe, pendingFirst := true } := by
  unfold resetRec
  dsimp only
  split
  next => rfl
  next hi =>
    obtain ⟨p, hp⟩ := h.resolve_left hi
    unfold sourcePosition at hp
    split at hp
    next entry => rw [entry]; rfl
    next => cases hp

/-- A record that is benign has nothing pending and stands FRESH. -/
theorem resetRec_benign {b : Blocks} {i : Fin 41} (hi : i.val < 24)
    (h : inputEntryAt b i = some .notFitted ∨ (inputEntryAt b i = none ∧ isOptional (inputAt i) = true)) :
    resetRec b i = { qualified := false, freshness := .fresh, pendingFirst := false } := by
  unfold resetRec
  dsimp only
  rw [if_neg (not_le.mpr hi)]
  obtain entry | ⟨entry, optional⟩ := h
  · rw [entry]
    rfl
  · rw [entry, optional]
    rfl

/-- A mandatory input without an entry stands FAILSAFE with nothing pending. -/
theorem resetRec_unassigned {b : Blocks} {i : Fin 41} (hi : i.val < 24) (entry : inputEntryAt b i = none)
    (mandatory : isOptional (inputAt i) = false) :
    resetRec b i = { qualified := failSafe (inputAt i), freshness := .failsafe, pendingFirst := false } := by
  unfold resetRec
  dsimp only
  rw [if_neg (not_le.mpr hi), entry, mandatory]
  rfl

/-- A record that has no source and is not benign is that of a mandatory field input without an entry. -/
theorem unassigned_of_neither {b : Blocks} {i : Fin 41}
    (hs : ¬ (24 ≤ i.val ∨ ∃ p : Position, sourcePosition b i = some p))
    (hb : ¬ (i.val < 24 ∧ (inputEntryAt b i = some .notFitted ∨
      (inputEntryAt b i = none ∧ isOptional (inputAt i) = true)))) :
    i.val < 24 ∧ inputEntryAt b i = none ∧ isOptional (inputAt i) = false := by
  have hi : i.val < 24 := not_le.mp fun h => hs (.inl h)
  cases entry : inputEntryAt b i with
  | none => exact ⟨hi, rfl, Bool.eq_false_of_not_eq_true fun h => hb ⟨hi, .inr ⟨entry, h⟩⟩⟩
  | some e =>
    cases e with
    | notFitted => exact absurd ⟨hi, .inl entry⟩ hb
    | position p n x y => exact absurd (.inr ⟨p, by simp [sourcePosition, entry]⟩) hs

/-- The links of a reset hunt, so adoption is not ready, and in CONFIG nothing follows. -/
theorem settle_reset (s0 : Blocks) {b c : Blocks} (h : SameBut [.sil] (restartBlocks b) c) (hm : c.sil.mode ≠ .operate) :
    settle s0 c = c := by
  have links : c.links.get .n = (b.links.get .n).restart := by
    rw [← restartBlocks_links]
    exact congrArg (PerLink.get · .n) (h .links (by decide))
  have waits : adoptionReady c = false := by
    simp [adoptionReady, Link.all, links, linkAligned, LinkRec.restart]
  unfold settle
  split
  · rfl
  · rw [if_neg (by simp [waits])]
  next ho => exact absurd ho hm

/-! ## The taking of RESTART and RECONFIGURE -/

theorem motionInProgress_iff (b : Blocks) : motionInProgress b = true ↔
    (∃ l : LeafId, leafState b l = .releasing ∨ leafState b l = .moving ∨ leafState b l = .stopping) ∨
      (∃ i : BarrierId, (b.barriers.get i).state = .lowering ∨ (b.barriers.get i).state = .raising) ∨
      ∃ k : LockId, (b.locks.get k).state = .withdrawing ∨ (b.locks.get k).state = .driving := by
  have barriers : (BarrierId.all.any fun i => barrierTravelling (b.barriers.get i)) = true ↔
      ∃ i : BarrierId, (b.barriers.get i).state = .lowering ∨ (b.barriers.get i).state = .raising := by
    rw [← not_iff_not, not_exists, forall_barrier, Bool.not_eq_true]
    simp [BarrierId.all, barrierTravelling]
  have locks : (LockId.all.any fun k => lockTravelling (b.locks.get k)) = true ↔
      ∃ k : LockId, (b.locks.get k).state = .withdrawing ∨ (b.locks.get k).state = .driving := by
    simp only [anyLock_iff, lockTravelling_iff, or_comm]
  rw [motionInProgress, Bool.or_eq_true, Bool.or_eq_true, barriers, locks, anyLeaf_iff, or_assoc]
  simp only [leafInMotion_iff]

section
variable {tag : Octet} {b : Blocks} (hm : b.sil.mode = .operate)
include hm

theorem takeRestart_moves (h : motionInProgress b = true) :
    takeRestart [] b = refuse (.notPermitted .motionInProgress) b := by
  simp [takeRestart, inMode, hm, h]

theorem takeRestart_still (h : motionInProgress b = false) :
    takeRestart [] b = { blocks := restart b, result := .ok [], resets := true } := by
  simp [takeRestart, inMode, hm, h]

theorem takeReconfigure_phase (h : b.sil.phase ≠ .traffic) : takeReconfigure [] b = refuse .wrongPhase b := by
  simp [takeReconfigure, inMode, hm, h]

theorem takeReconfigure_moves (hp : b.sil.phase = .traffic) (h : motionInProgress b = true) :
    takeReconfigure [] b = refuse (.notPermitted .motionInProgress) b := by
  simp [takeReconfigure, inMode, hm, hp, h]

theorem takeReconfigure_still (hp : b.sil.phase = .traffic) (h : motionInProgress b = false) :
    takeReconfigure [] b = { blocks := reconfigure b, result := .ok [], resets := true } := by
  simp [takeReconfigure, inMode, hm, hp, h]

end

/-- A reset that ends OPERATE posts its SPAN report. -/
theorem spanPosting_of_mode {s0 b : Blocks} (h : s0.sil.mode ≠ b.sil.mode) :
    ({ kind := .span, subject := 0, body := spanFields b } : Posting) ∈ eventPostings s0 b := by
  have changed : spanChanged s0 b = true := by simp [spanChanged, h]
  exact List.mem_flatten.mpr ⟨spanPosting s0 b, by simp [spanPosting], by simp [spanPosting, postIf, changed]⟩

/-- A frame that resets, on a quiet port. -/
theorem exec_resets {i : Instr} {f : Frame} {s : State} {c : Blocks} {r : Result} (hf : requestFrame i = some f)
    (hl : f.body.length ≤ 64) (hq : QuietPort s)
    (ht : takeRequest f (atTaking s) = { blocks := c, result := r, resets := true }) (hc : ∀ s0, settle s0 c = c) :
    exec i s = .next (resetTaken s f { blocks := c, result := r, resets := true }) := by
  rw [exec_requestFrame hf, consoleRequest_valid _ _ _ _ hl, validFrame_resets _ s hq (by rw [ht]) (by rw [ht]; exact hc),
    ht]

/-- Settles O21: nothing follows in the reset blocks, so the taking's own records and postings stand. -/
theorem restartAndReconfigureReset : Obligations.RestartAndReconfigureReset := by
  intro tag s hq hm b motion turnedAway
  have moves : motionInProgress b = true ↔ motion := motionInProgress_iff b
  refine ⟨fun h => ?_, fun hp => ?_, fun hp h => ?_, fun h => ?_⟩
  · exact exec_answered rfl (Nat.zero_le _) hq (takeRestart_moves hm (moves.mpr h))
  · exact exec_answered rfl (Nat.zero_le _) hq (takeReconfigure_phase hm hp)
  · exact exec_answered rfl (Nat.zero_le _) hq (takeReconfigure_moves hm hp (moves.mpr h))
  intro kept
  have still : motionInProgress b = false := Bool.eq_false_of_not_eq_true (mt moves.mp h)
  have holds : ∀ (f : Frame) (r : Result) (c : Blocks), SameBut [.sil] (restartBlocks b) c → c.sil.mode ≠ .operate →
      kept (resetTaken s f { blocks := c, result := r, resets := true }) := by
    intro f r c hc mode
    have fields : SameBut [.sil, .links, .iq, .notes] (restartKept b) c :=
      sameBut_trans (sameBut_mono (restartBlocks_sameBut_kept b) (by decide)) (sameBut_mono hc (by decide))
    have iq : c.iq = (restartBlocks b).iq := hc .iq (by decide)
    have notes : c.notes = (restartBlocks b).notes := hc .notes (by decide)
    refine ⟨rfl, rfl, rfl, rfl, fields .par (by decide), fields .pend (by decide), fields .cat (by decide),
      fields .nav (by decide), fields .slu (by decide), fields .rsq (by decide), fields .barriers (by decide),
      fields .locks (by decide), fields .brakes (by decide), fields .seq (by decide), fields .wmn (by decide),
      fields .presence (by decide), fun l => ?_, fun l => ?_, ?_, fun i => ?_, ?_, ?_, ?_⟩
    · exact (congrArg (PerLink.get · l) (hc .links (by decide))).trans (restartBlocks_links b l)
    · exact (congrArg (PerLeaf.get · l) (hc .leaves (by decide))).trans (restartBlocks_leaves b l)
    · show c.iq.lastGood = _
      rw [iq, restartBlocks_iq]
    · intro sourced benign
      have record : c.iq.recs.get i = resetRec b i := by rw [iq, restartBlocks_rec]
      refine ⟨fun hs => record.trans (resetRec_sourced hs), fun hb => record.trans (resetRec_benign hb.1 hb.2),
        fun hs hb => record.trans ?_⟩
      obtain ⟨hi, entry, mandatory⟩ := unassigned_of_neither hs hb
      exact resetRec_unassigned hi entry mandatory
    · have noted : { c with notes := (Link.all.map fun l =>
          Note.link l (b.links.get l).windowFrames (b.links.get l).windowErrors) } = c := by
        rw [← restartBlocks_notes, ← notes]
      exact congrArg (fun x => (eventPostings { b with iq := c.iq, notes := [] } x).foldl post []) noted.symm
    · have posted := mem_foldl_post _ (rq := []) (.inr ⟨_, spanPosting_of_mode
        (s0 := { b with iq := c.iq, notes := [] }) (b := c) (hm.trans_ne mode.symm), rfl⟩)
      obtain ⟨e, he, key⟩ := List.mem_map.mp posted
      exact ⟨e, he, congrArg Prod.fst key⟩
    · exact queueOk_foldl_post _ ⟨List.nodup_nil, nofun⟩
  have reset : ∀ c, SameBut [.sil] (restartBlocks b) c → c.sil.mode ≠ .operate → ∀ s0, settle s0 c = c :=
    fun c hc mode s0 => settle_reset s0 hc mode
  have entered : SameBut [.sil] (restartBlocks b) (restart b) := sil_sameBut _ _
  refine ⟨⟨_, exec_resets rfl (Nat.zero_le _) hq (takeRestart_still hm still) (reset _ entered nofun),
    holds _ _ _ entered nofun, rfl, ?_⟩, fun hp => ⟨_, exec_resets rfl (Nat.zero_le _) hq (takeReconfigure_still hm hp still)
    (reset _ (sameBut_refl _ _) nofun), holds _ _ _ (sameBut_refl _ _) nofun, rfl, ?_⟩⟩
  · rfl
  · rfl

end Sys2Proof.Proofs

/-! The road sequencer: its calls barrier by barrier, ROAD_CLOSE and ROAD_OPEN (R9, R10, R88 to R97). -/

namespace Sys2Proof.Proofs

open Sys2Proof.Machine Sys2Proof.Safety

/-! ## Commands to one barrier (R102) -/

theorem barrier_all (i : BarrierId) : i ∈ BarrierId.all := by cases i <;> decide

theorem perBarrier_ext {α : Type} {r q : PerBarrier α} (h : ∀ i, r.get i = q.get i) : r = q := by
  obtain ⟨h1, h2, h3, h4⟩ := forall_barrier.mp h
  cases r
  cases q
  simp only [PerBarrier.get] at h1 h2 h3 h4
  rw [h1, h2, h3, h4]

theorem setBarrier_get_other (i : BarrierId) {j : BarrierId} (r : BarrierRec) (b : Blocks) (h : j ≠ i) :
    (setBarrier i r b).barriers.get j = b.barriers.get j := PerBarrier.get_set_other _ _ _ _ h

theorem setBarrier_get (i : BarrierId) (r : BarrierRec) (b : Blocks) : (setBarrier i r b).barriers.get i = r :=
  PerBarrier.get_set_same _ _ _

/-- A command touches its own barrier alone. -/
theorem barrierCommand_get_other (i : BarrierId) {j : BarrierId} (c : BarrierCmd) (b : Blocks) (h : j ≠ i) :
    (barrierCommand i c b).barriers.get j = b.barriers.get j := by
  have move : ∀ c, (barrierMove i c b).barriers.get j = b.barriers.get j := fun c => by
    unfold barrierMove
    dsimp only
    split
    case h_7 => split <;> exact setBarrier_get_other i _ b h
    all_goals exact setBarrier_get_other i _ b h
  have stop : (barrierStop i b).barriers.get j = b.barriers.get j := by
    unfold barrierStop
    dsimp only
    split
    case h_5 => rfl
    all_goals exact setBarrier_get_other i _ b h
  cases c
  · exact move .lower
  · exact move .raise
  · exact stop

/-- What a command makes of a barrier follows from its record and its switches. -/
theorem barrierCommand_congr {a b : Blocks} (i : BarrierId) (c : BarrierCmd) (hq : b.iq = a.iq)
    (hr : b.barriers.get i = a.barriers.get i) :
    (barrierCommand i c b).barriers.get i = (barrierCommand i c a).barriers.get i := by
  have record : ∀ f, inputRec b f = inputRec a f := fun f => by rw [inputRec, inputRec, hq]
  have proven : provenPosition b i = provenPosition a i := by
    unfold provenPosition barrierFresh isFresh barrierShows made
    rw [record, record]
  have consistent : barrierConsistent b i = barrierConsistent a i := by
    unfold barrierConsistent barrierFresh isFresh barrierShows made
    rw [record, record]
  have move : ∀ c, (barrierMove i c b).barriers.get i = (barrierMove i c a).barriers.get i := fun c => by
    unfold barrierMove
    dsimp only
    rw [hr, proven, consistent]
    split
    case h_7 => split <;> rw [setBarrier_get, setBarrier_get]
    all_goals rw [setBarrier_get, setBarrier_get]
  have stop : (barrierStop i b).barriers.get i = (barrierStop i a).barriers.get i := by
    unfold barrierStop
    dsimp only
    rw [hr]
    split
    case h_5 => exact hr
    all_goals rw [setBarrier_get, setBarrier_get]
  cases c
  · exact move .lower
  · exact move .raise
  · exact stop

/-- A barrier that is UP, or LOWERING, or DOWN, turns under the other call. -/
theorem barrierCommand_lower_up {i : BarrierId} {b : Blocks} (h : (b.barriers.get i).state = .up) :
    (barrierCommand i .lower b).barriers.get i = (b.barriers.get i).travel .lower := by
  simp [barrierCommand, barrierMove, h, barrierDone]

theorem barrierCommand_raise_turns {i : BarrierId} {b : Blocks}
    (h : (b.barriers.get i).state = .lowering ∨ (b.barriers.get i).state = .down) :
    (barrierCommand i .raise b).barriers.get i = (b.barriers.get i).travel .raise := by
  rcases h with h | h <;> simp [barrierCommand, barrierMove, h, barrierDone, barrierTravel]

/-- A barrier that is DOWN stays DOWN under a call to LOWER. -/
theorem barrierCommand_lower_down {i : BarrierId} {b : Blocks} (h : (b.barriers.get i).state = .down) :
    ((barrierCommand i .lower b).barriers.get i).state = .down := by
  simp [barrierCommand, barrierMove, h, barrierDone]

theorem barrierStop_lowering {i : BarrierId} {b : Blocks} (h : (b.barriers.get i).state = .lowering) :
    (barrierStop i b).barriers.get i = { b.barriers.get i with
      command := .stop, state := .stopped, timer := (b.barriers.get i).timer.halt } := by
  simp [barrierStop, h]

/-! ## One barrier after another -/

/-- An operation that writes one barrier, from that barrier's own record and from what is no barrier. -/
structure OwnBarrier (op : Blocks → BarrierId → Blocks) : Prop where
  frame : ∀ b i, SameBut [.barriers] b (op b i)
  other : ∀ b i j, j ≠ i → (op b i).barriers.get j = b.barriers.get j
  own : ∀ a b i, SameBut [.barriers] a b → b.barriers.get i = a.barriers.get i →
    (op b i).barriers.get i = (op a i).barriers.get i

section
variable {op : Blocks → BarrierId → Blocks} (ho : OwnBarrier op)
include ho

theorem foldl_untouched {i : BarrierId} (is : List BarrierId) (b : Blocks) (h : i ∉ is) :
    (is.foldl op b).barriers.get i = b.barriers.get i := by
  induction is generalizing b with
  | nil => rfl
  | cons j is ih =>
    obtain ⟨hj, hr⟩ := not_or.mp (mt List.mem_cons.mpr h)
    exact (ih (op b j) hr).trans (ho.other b j i hj)

/-- Over a list without repetition each barrier comes out as the operation on it alone leaves it. -/
theorem foldl_get {i : BarrierId} (is : List BarrierId) (b : Blocks) (hn : is.Nodup) (h : i ∈ is) :
    (is.foldl op b).barriers.get i = (op b i).barriers.get i := by
  induction is generalizing b with
  | nil => cases h
  | cons j is ih =>
    obtain ⟨hj, hr⟩ := List.nodup_cons.mp hn
    rw [List.foldl_cons]
    rcases List.mem_cons.mp h with rfl | hi
    · exact foldl_untouched ho is (op b i) hj
    · have ne : i ≠ j := fun e => hj (e ▸ hi)
      exact (ih (op b j) hr hi).trans (ho.own b (op b j) i (ho.frame b j) (ho.other b j i ne))

/-- Over all four barriers. -/
theorem OwnBarrier.all_get (b : Blocks) (i : BarrierId) :
    (BarrierId.all.foldl op b).barriers.get i = (op b i).barriers.get i :=
  foldl_get ho BarrierId.all b (by decide) (barrier_all i)

end

/-! ## The calls of a phase (R88) -/

theorem ownBarrier_issueCall : OwnBarrier issueCall where
  frame := issueCall_sameBut
  other b i j h := by
    unfold issueCall
    split
    · rfl
    · dsimp only
      split_ifs
      · rfl
      · rfl
      · rfl
      · exact barrierCommand_get_other i _ b h
  own a b i hs hr := by
    have hq : b.iq = a.iq := hs .iq (by decide)
    have road : b.rsq = a.rsq := hs .rsq (by decide)
    have sil : b.sil = a.sil := hs .sil (by decide)
    unfold issueCall staysDown
    rw [road, sil, hr]
    split
    · exact hr
    · dsimp only
      split_ifs
      · exact hr
      · exact hr
      · exact hr
      · exact barrierCommand_congr i _ hq hr

theorem ownBarrier_stopIfLowering : OwnBarrier stopIfLowering where
  frame := stopIfLowering_sameBut
  other b i j h := by
    unfold stopIfLowering
    split
    · exact barrierCommand_get_other i .stop b h
    · rfl
  own a b i hs hr := by
    unfold stopIfLowering
    rw [hr]
    split
    · exact barrierCommand_congr i .stop (hs .iq (by decide)) hr
    · exact hr

theorem stopIfLowering_get (b : Blocks) (i : BarrierId) : (stopIfLowering b i).barriers.get i =
    if (b.barriers.get i).state = .lowering then (barrierCommand i .stop b).barriers.get i else b.barriers.get i := by
  unfold stopIfLowering
  split <;> rfl

/-- The call of the present phase to one barrier. -/
theorem issueCall_get {b : Blocks} {i : BarrierId} {c : BarrierCmd}
    (hc : roadCall b.rsq.phase b.rsq.exitPaused i = some c) : (issueCall b i).barriers.get i =
      if ((b.barriers.get i).command = c ∧ (b.barriers.get i).state ≠ .fault) ∨ (c = .raise ∧ staysDown b i = true) ∨
          (b.sil.held = true ∧ c ≠ .stop)
      then b.barriers.get i else (barrierCommand i c b).barriers.get i := by
  unfold issueCall
  rw [hc]
  dsimp only
  by_cases called : (b.barriers.get i).command = c ∧ (b.barriers.get i).state ≠ .fault
  · rw [if_pos called, if_pos (.inl called)]
  by_cases done : c = .raise ∧ staysDown b i = true
  · rw [if_neg called, if_pos done, if_pos (.inr (.inl done))]
  by_cases held : b.sil.held = true ∧ c ≠ .stop
  · rw [if_neg called, if_neg done, if_pos held, if_pos (.inr (.inr held))]
  · rw [if_neg called, if_neg done, if_neg held, if_neg fun h => h.elim called fun h => h.elim done held]

theorem staysDown_iff (b : Blocks) (i : BarrierId) : staysDown b i = true ↔
    b.sil.phase = .recovery ∧ closureRunning b.rsq.phase = true ∧ (b.barriers.get i).state = .down := by
  simp [staysDown, and_assoc]

/-- What the entry to a phase that calls a barrier makes of it. -/
theorem enterPhase_barrier {p : RoadPhase} {b : Blocks} {i : BarrierId} {c : BarrierCmd}
    (hc : roadCall p (b.rsq.exitPaused && closureRunning p) i = some c) : (enterPhase p b).barriers.get i =
      if ((b.barriers.get i).command = c ∧ (b.barriers.get i).state ≠ .fault) ∨
          (c = .raise ∧ b.sil.phase = .recovery ∧ closureRunning p = true ∧ (b.barriers.get i).state = .down) ∨
          (b.sil.held = true ∧ c ≠ .stop)
      then b.barriers.get i else (barrierCommand i c b).barriers.get i := by
  have call : roadCall (showPhase p .none b).rsq.phase (showPhase p .none b).rsq.exitPaused i = some c := hc
  rw [enterPhase, ownBarrier_issueCall.all_get, issueCall_get call]
  exact if_congr (or_congr_right (or_congr_left (and_congr_right fun _ => staysDown_iff _ i))) rfl
    (barrierCommand_congr i c rfl rfl)

/-- A phase that calls a barrier to the command it is under leaves it alone. -/
theorem enterPhase_called {p : RoadPhase} {b : Blocks} {i : BarrierId} {c : BarrierCmd}
    (hc : roadCall p (b.rsq.exitPaused && closureRunning p) i = some c) (h : (b.barriers.get i).command = c)
    (hf : (b.barriers.get i).state ≠ .fault) : (enterPhase p b).barriers.get i = b.barriers.get i := by
  rw [enterPhase_barrier hc, if_pos (.inl ⟨h, hf⟩)]

/-- Under the HELD flag no call to LOWER or RAISE is issued. -/
theorem enterPhase_held {p : RoadPhase} {b : Blocks} {i : BarrierId} {c : BarrierCmd}
    (hc : roadCall p (b.rsq.exitPaused && closureRunning p) i = some c) (hs : c ≠ .stop) (h : b.sil.held = true) :
    (enterPhase p b).barriers.get i = b.barriers.get i := by
  rw [enterPhase_barrier hc, if_pos (.inr (.inr ⟨h, hs⟩))]

/-- A call to another command turns a barrier that is not taken as done. -/
theorem enterPhase_turns {p : RoadPhase} {b : Blocks} {i : BarrierId} {c : BarrierCmd}
    (hc : roadCall p (b.rsq.exitPaused && closureRunning p) i = some c) (h : (b.barriers.get i).command ≠ c)
    (hh : b.sil.held = false)
    (hd : ¬ (c = .raise ∧ b.sil.phase = .recovery ∧ closureRunning p = true ∧ (b.barriers.get i).state = .down)) :
    (enterPhase p b).barriers.get i = (barrierCommand i c b).barriers.get i := by
  rw [enterPhase_barrier hc, if_neg]
  rintro (hb | hb | hb)
  · exact h hb.1
  · exact hd hb
  · simp [hh] at hb

theorem enterPhase_rsq (p : RoadPhase) (b : Blocks) : (enterPhase p b).rsq = b.rsq.enter p .none :=
  sameBut_foldl issueCall issueCall_sameBut BarrierId.all (showPhase p .none b) .rsq (by decide)

theorem enterPhase_slu (p : RoadPhase) (b : Blocks) :
    (enterPhase p b).slu = { b.slu with aspects := ⟨roadAspect p, roadAspect p⟩ } :=
  sameBut_foldl issueCall issueCall_sameBut BarrierId.all (showPhase p .none b) .slu (by decide)

/-- The complement test reads the lamps and the overrides. -/
theorem complementFailing_congr {a b : Blocks} (hl : b.slu.lamps = a.slu.lamps) (ho : b.sil.overrides = a.sil.overrides) :
    complementFailing b = complementFailing a := by
  unfold complementFailing complementPasses holdsComplement lampRec
  rw [hl, ho]

/-! ## ROAD_CLOSE (R9, R89, R97) -/

theorem closeFromAlert_enters {b : Blocks} (hc : complementFailing b = .none) (hh : b.sil.held = false) :
    closeFromAlert b = enterPhase .entryLowering b := by
  simp only [closeFromAlert, hc, hh]

/-- A closure from ALERT that cannot start down stands in RED_WARN at RUN_OUT. -/
theorem closeFromAlert_warns {b : Blocks} (h : ¬ (complementFailing b = .none ∧ b.sil.held = false)) :
    SameBut [.rsq] (enterPhase .redWarn b) (closeFromAlert b) ∧
      (closeFromAlert b).rsq = { b.rsq.enter .redWarn .none with
        timer := .runOut
        wait := complementFailing b
        step := if complementFailing b = .none then .enterEntryLowering else .none } := by
  have rsq := enterPhase_rsq .redWarn b
  have frame : ∀ r : Rsq, SameBut [.rsq] (enterPhase .redWarn b) { enterPhase .redWarn b with rsq := r } :=
    fun r => rsq_sameBut r _
  by_cases hc : complementFailing b = .none
  · have hh : b.sil.held = true := Bool.eq_true_of_not_eq_false fun hh => h ⟨hc, hh⟩
    have warns : closeFromAlert b = setStep .enterEntryLowering (setRoadTimer .runOut (enterPhase .redWarn b)) := by
      simp only [closeFromAlert, hc, hh]
    rw [warns, hc, if_pos rfl]
    exact ⟨frame _, by rw [setStep, setRoadTimer, rsq]; rfl⟩
  · have warns : closeFromAlert b =
        setWait (complementFailing b) (setRoadTimer .runOut (enterPhase .redWarn b)) := by
      unfold closeFromAlert
      split
      · next e _ => exact absurd e hc
      · next e _ => exact absurd e hc
      · rfl
    rw [warns, if_neg hc]
    exact ⟨frame _, by rw [setWait, setRoadTimer, rsq]; rfl⟩

theorem roadCall_redWarn (x : Bool) (i : BarrierId) : roadCall .redWarn x i = some .raise := rfl

theorem roadCall_entry {i : BarrierId} (h : isEntry i = true) (x : Bool) :
    roadCall .entryLowering x i = some .lower := by rw [roadCall, if_pos h]

theorem roadCall_exit {i : BarrierId} (h : isEntry i = false) (x : Bool) :
    roadCall .entryLowering x i = some .raise := by rw [roadCall, if_neg (by simp [h])]

/-- In a closure from RECOVERY a barrier that stands DOWN stays DOWN, and one already called, or not called down, is left
alone (R9). -/
theorem closeFromAlert_down {b : Blocks} (hp : b.sil.phase = .recovery) {i : BarrierId}
    (hd : (b.barriers.get i).state = .down) : ((closeFromAlert b).barriers.get i).state = .down ∧
      ((b.barriers.get i).command = .lower ∨ isEntry i = false →
        (closeFromAlert b).barriers.get i = b.barriers.get i) := by
  have raised : ∀ {p : RoadPhase}, roadCall p (b.rsq.exitPaused && closureRunning p) i = some .raise →
      closureRunning p = true → (enterPhase p b).barriers.get i = b.barriers.get i := fun hc hr => by
    rw [enterPhase_barrier hc, if_pos (.inr (.inl ⟨rfl, hp, hr, hd⟩))]
  by_cases h : complementFailing b = .none ∧ b.sil.held = false
  · rw [closeFromAlert_enters h.1 h.2]
    cases he : isEntry i
    · have same := raised (roadCall_exit he _) rfl
      exact ⟨by rw [same, hd], fun _ => same⟩
    · by_cases hl : (b.barriers.get i).command = .lower
      · have same := enterPhase_called (roadCall_entry he _) hl (by rw [hd]; nofun)
        exact ⟨by rw [same, hd], fun _ => same⟩
      · refine ⟨?_, fun hx => absurd hx (by simp [hl])⟩
        rw [enterPhase_turns (roadCall_entry he _) hl h.2 (by rintro ⟨⟨⟩, -⟩)]
        exact barrierCommand_lower_down hd
  · have barriers : (closeFromAlert b).barriers = (enterPhase .redWarn b).barriers :=
      (closeFromAlert_warns h).1 .barriers (by decide)
    have same := raised (roadCall_redWarn _ i) rfl
    rw [barriers]
    exact ⟨by rw [same, hd], fun _ => same⟩

/-- The sequencer, the aspects and the bells after ROAD_CLOSE in ALERT. -/
theorem closeFromAlert_road (b : Blocks) : (closeFromAlert b).slu = { b.slu with aspects := ⟨.redFlash, .redFlash⟩ } ∧
    (closeFromAlert b).rsq.bells = ⟨true, true⟩ ∧ (closeFromAlert b).rsq.clearance = .idle ∧
    (closeFromAlert b).rsq.cause = .none := by
  by_cases h : complementFailing b = .none ∧ b.sil.held = false
  · rw [closeFromAlert_enters h.1 h.2, enterPhase_rsq, enterPhase_slu]
    exact ⟨rfl, rfl, rfl, rfl⟩
  · obtain ⟨same, rsq⟩ := closeFromAlert_warns h
    have slu : (closeFromAlert b).slu = _ := (same .slu (by decide)).trans (enterPhase_slu _ b)
    rw [slu, rsq]
    exact ⟨rfl, rfl, rfl, rfl⟩

/-- An accepted ROAD_CLOSE on a quiet port. -/
theorem exec_roadClose {tag : Octet} {s : State} (hq : QuietPort s) (hm : (atTaking s).sil.mode = .operate)
    (hl : (atTaking s).sil.latch = false) (hn : stationReady (atTaking s) .n = true)
    (hs : stationReady (atTaking s) .s = true) (hp : closePhase (atTaking s) = true) :
    exec (.roadClose tag) s = .next (answered s { kind := 0x10#8, tag := tag, body := [] } (closeRoad (atTaking s))
      (.ok [])) :=
  exec_accepted rfl (effect := closeRoad) (permit := permitClose) rfl hq hm hp
    (by simp [permitFails, permitClose, condFails, hl, hn, hs])

/-- Settles O25: a closure enters AMBER, ENTRY_LOWERING or RED_WARN, and the entry calls each barrier by its own record. -/
theorem roadCloseStartsTheClosure : Obligations.RoadCloseStartsTheClosure := by
  intro tag s hq b f hm hl hn hs
  refine ⟨fun hp hr => ?_, fun hp hr => ?_⟩
  · have closed : closeRoad b = enterAmber (setPhase .closing b) := by
      rw [closeRoad, if_neg (by rw [hp]; nofun), if_pos hr]
    refine ⟨_, exec_roadClose hq hm hl hn hs ((closePhase_iff b).mpr (.inl hp)), ?_⟩
    rw [closed]
    have frame : SameBut [.rsq, .slu, .barriers] (setPhase .closing b) (enterAmber (setPhase .closing b)) :=
      enterAmber_sameBut _
    refine ⟨frame .sil (by decide), ?_, enterPhase_slu .amber _, fun i hc hf => ?_, ?_⟩
    · rw [enterAmber, setRoadTimer, enterPhase_rsq]
      simp [Rsq.enter, closureRunning, roadBell]
    · exact enterPhase_called (p := .amber) (b := setPhase .closing b) (c := .raise) rfl hc hf
    · exact sameBut_join (setPhase_sameBut .closing b) frame (by decide) (by decide)
  · obtain ⟨a, closed, sil, same⟩ : ∃ a, closeRoad b = closeFromAlert a ∧
        a.sil = { b.sil with phase := if b.sil.phase = .traffic then .closing else .recovery } ∧ SameBut [.sil] b a := by
      rcases hp with hp | hp
      · refine ⟨setPhase .closing b, ?_, by rw [if_pos hp]; rfl, setPhase_sameBut _ b⟩
        rw [closeRoad, if_neg (by rw [hp]; nofun), if_neg (by rw [hr]; nofun)]
      · refine ⟨b, if_pos hp, ?_, sameBut_refl _ b⟩
        rw [hp, if_neg nofun, ← hp]
    have phase : closePhase b = true := (closePhase_iff b).mpr (hp.imp_right fun h => ⟨h, by rw [hr]; decide⟩)
    refine ⟨_, exec_roadClose hq hm hl hn hs phase, ?_⟩
    rw [closed]
    have frame : SameBut [.rsq, .slu, .barriers] a (closeFromAlert a) := closeFromAlert_sameBut a
    have barriers : a.barriers = b.barriers := same .barriers (by decide)
    have held : a.sil.held = b.sil.held := by rw [sil]
    have failing : complementFailing a = complementFailing b :=
      complementFailing_congr (congrArg Slu.lamps (same .slu (by decide))) (by rw [sil])
    obtain ⟨aspects, bells, clearance, cause⟩ := closeFromAlert_road a
    rw [← failing, ← held, ← barriers, ← show a.slu = b.slu from same .slu (by decide)]
    refine ⟨(frame .sil (by decide)).trans sil, aspects, bells, clearance, cause, fun hc hh => ?_, fun hn => ?_,
      fun hb i hd => closeFromAlert_down (by rw [sil, hb]; rfl) hd, sameBut_join same frame (by decide) (by decide)⟩
    · rw [closeFromAlert_enters hc hh, enterPhase_rsq]
      refine ⟨rfl, rfl, rfl, rfl, fun i he hu hraise => ?_, fun i he hraise hf => enterPhase_called (roadCall_exit he _) hraise hf⟩
      rw [enterPhase_turns (roadCall_entry he _) (by rw [hraise]; nofun) hh (by rintro ⟨⟨⟩, -⟩), barrierCommand_lower_up hu]
      rfl
    · rw [(closeFromAlert_warns hn).2]
      exact ⟨rfl, rfl, rfl, rfl⟩

end Sys2Proof.Proofs

/-! ROAD_OPEN: the reopening of a closed road and the abandonment of a closure (R10, R94, R95, R97). -/

namespace Sys2Proof.Proofs

open Sys2Proof.Machine Sys2Proof.Safety

/-! ## The barriers at an abandonment (R95) -/

theorem abandonReady_get (b : Blocks) (i : BarrierId) : (abandonReady b).barriers.get i =
    if b.sil.held = true ∧ (b.barriers.get i).state = .lowering then (barrierCommand i .stop b).barriers.get i
    else b.barriers.get i := by
  unfold abandonReady
  by_cases hh : b.sil.held = true
  · rw [if_pos hh, ownBarrier_stopIfLowering.all_get, stopIfLowering_get]
    simp only [hh, true_and]
  · rw [if_neg hh, if_neg fun h => hh h.1]

theorem barriersAre_iff (b : Blocks) (s : BarrierState) : barriersAre b false s = true ↔
    b.barriers.northExit.state = s ∧ b.barriers.southExit.state = s := by
  simp [barriersAre, BarrierId.all, isEntry, PerBarrier.get]

/-- The stop of the LOWERING barriers takes none to UP or from it. -/
theorem abandonReady_up (b : Blocks) (i : BarrierId) :
    ((abandonReady b).barriers.get i).state = .up ↔ (b.barriers.get i).state = .up := by
  rw [abandonReady_get]
  split
  next h =>
    have stopped : (barrierCommand i .stop b).barriers.get i = _ := barrierStop_lowering h.2
    rw [stopped, h.2]
    exact ⟨nofun, nofun⟩
  next => rfl

theorem abandonReady_exits (b : Blocks) : barriersAre (abandonReady b) false .up = true ↔
    b.barriers.northExit.state = .up ∧ b.barriers.southExit.state = .up :=
  (barriersAre_iff _ _).trans (and_congr (abandonReady_up b .northExit) (abandonReady_up b .southExit))

/-! ## Entry to ROAD_OPEN (R94, R96) -/

/-- The blocks as ROAD_OPEN is entered, before the ALERT that may follow. -/
def roadOpened (b : Blocks) : Blocks := enterPhase .roadOpen { b with sil := { b.sil with overrides := [] } }

theorem enterRoadOpen_eq (b : Blocks) : enterRoadOpen b =
    if lossStands (roadOpened b) then enterAlert (alertCause (roadOpened b)) (roadOpened b) else roadOpened b := rfl

theorem roadOpened_iq (b : Blocks) : (roadOpened b).iq = b.iq := enterPhase_sameBut .roadOpen _ .iq (by decide)

/-- The seats and the locks are read from the inputs. -/
theorem losses_congr {a b : Blocks} (h : b.iq = a.iq) : lossStands b = lossStands a ∧ alertCause b = alertCause a := by
  have made : ∀ f, made b f = made a f := fun f => by rw [made, made, inputRec, inputRec, h]
  have seat : seatLossStands b = seatLossStands a := by simp only [seatLossStands, made]
  have lock : lockLossStands b = lockLossStands a := by simp only [lockLossStands, made]
  exact ⟨by rw [lossStands, lossStands, seat, lock], by rw [alertCause, alertCause, seat, lock]⟩

theorem roadBell_alertCause (b : Blocks) : roadBell .alert (alertCause b) = true := by
  unfold alertCause
  split <;> rfl

/-- The road after an entry to ROAD_OPEN: open, or in the ALERT that a loss sets off. -/
theorem enterRoadOpen_road (b : Blocks) :
    let lost := lossStands b = true
    (enterRoadOpen b).rsq = { phase := if lost then .alert else .roadOpen, timer := .idle, clearance := .idle,
                              wait := .none, cause := if lost then alertCause b else .none, step := .none,
                              exitPaused := false, bells := if lost then ⟨true, true⟩ else ⟨false, false⟩ } ∧
      (enterRoadOpen b).slu = { b.slu with aspects := if lost then ⟨.redFlash, .redFlash⟩ else ⟨.dark, .dark⟩ } := by
  intro lost
  obtain ⟨loss, cause⟩ := losses_congr (roadOpened_iq b)
  have rsq : (roadOpened b).rsq = b.rsq.enter .roadOpen .none := enterPhase_rsq .roadOpen _
  have slu : (roadOpened b).slu = { b.slu with aspects := ⟨.dark, .dark⟩ } := enterPhase_slu .roadOpen _
  rw [enterRoadOpen_eq, loss, cause]
  by_cases h : lossStands b = true
  · rw [if_pos h]
    simp only [lost, h, if_true, enterAlert, showPhase, rsq, slu, Rsq.enter, roadBell_alertCause]
    simp [closureRunning, roadAspect]
  · rw [if_neg h]
    simp only [lost, h, rsq, slu, Rsq.enter]
    simp [closureRunning, roadBell]

/-- Each barrier at an entry to ROAD_OPEN: called to RAISE unless it is under that call or the HELD flag is set. -/
theorem enterRoadOpen_barrier (b : Blocks) (i : BarrierId) : (enterRoadOpen b).barriers.get i =
    if ((b.barriers.get i).command = .raise ∧ (b.barriers.get i).state ≠ .fault) ∨ b.sil.held = true
    then b.barriers.get i else (barrierCommand i .raise b).barriers.get i := by
  have alert : (enterRoadOpen b).barriers = (roadOpened b).barriers := by
    rw [enterRoadOpen_eq]
    split <;> rfl
  rw [alert, roadOpened, enterPhase_barrier (c := .raise) rfl]
  refine if_congr (or_congr_right ⟨fun h => h.elim (fun h => nomatch h.2.2.1) And.left, fun h => .inr ⟨h, nofun⟩⟩) rfl
    (barrierCommand_congr i .raise rfl rfl)

/-! ## ROAD_OPEN (R10) -/

theorem roadCall_exitRaising_entry {i : BarrierId} (h : isEntry i = true) (x : Bool) :
    roadCall .exitRaising x i = some .lower := by rw [roadCall, if_pos h]

theorem roadCall_exitRaising_exit {i : BarrierId} (h : isEntry i = false) (x : Bool) :
    roadCall .exitRaising x i = some .raise := by rw [roadCall, if_neg (by simp [h])]

/-- A raising phase calls every barrier down or up, never to a stop. -/
theorem roadCall_raising {p : RoadPhase} (hp : p = .exitRaising ∨ p = .entryRaising) (x : Bool) (i : BarrierId) :
    ∃ c, roadCall p x i = some c ∧ c ≠ .stop := by
  rcases hp with rfl | rfl
  · cases h : isEntry i
    · exact ⟨_, roadCall_exitRaising_exit h x, nofun⟩
    · exact ⟨_, roadCall_exitRaising_entry h x, nofun⟩
  · exact ⟨.raise, rfl, nofun⟩

theorem enterPhase_raising_held {p : RoadPhase} (hp : p = .exitRaising ∨ p = .entryRaising) {b : Blocks}
    (hh : b.sil.held = true) (i : BarrierId) : (enterPhase p b).barriers.get i = b.barriers.get i := by
  obtain ⟨c, hc, hs⟩ := roadCall_raising hp (b.rsq.exitPaused && closureRunning p) i
  exact enterPhase_held hc hs hh

/-- A barrier under LOWER that is LOWERING or DOWN turns up where its phase calls it to RAISE. -/
theorem enterPhase_raises {p : RoadPhase} {b : Blocks} {i : BarrierId}
    (hc : roadCall p (b.rsq.exitPaused && closureRunning p) i = some .raise) (hp : closureRunning p = false)
    (hh : b.sil.held = false) (hl : (b.barriers.get i).command = .lower)
    (hs : (b.barriers.get i).state = .lowering ∨ (b.barriers.get i).state = .down) : (enterPhase p b).barriers.get i =
      { b.barriers.get i with command := .raise, state := .raising, timer := .running 0 } := by
  rw [enterPhase_turns hc (by rw [hl]; nofun) hh fun h => by simp [hp] at h, barrierCommand_raise_turns hs]
  rfl

/-- An accepted ROAD_OPEN on a quiet port. -/
theorem exec_roadOpen {tag : Octet} {s : State} (hq : QuietPort s) (hm : (atTaking s).sil.mode = .operate)
    (hc : permitFails (atTaking s) permitRoadOpen = none) (hp : openPhase (atTaking s) = true) :
    exec (.roadOpen tag) s = .next (answered s { kind := 0x11#8, tag := tag, body := [] } (openRoad (atTaking s))
      (.ok [])) :=
  exec_accepted rfl (effect := openRoad) (permit := permitRoadOpen) rfl hq hm hp hc

/-- The phase of an abandonment in which barriers are called down, and its record. -/
theorem abandonClosure_record {b : Blocks}
    (hr : b.rsq.phase = .entryLowering ∨ b.rsq.phase = .clearance ∨ b.rsq.phase = .exitLowering) :
    ∃ p, (p = .exitRaising ∨ p = .entryRaising) ∧
      (b.barriers.northExit.state = .up ∧ b.barriers.southExit.state = .up ↔ p = .entryRaising) ∧
      abandonClosure b = enterPhase p (abandonReady b) := by
  have lowering : ¬ (b.rsq.phase = .amber ∨ b.rsq.phase = .redWarn) := by
    rcases hr with hr | hr | hr <;> simp [hr]
  rw [abandonClosure_lowering lowering]
  by_cases h : barriersAre (abandonReady b) false .up = true
  · exact ⟨.entryRaising, .inr rfl, iff_of_true ((abandonReady_exits b).mp h) rfl, if_pos h⟩
  · exact ⟨.exitRaising, .inl rfl, iff_of_false (mt (abandonReady_exits b).mpr h) nofun, if_neg h⟩

/-- Settles O26: the span's and the road's phase give the phase that is entered, and the entry calls each barrier by its own
record. -/
theorem roadOpenOpensTheRoad : Obligations.RoadOpenOpensTheRoad := by
  intro tag s hq b f hm hc
  have accepted : openPhase b = true → _ := exec_roadOpen (tag := tag) hq hm hc
  refine ⟨fun hp => ?closed, fun hp hr => ?warning, fun hp hr => ?lowering, fun hp hr => ?alert⟩
  case closed =>
    have opened : openRoad b = enterPhase .exitRaising (setPhase .reopening b) := by
      rw [openRoad, if_neg (by rw [hp]; nofun), if_neg (by rw [hp]; nofun)]
    refine ⟨_, accepted ((openPhase_iff b).mpr (.inr (.inl hp))), ?_⟩
    rw [opened]
    have frame := enterPhase_sameBut .exitRaising (setPhase .reopening b)
    rw [enterPhase_rsq, enterPhase_slu]
    refine ⟨frame .sil (by decide), rfl, rfl, rfl, rfl, rfl, fun i he hl hf => ?_, fun i he hl hd hh => ?_, fun hh => ?_,
      sameBut_join (setPhase_sameBut _ b) frame (by decide) (by decide)⟩
    · exact enterPhase_called (b := setPhase .reopening b) (roadCall_exitRaising_entry he _) hl hf
    · exact enterPhase_raises (b := setPhase .reopening b) (roadCall_exitRaising_exit he _) rfl hh hl (.inr hd)
    · exact perBarrier_ext fun i => enterPhase_raising_held (.inl rfl) (b := setPhase .reopening b) hh i
  case warning =>
    have opened : openRoad b = enterRoadOpen (abandonReady (setPhase .reopening b)) := by
      rw [openRoad, if_neg (by rw [hp]; nofun), if_pos hp]
      exact abandonClosure_warning (b := setPhase .reopening b) hr
    refine ⟨_, accepted ((openPhase_iff b).mpr (.inl hp)), ?_⟩
    have ready := abandonReady_sameBut (setPhase .reopening b)
    intro lost
    have loss : lossStands (abandonReady (setPhase .reopening b)) = lossStands b ∧ _ := losses_congr (ready .iq (by decide))
    rw [opened]
    obtain ⟨rsq, slu⟩ := enterRoadOpen_road (abandonReady (setPhase .reopening b))
    rw [loss.1, loss.2] at rsq
    rw [loss.1] at slu
    refine ⟨?_, rsq, ?_, fun i => ?_, ?_⟩
    · rw [enterRoadOpen_sil, show (abandonReady (setPhase .reopening b)).sil = _ from ready .sil (by decide)]
      rfl
    · exact slu.trans (by rw [show (abandonReady (setPhase .reopening b)).slu = _ from ready .slu (by decide)]; rfl)
    · have held : (abandonReady (setPhase .reopening b)).sil.held = b.sil.held :=
        congrArg Sil.held (a₂ := (setPhase .reopening b).sil) (ready .sil (by decide))
      have before := abandonReady_get (setPhase .reopening b) i
      rw [enterRoadOpen_barrier, held]
      by_cases hh : b.sil.held = true
      · rw [if_pos (.inr hh), if_pos hh, before]
        exact if_congr (and_iff_right hh) (barrierCommand_congr i .stop rfl rfl) rfl
      · have same : (abandonReady (setPhase .reopening b)).barriers.get i = b.barriers.get i :=
          before.trans (if_neg fun h => hh h.1)
        rw [if_neg hh, same]
        exact if_congr (or_iff_left hh) rfl (barrierCommand_congr i .raise (ready .iq (by decide)) same)
    · exact sameBut_join (setPhase_sameBut _ b) (sameBut_join ready (enterRoadOpen_sameBut _)
        (hs := [.sil, .rsq, .slu, .barriers]) (by decide) (by decide)) (by decide) (by decide)
  case lowering =>
    intro exitsUp
    obtain ⟨p, raises, exits, opened⟩ := abandonClosure_record (b := setPhase .reopening b) hr
    have abandoned : openRoad b = enterPhase p (abandonReady (setPhase .reopening b)) := by
      rw [openRoad, if_neg (by rw [hp]; nofun), if_pos hp, opened]
    have stills : closureRunning p = false := by rcases raises with rfl | rfl <;> rfl
    have ready := abandonReady_sameBut (setPhase .reopening b)
    have rsq : (abandonReady (setPhase .reopening b)).rsq = b.rsq := ready .rsq (by decide)
    have slu : (abandonReady (setPhase .reopening b)).slu = b.slu := ready .slu (by decide)
    have sil : (abandonReady (setPhase .reopening b)).sil = { b.sil with phase := .reopening } := ready .sil (by decide)
    have frame := enterPhase_sameBut p (abandonReady (setPhase .reopening b))
    have before := abandonReady_get (setPhase .reopening b)
    have unheld : b.sil.held = false → ∀ i, (abandonReady (setPhase .reopening b)).barriers.get i = b.barriers.get i :=
      fun hh i => (before i).trans (if_neg fun h => by simp [hh] at h)
    refine ⟨_, accepted ((openPhase_iff b).mpr (.inl hp)), ?_⟩
    rw [abandoned, enterPhase_rsq, enterPhase_slu, rsq, slu]
    refine ⟨(frame .sil (by decide)).trans sil, ?_, ?_, fun hh i hi hl hs => ?_, fun hh hx i he hl hf => ?_,
      fun hh i => ?_, ?_⟩
    · have entered : p = if exitsUp then .entryRaising else .exitRaising := by
        by_cases h : exitsUp
        · rw [if_pos h]
          exact exits.mp h
        · rw [if_neg h]
          exact raises.resolve_right (mt exits.mpr h)
      rw [← entered, Rsq.enter, stills, Bool.and_false]
      rcases raises with rfl | rfl <;> rfl
    · rcases raises with rfl | rfl <;> rfl
    · have called : roadCall p ((abandonReady (setPhase .reopening b)).rsq.exitPaused && closureRunning p) i =
          some .raise := by
        rcases raises with rfl | rfl
        · exact roadCall_exitRaising_exit (Bool.eq_false_of_not_eq_true fun he => nomatch exits.mp (hi.mp he)) _
        · rfl
      rw [enterPhase_raises called stills (by rw [sil]; exact hh) (by rw [unheld hh]; exact hl)
        (by rw [unheld hh]; exact hs), unheld hh]
    · have raising : p = .exitRaising := raises.resolve_right (mt exits.mpr hx)
      subst raising
      rw [enterPhase_called (roadCall_exitRaising_entry he _) (by rw [unheld hh]; exact hl)
        (by rw [unheld hh]; exact hf), unheld hh]
    · rw [enterPhase_raising_held raises (by rw [sil]; exact hh), before]
      refine ⟨fun ms hs ht => ?_, fun hs => if_neg fun h => hs h.2⟩
      have stopped : (barrierCommand i .stop (setPhase .reopening b)).barriers.get i = _ :=
        barrierStop_lowering (b := setPhase .reopening b) hs
      rw [if_pos ⟨hh, hs⟩, stopped, show ((setPhase .reopening b).barriers.get i).timer = _ from ht]
      rfl
    · exact sameBut_join (setPhase_sameBut _ b) (sameBut_join ready frame (hs := [.rsq, .slu, .barriers]) (by decide)
        (by decide)) (by decide) (by decide)
  case alert =>
    have opened : openRoad b = leaveAlert b := if_pos hp
    refine (accepted ((openPhase_iff b).mpr (.inr (.inr ⟨hp, hr⟩)))).trans ?_
    rw [opened]
    simp only [leaveAlert, showPhase, Rsq.enter, closureRunning, Bool.and_false]
    rfl

end Sys2Proof.Proofs

/-! The lock sequences: their steps lock by lock, LOCKS_WITHDRAW and LOCKS_DRIVE (R11, R151, R153, R154). -/

namespace Sys2Proof.Proofs

open Sys2Proof.Machine Sys2Proof.Safety

/-! ## Commands to one lock (R151) -/

theorem setLock_get_other (k : LockId) {j : LockId} (r : LockRec) (b : Blocks) (h : j ≠ k) :
    (setLock k r b).locks.get j = b.locks.get j := PerLock.get_set_other _ _ _ _ h

theorem setLock_get (k : LockId) (r : LockRec) (b : Blocks) : (setLock k r b).locks.get k = r :=
  PerLock.get_set_same _ _ _

theorem lockCommand_get_other (k : LockId) {j : LockId} (c : LockCmd) (b : Blocks) (h : j ≠ k) :
    (lockCommand k c b).locks.get j = b.locks.get j := by
  unfold lockCommand
  dsimp only
  split
  case h_5 => split <;> exact setLock_get_other k _ b h
  all_goals exact setLock_get_other k _ b h

/-- What a command makes of a lock follows from its record and its switches. -/
theorem lockCommand_congr {a b : Blocks} (k : LockId) (c : LockCmd) (hq : b.iq = a.iq)
    (hr : b.locks.get k = a.locks.get k) : (lockCommand k c b).locks.get k = (lockCommand k c a).locks.get k := by
  have shows : lockShows b k = lockShows a k := by
    unfold lockShows made inputRec
    rw [hq]
  unfold lockCommand
  dsimp only
  rw [hr, shows]
  split
  case h_5 => split <;> rw [setLock_get, setLock_get]
  all_goals rw [setLock_get, setLock_get]

theorem lockInterrupt_get (k : LockId) (b : Blocks) : (lockInterrupt k b).locks.get k = interrupted (b.locks.get k) := by
  rw [lockInterrupt_locks, PerLock.get_set_same]

theorem lockInterrupt_get_other (k : LockId) {j : LockId} (b : Blocks) (h : j ≠ k) :
    (lockInterrupt k b).locks.get j = b.locks.get j := by
  rw [lockInterrupt_locks, PerLock.get_set_other _ _ _ _ h]

/-! ## One lock after another -/

/-- An operation that writes one lock, from that lock's own record and from what is no lock. -/
structure OwnLock (op : Blocks → LockId → Blocks) : Prop where
  frame : ∀ b k, SameBut [.locks] b (op b k)
  other : ∀ b k j, j ≠ k → (op b k).locks.get j = b.locks.get j
  own : ∀ a b k, SameBut [.locks] a b → b.locks.get k = a.locks.get k → (op b k).locks.get k = (op a k).locks.get k

section
variable {op : Blocks → LockId → Blocks} (ho : OwnLock op)
include ho

theorem locks_untouched {k : LockId} (ks : List LockId) (b : Blocks) (h : k ∉ ks) :
    (ks.foldl op b).locks.get k = b.locks.get k := by
  induction ks generalizing b with
  | nil => rfl
  | cons j ks ih =>
    obtain ⟨hj, hr⟩ := not_or.mp (mt List.mem_cons.mpr h)
    exact (ih (op b j) hr).trans (ho.other b j k hj)

/-- Over a list without repetition each lock comes out as the operation on it alone leaves it. -/
theorem locks_foldl_get {k : LockId} (ks : List LockId) (b : Blocks) (hn : ks.Nodup) (h : k ∈ ks) :
    (ks.foldl op b).locks.get k = (op b k).locks.get k := by
  induction ks generalizing b with
  | nil => cases h
  | cons j ks ih =>
    obtain ⟨hj, hr⟩ := List.nodup_cons.mp hn
    rw [List.foldl_cons]
    rcases List.mem_cons.mp h with rfl | hk
    · exact locks_untouched ho ks (op b k) hj
    · have ne : k ≠ j := fun e => hj (e ▸ hk)
      exact (ih (op b j) hr hk).trans (ho.own b (op b j) k (ho.frame b j) (ho.other b j k ne))

/-- Over the locks of a step. -/
theorem step_foldl_get (b : Blocks) (s : SeqStep) (k : LockId) : ((stepLocks s).foldl op b).locks.get k =
    if k ∈ stepLocks s then (op b k).locks.get k else b.locks.get k := by
  have nodup : (stepLocks s).Nodup := by cases s <;> decide
  split
  next h => exact locks_foldl_get ho _ b nodup h
  next h => exact locks_untouched ho _ b h

end

theorem ownLock_command (c : LockCmd) : OwnLock fun b k => lockCommand k c b where
  frame b k := lockCommand_sameBut k c b
  other b k _ h := lockCommand_get_other k c b h
  own _ _ k hs hr := lockCommand_congr k c (hs .iq (by decide)) hr

/-- An operation that leaves a lock alone unless its record calls for it. -/
theorem OwnLock.when {op : Blocks → LockId → Blocks} (ho : OwnLock op) (p : LockRec → Prop) [DecidablePred p] :
    OwnLock fun b k => if p (b.locks.get k) then op b k else b where
  frame b k := sameBut_ite (ho.frame b k) (sameBut_refl _ b)
  other b k j h := by
    split
    · exact ho.other b k j h
    · rfl
  own a b k hs hr := by
    rw [hr]
    split
    · exact ho.own a b k hs hr
    · exact hr

theorem ownLock_commandUnlessFault (c : LockCmd) : OwnLock (commandUnlessFault c) := by
  have own := (ownLock_command c).when fun r => ¬ (r.state = .fault ∨ r.state = lockDone c)
  have same : (fun b k => if ¬ ((b.locks.get k).state = .fault ∨ (b.locks.get k).state = lockDone c)
      then lockCommand k c b else b) = commandUnlessFault c := by
    funext b k
    rw [commandUnlessFault, ite_not]
  exact same ▸ own

theorem ownLock_recordDrive : OwnLock recordDrive :=
  OwnLock.when (op := fun b k => setLock k { b.locks.get k with command := .drive } b)
    { frame := fun b k => setLock_sameBut k _ b
      other := fun b k _ h => setLock_get_other k _ b h
      own := fun a b k _ hr => by rw [setLock_get, setLock_get, hr] } fun r => r.state = .interrupted

theorem ownLock_driveFaultedTail : OwnLock driveFaultedTail :=
  (ownLock_command .drive).when fun r => r.state = .fault

/-! ## The advance of a sequence (R153) -/

theorem stepDone_iff (b : Blocks) (q : SeqRec) : stepDone b q = true ↔
    ∀ k ∈ stepLocks q.step, (b.locks.get k).state = lockDone (sequenceCommand q.sequence) := by
  simp [stepDone]

theorem commandStep_get (b : Blocks) (k : LockId) : (commandStep b).locks.get k =
    if k ∈ stepLocks b.seq.step ∧ (b.locks.get k).state ≠ .fault ∧
        (b.locks.get k).state ≠ lockDone (sequenceCommand b.seq.sequence)
    then (lockCommand k (sequenceCommand b.seq.sequence) b).locks.get k else b.locks.get k := by
  have each : ∀ c, (commandUnlessFault c b k).locks.get k =
      if (b.locks.get k).state = .fault ∨ (b.locks.get k).state = lockDone c then b.locks.get k
      else (lockCommand k c b).locks.get k := fun c => by
    unfold commandUnlessFault
    dsimp only
    split <;> rfl
  rw [commandStep, step_foldl_get (ownLock_commandUnlessFault _), each]
  split_ifs <;> tauto

/-- The two sequences that run. -/
def Runs (q : LockSequence) : Prop := q = .withdraw ∨ q = .drive

/-- A sequence starts at its second step where the locks of its first stand at their targets, and then its last step is done
when every lock is at its target. -/
theorem startStep_targets {q : LockSequence} (hq : Runs q) (b : Blocks) :
    (∀ k, (b.locks.get k).state = lockDone (sequenceCommand q)) ↔
      startStep b q = secondStep q ∧ ∀ k ∈ stepLocks (startStep b q),
        (b.locks.get k).state = lockDone (sequenceCommand q) := by
  rcases hq with rfl | rfl
  · by_cases h : (b.locks.get .centre).state = .withdrawn
    · simp [startStep, h, secondStep, stepLocks, forall_lock, lockDone, sequenceCommand]
    · simp [startStep, h, secondStep, forall_lock, lockDone, sequenceCommand]
  · by_cases h : (b.locks.get .northTail).state = .driven ∧ (b.locks.get .southTail).state = .driven
    · simp [startStep, h, secondStep, stepLocks, forall_lock, lockDone, sequenceCommand]
    · simp only [startStep, h, if_false, secondStep, forall_lock, lockDone, sequenceCommand]
      exact iff_of_false (fun hk => hk.2) nofun

/-- The first step of a sequence is not done where it starts there. -/
theorem startStep_undone {q : LockSequence} (hq : Runs q) {b : Blocks} (h : startStep b q ≠ secondStep q) :
    ∃ k ∈ stepLocks (startStep b q), (b.locks.get k).state ≠ lockDone (sequenceCommand q) := by
  rcases hq with rfl | rfl
  · by_cases hc : (b.locks.get .centre).state = .withdrawn
    · simp [startStep, hc, secondStep] at h
    · exact ⟨.centre, by simp [startStep, hc, stepLocks], hc⟩
  · by_cases ht : (b.locks.get .northTail).state = .driven ∧ (b.locks.get .southTail).state = .driven
    · simp [startStep, ht, secondStep] at h
    · rcases not_and_or.mp ht with hn | hs
      · exact ⟨.northTail, by simp [startStep, ht, stepLocks], hn⟩
      · exact ⟨.southTail, by simp [startStep, ht, stepLocks], hs⟩

/-- The record of a sequence at its start. -/
def startRecord (b : Blocks) (q : LockSequence) : SeqRec := { sequence := q, step := startStep b q, status := .running }

section
variable {b y : Blocks} {q : LockSequence} (hq : Runs q) (hseq : y.seq = startRecord b q)
  (ht : ∀ k, (y.locks.get k).state = lockDone (sequenceCommand q) ↔ (b.locks.get k).state = lockDone (sequenceCommand q))
include hq hseq ht

theorem advance_completes (ha : advanceAllowed y = true)
    (hall : ∀ k, (b.locks.get k).state = lockDone (sequenceCommand q)) :
    advanceSequence y = { y with seq := { startRecord b q with status := .complete } } := by
  obtain ⟨second, -⟩ := (startStep_targets hq b).mp hall
  have done : stepDone y y.seq = true := (stepDone_iff y _).mpr fun k _ => by
    rw [hseq]
    exact (ht k).mpr (hall k)
  have last : y.seq.step = secondStep y.seq.sequence := by rw [hseq]; exact second
  rw [advanceSequence, if_pos ha, if_pos last, advanceSecond, if_pos done, hseq]

theorem advance_commands (ha : advanceAllowed y = true)
    (hsome : ∃ k, (b.locks.get k).state ≠ lockDone (sequenceCommand q)) : advanceSequence y = commandStep y := by
  have undone : ¬ stepDone y y.seq = true := fun hd => by
    rw [stepDone_iff, hseq] at hd
    have atStep : ∀ k ∈ stepLocks (startStep b q), (b.locks.get k).state = lockDone (sequenceCommand q) :=
      fun k hk => (ht k).mp (hd k hk)
    by_cases second : startStep b q = secondStep q
    · obtain ⟨k, hk⟩ := hsome
      exact hk ((startStep_targets hq b).mpr ⟨second, atStep⟩ k)
    · obtain ⟨k, hk, hn⟩ := startStep_undone hq second
      exact hn (atStep k hk)
  rw [advanceSequence, if_pos ha, advanceSecond, if_neg undone, if_neg undone, ite_self]

/-- Each lock after the advance that starts a sequence: those of its step that are not at their target and not in FAULT are
commanded. -/
theorem advance_lock (ha : advanceAllowed y = true) (k : LockId) : (advanceSequence y).locks.get k =
    if k ∈ stepLocks (startStep b q) ∧ (y.locks.get k).state ≠ .fault ∧
        (b.locks.get k).state ≠ lockDone (sequenceCommand q)
    then (lockCommand k (sequenceCommand q) y).locks.get k else y.locks.get k := by
  by_cases hall : ∀ k, (b.locks.get k).state = lockDone (sequenceCommand q)
  · rw [advance_completes hq hseq ht ha hall, if_neg fun h => h.2.2 (hall k)]
  · rw [advance_commands hq hseq ht ha (not_forall.mp hall), commandStep_get, hseq]
    exact if_congr (and_congr_right fun _ => and_congr_right fun _ => not_congr (ht k)) rfl rfl

end

/-! ## The start of a sequence (R154, R159) -/

theorem startSequence_record (q : LockSequence) (b : Blocks) : (startSequence q b).seq = startRecord b q ∧
    (startSequence q b).notes = b.notes ++ (if b.seq = startRecord b q then [] else [.lock .centre]) := by
  have started : startSequence q b =
      if b.seq = startRecord b q then b else note (.lock .centre) { b with seq := startRecord b q } := rfl
  by_cases h : b.seq = startRecord b q
  · rw [started, if_pos h, if_pos h, List.append_nil]
    exact ⟨h, rfl⟩
  · rw [started, if_neg h, if_neg h]
    exact ⟨rfl, rfl⟩

theorem advanceAllowed_iff (b : Blocks) : advanceAllowed b = true ↔ b.seq.status = .running ∧ b.sil.held = false ∧
    b.sil.latch = false ∧ bothSeated b = true := by
  simp [advanceAllowed, and_assoc]

theorem advance_held {b : Blocks} (h : b.sil.held = true) : advanceSequence b = b := by
  simp [advanceSequence, advanceAllowed, h]

theorem mem_startStep {q : LockSequence} (hq : Runs q) (b : Blocks) (k : LockId) :
    k ∈ stepLocks (startStep b q) ↔ (startStep b q = .centre ↔ k = .centre) := by
  have steps : startStep b q = .centre ∨ startStep b q = .tails := by
    rcases hq with rfl | rfl
    · exact (ite_eq_or_eq _ _ _).symm
    · exact ite_eq_or_eq _ _ _
  rcases steps with h | h <;> rw [h] <;> cases k <;> simp [stepLocks]

/-- The sequence record, its posting and what stays, whatever a sequence's start has done to the locks before its advance. -/
theorem sequence_recorded {b y : Blocks} {q : LockSequence} (hq : Runs q) (hl : b.sil.latch = false)
    (hs : bothSeated b = true) (hseq : y.seq = startRecord b q)
    (hn : y.notes = b.notes ++ (if b.seq = startRecord b q then [] else [.lock .centre]))
    (hy : SameBut [.seq, .notes, .locks] b y) (ht : ∀ k, (y.locks.get k).state = lockDone (sequenceCommand q) ↔
      (b.locks.get k).state = lockDone (sequenceCommand q)) :
    (b.sil.held = false → (∀ k, (b.locks.get k).state = lockDone (sequenceCommand q)) →
      (advanceSequence y).seq = { startRecord b q with status := .complete }) ∧
    (b.sil.held = true ∨ (∃ k, (b.locks.get k).state ≠ lockDone (sequenceCommand q)) →
      (advanceSequence y).seq = startRecord b q) ∧
    (advanceSequence y).notes = b.notes ++ (if b.seq = startRecord b q then [] else [.lock .centre]) ∧
    SameBut [.seq, .locks, .notes] b (advanceSequence y) ∧
    (b.sil.held = false → ∀ k, (advanceSequence y).locks.get k =
      if (startStep b q = .centre ↔ k = .centre) ∧ (y.locks.get k).state ≠ .fault ∧
          (b.locks.get k).state ≠ lockDone (sequenceCommand q)
      then (lockCommand k (sequenceCommand q) y).locks.get k else y.locks.get k) := by
  have sil : y.sil = b.sil := hy .sil (by decide)
  have seated : bothSeated y = bothSeated b := by
    unfold bothSeated leafState
    rw [show y.leaves = b.leaves from hy .leaves (by decide)]
  have allowed : b.sil.held = false → advanceAllowed y = true := fun hh => (advanceAllowed_iff y).mpr
    ⟨by rw [hseq]; rfl, by rw [sil, hh], by rw [sil, hl], seated.trans hs⟩
  have frame := advanceSequence_sameBut y
  refine ⟨fun hh hall => ?_, fun h => ?_, (frame .notes (by decide)).trans hn,
    sameBut_join hy frame (by decide) (by decide), fun hh k => ?_⟩
  · rw [advance_completes hq hseq ht (allowed hh) hall]
  · by_cases hh : b.sil.held = true
    · rw [advance_held (by rw [sil]; exact hh), hseq]
    · have hsome := h.resolve_left hh
      rw [advance_commands hq hseq ht (allowed (Bool.eq_false_of_not_eq_true hh)) hsome]
      exact (commandStep_sameBut y .seq (by decide)).trans hseq
  · rw [advance_lock hq hseq ht (allowed hh) k]
    exact if_congr (and_congr_left fun _ => mem_startStep hq b k) rfl rfl

/-- A sequence started without a reversal. -/
theorem sequence_starts {b : Blocks} {q : LockSequence} (hq : Runs q) (hl : b.sil.latch = false)
    (hs : bothSeated b = true) (k : LockId) : (advanceSequence (startSequence q b)).locks.get k =
      if b.sil.held = false ∧ (startStep b q = .centre ↔ k = .centre) ∧ (b.locks.get k).state ≠ .fault ∧
          (b.locks.get k).state ≠ lockDone (sequenceCommand q)
      then (lockCommand k (sequenceCommand q) b).locks.get k else b.locks.get k := by
  obtain ⟨record, notes⟩ := startSequence_record q b
  have frame := startSequence_sameBut q b
  have locks : (startSequence q b).locks = b.locks := frame .locks (by decide)
  by_cases hh : b.sil.held = true
  · rw [advance_held (by rw [show (startSequence q b).sil = _ from frame .sil (by decide)]; exact hh), locks,
      if_neg fun h => by simp [hh] at h]
  · have held := Bool.eq_false_of_not_eq_true hh
    obtain ⟨-, -, -, -, each⟩ := sequence_recorded hq hl hs record notes (sameBut_mono frame (by decide))
      fun k => by rw [locks]
    rw [each held k, locks]
    exact if_congr (by rw [and_iff_right held]) (lockCommand_congr k _ (frame .iq (by decide)) (by rw [locks])) rfl

/-! ## The reversal of a withdrawal (R154) -/

theorem reverseSequence_record (b : Blocks) : (reverseSequence b).seq = startRecord b .drive ∧
    (reverseSequence b).notes = b.notes ++ (if b.seq = startRecord b .drive then [] else [.lock .centre]) := by
  have locks : SameBut [.locks] (startSequence .drive b) (reverseSequence b) := by
    unfold reverseSequence
    dsimp only
    refine sameBut_ite (sameBut_foldl _ recordDrive_sameBut _ _) ?_
    have outside := sameBut_ite (p := (startSequence .drive b).seq.step = .tails)
      (lockInterrupt_sameBut .centre (startSequence .drive b)) (sameBut_refl _ _)
    exact sameBut_ite (sameBut_trans outside (sameBut_foldl _ ownLock_driveFaultedTail.frame _ _)) outside
  obtain ⟨record, notes⟩ := startSequence_record .drive b
  exact ⟨(locks .seq (by decide)).trans record, (locks .notes (by decide)).trans notes⟩

theorem recordDrive_get (b : Blocks) (k : LockId) : (recordDrive b k).locks.get k =
    if (b.locks.get k).state = .interrupted then { b.locks.get k with command := .drive } else b.locks.get k := by
  unfold recordDrive
  dsimp only
  split
  · exact setLock_get k _ b
  · rfl

theorem driveFaultedTail_get (b : Blocks) (k : LockId) : (driveFaultedTail b k).locks.get k =
    if (b.locks.get k).state = .fault then { b.locks.get k with command := .drive } else b.locks.get k := by
  rw [driveFaultedTail_eq]
  split
  · exact setLock_get k _ b
  · rfl

/-- A lock at a reversal under the HELD flag. -/
theorem reverseSequence_held {b : Blocks} (h : b.sil.held = true) (k : LockId) :
    (reverseSequence b).locks.get k =
      if (startStep b .drive = .centre ↔ k = .centre) ∧ (b.locks.get k).state = .interrupted
      then { b.locks.get k with command := .drive } else b.locks.get k := by
  obtain ⟨record, -⟩ := startSequence_record .drive b
  have locks : (startSequence .drive b).locks = b.locks := startSequence_sameBut .drive b .locks (by decide)
  rw [reverseSequence, if_pos h, step_foldl_get ownLock_recordDrive, recordDrive_get, locks, record,
    show stepLocks (startRecord b .drive).step = stepLocks (startStep b .drive) from rfl]
  simp only [mem_startStep (.inr rfl), ← ite_and]

/-- A lock at a reversal with the HELD flag clear, before the advance. -/
theorem reverseSequence_lock {b : Blocks} (h : b.sil.held = false) (k : LockId) : (reverseSequence b).locks.get k =
    if k = .centre ∧ startStep b .drive = .tails then interrupted (b.locks.get k)
    else if k ≠ .centre ∧ b.seq.step = .tails ∧ (b.locks.get k).state = .fault then
      { b.locks.get k with command := .drive }
    else b.locks.get k := by
  obtain ⟨record, -⟩ := startSequence_record .drive b
  have locks : (startSequence .drive b).locks = b.locks := startSequence_sameBut .drive b .locks (by decide)
  have step : (startSequence .drive b).seq.step = startStep b .drive := by rw [record]; rfl
  have outside : (if startStep b .drive = .tails then lockInterrupt .centre (startSequence .drive b)
      else startSequence .drive b).locks.get k =
        if k = .centre ∧ startStep b .drive = .tails then interrupted (b.locks.get k) else b.locks.get k := by
    by_cases ht : startStep b .drive = .tails
    · rw [if_pos ht]
      by_cases hk : k = .centre
      · rw [hk, lockInterrupt_get, locks, if_pos ⟨rfl, ht⟩]
      · rw [lockInterrupt_get_other .centre _ hk, locks, if_neg fun h => hk h.1]
    · rw [if_neg ht, locks, if_neg fun h => ht h.2]
  have tails : k ∈ stepLocks .tails ↔ k ≠ .centre := by cases k <;> simp [stepLocks]
  rw [reverseSequence]
  simp only [h, step, if_neg Bool.false_ne_true]
  by_cases ht : b.seq.step = .tails
  · rw [if_pos ht, step_foldl_get ownLock_driveFaultedTail, driveFaultedTail_get, outside]
    rw [if_congr tails rfl rfl]
    by_cases hk : k = .centre <;> simp [hk, ht]
  · rw [if_neg ht, outside]
    simp [ht]

/-- A reversal takes no lock to DRIVEN or from it. -/
theorem reverseSequence_driven (b : Blocks) (k : LockId) :
    ((reverseSequence b).locks.get k).state = .driven ↔ (b.locks.get k).state = .driven := by
  by_cases h : b.sil.held = true
  · rw [reverseSequence_held h]
    split <;> rfl
  · rw [reverseSequence_lock (Bool.eq_false_of_not_eq_true h)]
    split
    · unfold interrupted
      split
      next ht =>
        rcases (lockTravelling_iff _).mp ht with hs | hs <;> simp [hs]
      next => rfl
    · split <;> rfl

/-! ## LOCKS_WITHDRAW and LOCKS_DRIVE (R11) -/

theorem setPhase_self {p : SpanPhase} {b : Blocks} (h : b.sil.phase = p) : setPhase p b = b := by
  subst h
  rfl

/-- An accepted LOCKS_WITHDRAW on a quiet port. -/
theorem exec_locksWithdraw {tag : Octet} {s : State} (hq : QuietPort s) (hm : (atTaking s).sil.mode = .operate)
    (hl : (atTaking s).sil.latch = false) (hs : bothSeated (atTaking s) = true)
    (hp : (atTaking s).sil.phase = .closed ∨ (atTaking s).sil.phase = .recovery)
    (hr : (atTaking s).rsq.phase = .roadClosed) : exec (.locksWithdraw tag) s =
      .next (answered s { kind := 0x12#8, tag := tag, body := [] } (withdrawLocks (atTaking s)) (.ok [])) :=
  exec_accepted rfl (effect := withdrawLocks) (permit := permitUnlock)
    (phase := (atTaking s).sil.phase == .closed || (atTaking s).sil.phase == .recovery) rfl hq hm (by simpa using hp)
    (by simp [permitFails, permitUnlock, condFails, hl, hr, hs])

/-- An accepted LOCKS_DRIVE on a quiet port; in RECOVERY the road is closed. -/
theorem exec_locksDrive {tag : Octet} {s : State} (hq : QuietPort s) (hm : (atTaking s).sil.mode = .operate)
    (hl : (atTaking s).sil.latch = false) (hs : bothSeated (atTaking s) = true)
    (hp : drivePhase (atTaking s).sil.phase = true)
    (hr : (atTaking s).sil.phase = .recovery → (atTaking s).rsq.phase = .roadClosed) : exec (.locksDrive tag) s =
      .next (answered s { kind := 0x13#8, tag := tag, body := [] } (driveLocks (atTaking s)) (.ok [])) := by
  refine exec_accepted rfl (effect := driveLocks) (permit := permitLock (atTaking s)) rfl hq hm hp ?_
  rw [permitLock_eq]
  split
  next h => simp [permitFails, condFails, hl, hs, hr h]
  next => simp [permitFails, condFails, hl, hs]

/-- Settles O27: a start or a reversal writes the sequence record, and its advance commands the locks of the step. -/
theorem lockRequestsStartTheirSequence : Obligations.LockRequestsStartTheirSequence := by
  intro tag s hq b out home recorded moved starts withdrawn driven hm hl hs
  have started : ∀ (p : SpanPhase) (q : LockSequence) (x : LockCmd) (step : SeqStep) (target : LockState), Runs q →
      x = sequenceCommand q → step = startStep b q → target = lockDone (sequenceCommand q) →
      starts q x step target (advanceSequence (startSequence q (setPhase p b))) ∧
        (advanceSequence (startSequence q (setPhase p b))).sil = { b.sil with phase := p } := by
    rintro p q x step target hr rfl rfl rfl
    obtain ⟨record, notes⟩ := startSequence_record q (setPhase p b)
    have frame := startSequence_sameBut q (setPhase p b)
    obtain ⟨complete, running, posted, same, -⟩ := sequence_recorded (b := setPhase p b) hr hl hs record notes
      (sameBut_mono frame (by decide)) fun k => by rw [show (startSequence q (setPhase p b)).locks = _ from
        frame .locks (by decide)]
    refine ⟨⟨⟨complete, running, posted, sameBut_join (setPhase_sameBut p b) same (by decide) (by decide)⟩, fun k => ?_⟩,
      same .sil (by decide)⟩
    exact (sequence_starts (b := setPhase p b) hr hl hs k).trans
      (if_congr Iff.rfl (lockCommand_congr k _ rfl rfl) rfl)
  refine ⟨fun hp hr => ?withdraw, fun hp => ?drive, fun hp hr => ?recovery, fun hp => ?reverse⟩
  case withdraw =>
    have effect : withdrawLocks b = advanceSequence (startSequence .withdraw
        (setPhase (if b.sil.phase = .closed then .unlocking else .recovery) b)) := by
      by_cases hc : b.sil.phase = .closed
      · rw [withdrawLocks, if_pos hc, if_pos hc]
      · rw [withdrawLocks, if_neg hc, if_neg hc, setPhase_self (hp.resolve_left hc)]
    obtain ⟨start, sil⟩ := started (if b.sil.phase = .closed then .unlocking else .recovery) .withdraw .withdraw out
      .withdrawn (.inl rfl) rfl rfl rfl
    exact ⟨_, effect ▸ exec_locksWithdraw hq hm hl hs hp hr, start, sil⟩
  case drive =>
    have effect : driveLocks b = advanceSequence (startSequence .drive (setPhase .locking b)) := by
      rw [driveLocks, if_neg (by rcases hp with h | h <;> simp [h]), if_neg (by rcases hp with h | h <;> simp [h])]
    obtain ⟨start, sil⟩ := started .locking .drive .drive home .driven (.inr rfl) rfl rfl rfl
    refine ⟨_, effect ▸ exec_locksDrive hq hm hl hs ((drivePhase_iff _).mpr ?_) fun h => ?_, start, sil⟩
    · exact .inr (hp.imp_right .inl)
    · rcases hp with hp | hp <;> cases hp.symm.trans h
  case recovery =>
    have effect : driveLocks b = advanceSequence (startSequence .drive (setPhase .recovery b)) := by
      rw [driveLocks, if_neg (by rw [hp]; nofun), if_pos hp, setPhase_self hp]
    obtain ⟨start, sil⟩ := started .recovery .drive .drive home .driven (.inr rfl) rfl rfl rfl
    refine ⟨_, effect ▸ exec_locksDrive hq hm hl hs (by rw [hp]; rfl) fun _ => hr, start, sil.trans ?_⟩
    rw [← hp]
  case reverse =>
    have effect : driveLocks b = advanceSequence (reverseSequence (setPhase .locking b)) := by
      rw [driveLocks, if_pos hp]
    obtain ⟨record, notes⟩ := reverseSequence_record (setPhase .locking b)
    obtain ⟨complete, running, posted, same, each⟩ := sequence_recorded (b := setPhase .locking b) (.inr rfl) hl hs record
      notes (sameBut_mono (reverseSequence_sameBut _) (by decide)) (reverseSequence_driven _)
    have run : driven (advanceSequence (reverseSequence (setPhase .locking b))) :=
      effect ▸ exec_locksDrive hq hm hl hs (by rw [hp]; rfl) fun h => nomatch hp.symm.trans h
    refine ⟨_, run, ⟨complete, running, posted, sameBut_join (setPhase_sameBut _ b) same (by decide) (by decide)⟩,
      same .sil (by decide), fun hh k => ?_, fun hh k => ?_⟩
    · have outside : (home = .centre ↔ k = .centre) → ¬ (k = .centre ∧ home = .tails) := fun hi hk => by
        cases (hi.mpr hk.1).symm.trans hk.2
      have lock : (reverseSequence (setPhase .locking b)).locks.get k =
          if k = .centre ∧ home = .tails then interrupted (b.locks.get k)
          else if k ≠ .centre ∧ b.seq.step = .tails ∧ (b.locks.get k).state = .fault then
            { b.locks.get k with command := .drive }
          else b.locks.get k := reverseSequence_lock (b := setPhase .locking b) hh k
      rw [each hh k]
      by_cases hmoved : moved home k .driven
      · obtain ⟨hi, hf, hd⟩ := hmoved
        have same : (reverseSequence (setPhase .locking b)).locks.get k = b.locks.get k :=
          lock.trans ((if_neg (outside hi)).trans (if_neg fun h => hf h.2.2))
        rw [if_pos ⟨hi, by rw [same]; exact hf, hd⟩, if_pos ⟨hi, hf, hd⟩]
        exact lockCommand_congr k .drive (reverseSequence_sameBut _ .iq (by decide)) same
      · have unmoved : ¬ ((home = .centre ↔ k = .centre) ∧
            ((reverseSequence (setPhase .locking b)).locks.get k).state ≠ .fault ∧
            ((setPhase .locking b).locks.get k).state ≠ .driven) := by
          rintro ⟨hi, hf, hd⟩
          refine hmoved ⟨hi, fun hb => hf ?_, hd⟩
          rw [lock, if_neg (outside hi)]
          split <;> exact hb
        refine (if_neg unmoved).trans ?_
        rw [if_neg hmoved, lockInterrupt_get]
        exact lock
    · rw [advance_held]
      · exact reverseSequence_held (b := setPhase .locking b) hh k
      · rw [show (reverseSequence (setPhase .locking b)).sil = _ from reverseSequence_sameBut _ .sil (by decide)]
        exact hh

end Sys2Proof.Proofs

/-! Movements directed by the span interlock, and LEAVES_RAISE (R12, R128, R130, R167). -/

namespace Sys2Proof.Proofs

open Sys2Proof.Machine Sys2Proof.Safety

/-! ## What a movement reads (R128) -/

/-- From `a` to `b` nothing has changed that the direction of a movement reads. -/
structure MovementReads (a b : Blocks) : Prop where
  leaves : b.leaves = a.leaves
  brakes : b.brakes = a.brakes
  iq : b.iq = a.iq
  counts : b.par.fullCounts = a.par.fullCounts
  opens : b.par.openAngleCd = a.par.openAngleCd
  prove : b.par.brakeProveMs = a.par.brakeProveMs

/-- The inputs alone give what is made. -/
theorem made_congr {a b : Blocks} (h : b.iq = a.iq) (f : InputFn) : made b f = made a f := by
  rw [made, made, inputRec, inputRec, h]

theorem movementReads_of_sameBut {fs : List BlockField} {a b : Blocks} (k : SameBut fs a b)
    (hl : BlockField.leaves ∉ fs := by decide) (hb : BlockField.brakes ∉ fs := by decide)
    (hq : BlockField.iq ∉ fs := by decide) (hp : BlockField.par ∉ fs := by decide) : MovementReads a b :=
  have par : b.par = a.par := k .par hp
  ⟨k .leaves hl, k .brakes hb, k .iq hq, by rw [par], by rw [par], by rw [par]⟩

section
variable {a b : Blocks} (k : MovementReads a b) (m : Movement)
include k

theorem leafState_reads (l : LeafId) : leafState b l = leafState a l := by rw [leafState, leafState, k.leaves]

theorem targetCounts_reads (l : LeafId) : targetCounts b l m = targetCounts a l m := by
  unfold targetCounts
  rw [k.counts, k.opens]

theorem alreadyArrived_reads (l : LeafId) : alreadyArrived b l m = alreadyArrived a l m := by
  unfold alreadyArrived
  rw [made_congr k.iq, k.leaves, leafState_reads k, targetCounts_reads k]

theorem movementBegins_reads : MovementBegins m b ↔ MovementBegins m a := by
  simp only [MovementBegins, leafInMotion, leafState_reads k, alreadyArrived_reads k, k.brakes]

theorem leavesAtRest_reads : LeavesAtRest b ↔ LeavesAtRest a := by
  simp only [LeavesAtRest, leafState_reads k, k.brakes, made_congr k.iq]

theorem described_reads (l : LeafId) (taking : Bool) : described m l b taking = described m l a taking := by
  unfold described
  rw [targetCounts_reads k, k.leaves]

theorem movementStarts_reads (c : Blocks) : MovementStarts m b c ↔ MovementStarts m a c := by
  simp only [MovementStarts, LeafReleases, LeafStandsBy, alreadyArrived_reads k, described_reads k, leafState_reads k,
    k.leaves, k.brakes, k.prove]

end

/-- Leaves at rest need not wait for a movement. -/
theorem movementMustWait_atRest {b : Blocks} (h : LeavesAtRest b) : movementMustWait b = false := by
  have still : ∀ l, leafInMotion b l = false ∧ (b.brakes.get l).state ≠ .setting := fun l => by
    obtain ⟨rest, set, -⟩ := h l
    exact ⟨(leafInMotion_eq_false_iff b l).mpr (rest.imp_right .inl), by rw [set]; nofun⟩
  simp only [movementMustWait, Bool.or_eq_false_iff, anyLeaf_eq_false_iff, beq_eq_false_iff_ne]
  exact ⟨fun l => (still l).1, fun l => (still l).2⟩

/-- A movement directed to leaves at rest starts. -/
theorem directMovement_starts (m : Movement) {b : Blocks} (h : LeavesAtRest b) : MovementStarts m b (directMovement m b) := by
  rw [directMovement, movementMustWait_atRest h]
  exact startMovement_starts m b h

/-! ## A movement directed unless the HELD flag is set (R21) -/

/-- What the direction of a movement does, said from the blocks `a` before the request's other work. -/
theorem directUnlessHeld_does {a b : Blocks} (k : MovementReads a b) (m : Movement) :
    SpeedsFollow (b.sil.held = false ∧ MovementBegins m a) b.par b.pend (directUnlessHeld m b) ∧
      (b.sil.held = true → (directUnlessHeld m b).leaves = a.leaves ∧ (directUnlessHeld m b).brakes = a.brakes) ∧
      (b.sil.held = false → LeavesAtRest a → MovementStarts m a (directUnlessHeld m b)) ∧
      SameBut [.par, .pend, .leaves, .brakes] b (directUnlessHeld m b) := by
  unfold directUnlessHeld
  cases hh : b.sil.held
  · have speeds := directMovement_speeds m b
    refine ⟨?_, nofun, fun _ hr => ?_, sameBut_mono (directMovement_sameBut m b) (by decide)⟩
    · rw [← movementBegins_reads k m]
      simpa [SpeedsFollow] using speeds
    · exact (movementStarts_reads k m _).mp (directMovement_starts m ((leavesAtRest_reads k).mpr hr))
  · refine ⟨⟨nofun, fun _ => ⟨rfl, rfl⟩⟩, fun _ => ⟨k.leaves, k.brakes⟩, nofun, sameBut_refl _ b⟩

/-! ## The formation of a group and the raise (R12, R167) -/

/-- The group of the first four queued vessels, with the angle of its opening. -/
theorem formGroup_nav (passage newOpening : Bool) (b : Blocks) :
    let angle := formationAngle { b with par := marginActive b.par b.pend } passage (b.nav.queue.take 4)
    (formGroup passage newOpening b).nav = { b.nav with
      queue := b.nav.queue.drop 4
      slots := (b.nav.queue.take 4).map fun v => { vessel := v, state := .waiting }
      group := .awaitingOpen
      target := if passage then .passage angle else .full
      targetAngle := angle
      fall := .none
      blocked := .none
      gap := if newOpening then none else b.nav.gap
      lastCleared := if newOpening then none else b.nav.lastCleared } := rfl

/-- The raise that a formed group calls for. -/
theorem raiseOrder_formGroup (passage newOpening : Bool) (b : Blocks) : raiseOrder (formGroup passage newOpening b) =
    .raise (if passage then .angle (formationAngle { b with par := marginActive b.par b.pend } passage
      (b.nav.queue.take 4)) else .full) := by
  cases passage <;> rfl

/-- The formation touches nothing that the direction of a movement reads. -/
theorem movementReads_raising (passage newOpening : Bool) (p : SpanPhase) (o : Option Movement) (b : Blocks) :
    MovementReads b (setPhase p (setOrder o (formGroup passage newOpening b))) := ⟨rfl, rfl, rfl, rfl, rfl, rfl⟩

theorem raising_sameBut (passage newOpening : Bool) (p : SpanPhase) (o : Option Movement) (b : Blocks) :
    SameBut [.sil, .nav, .par, .pend, .notes] b (setPhase p (setOrder o (formGroup passage newOpening b))) := by
  intro f hf
  cases f <;> first | rfl | exact absurd (by decide) hf

theorem movementReads_formed (passage newOpening : Bool) (b : Blocks) :
    MovementReads b (formGroup passage newOpening b) := ⟨rfl, rfl, rfl, rfl, rfl, rfl⟩

/-- A raise directed over the group it forms. -/
theorem raiseLeaves_directs {passage : Bool} {b : Blocks} {m : Movement}
    (hm : raiseOrder (formGroup passage (b.sil.phase == .unlocked) b) = m)
    (h : ¬ (b.sil.phase = .opened ∧ ∀ l, alreadyArrived b l m = true)) :
    let c := raiseLeaves passage b
    c.sil = { b.sil with phase := .raising, order := some m } ∧
      c.nav = (formGroup passage (b.sil.phase == .unlocked) b).nav ∧
      SpeedsFollow (b.sil.held = false ∧ MovementBegins m b) (marginActive b.par b.pend) (marginTaken b.pend) c ∧
      (b.sil.held = true → c.leaves = b.leaves ∧ c.brakes = b.brakes) ∧
      (b.sil.held = false → LeavesAtRest b → MovementStarts m b c) ∧
      SameBut [.sil, .nav, .par, .pend, .leaves, .brakes, .notes] b c := by
  intro c
  have formed := movementReads_formed passage (b.sil.phase == .unlocked) b
  have beyond : bothBeyond (formGroup passage (b.sil.phase == .unlocked) b) m = true ↔
      ∀ l, alreadyArrived b l m = true := by
    simp only [bothBeyond, bothLeaves_iff, alreadyArrived_reads formed]
  have directed : c = directUnlessHeld m
      (setPhase .raising (setOrder (some m) (formGroup passage (b.sil.phase == .unlocked) b))) := by
    subst hm
    exact if_neg fun hb => h ⟨hb.1, beyond.mp hb.2⟩
  obtain ⟨speeds, held, starts, same⟩ := directUnlessHeld_does
    (movementReads_raising passage (b.sil.phase == .unlocked) .raising (some m) b) m
  rw [directed]
  exact ⟨same .sil (by decide), same .nav (by decide), speeds, held, starts,
    sameBut_join (raising_sameBut passage _ .raising (some m) b) same (by decide) (by decide)⟩

/-- From OPEN with both leaves beyond their new targets the group is formed and nothing directed. -/
theorem raiseLeaves_beyond {passage : Bool} {b : Blocks} (hp : b.sil.phase = .opened)
    (h : ∀ l, alreadyArrived b l (raiseOrder (formGroup passage false b)) = true) :
    raiseLeaves passage b = formGroup passage false b := by
  have opening : (b.sil.phase == SpanPhase.unlocked) = false := by rw [hp]; rfl
  have beyond : bothBeyond (formGroup passage false b) (raiseOrder (formGroup passage false b)) = true := by
    simp only [bothBeyond, bothLeaves_iff, alreadyArrived_reads (movementReads_formed passage false b)]
    exact h
  rw [raiseLeaves, opening]
  exact if_pos ⟨hp, beyond⟩

/-! ## LEAVES_RAISE (R12, R18) -/

theorem raisePhase_iff (b : Blocks) : raisePhase b = true ↔
    b.sil.phase = .unlocked ∨ (b.sil.phase = .opened ∧ b.nav.group = .complete) := by
  unfold raisePhase
  split <;> simp_all

/-- LEAVES_RAISE on a quiet port is answered as its taking says. -/
theorem exec_leavesRaise {tag target : Octet} {s : State} {c : Blocks} {r : Result} (hq : QuietPort s)
    (h : takeLeavesRaise [target] (atTaking s) = { blocks := c, result := r }) : exec (.leavesRaise tag target) s =
      .next (answered s { kind := 0x14#8, tag := tag, body := [target] } c r) :=
  exec_answered rfl (Nat.le_of_ble_eq_true rfl) hq h

/-- The target octet 1 asks for a passage. -/
theorem target_eq_one (target : Octet) : (num target == 1) = (target == 1#8) := by
  rw [Bool.eq_iff_iff, beq_iff_eq, beq_iff_eq, ← BitVec.toNat_inj]
  rfl

section
variable {target : Octet} {b : Blocks} (hm : b.sil.mode = .operate)
include hm

theorem takeLeavesRaise_wrongPhase (hp : raisePhase b = false) : takeLeavesRaise [target] b = refuse .wrongPhase b := by
  simp [takeLeavesRaise, inMode, hm, hp]

theorem takeLeavesRaise_range (hp : raisePhase b = true) (ht : 2 ≤ target.toNat) :
    takeLeavesRaise [target] b = refuse .range b := by
  simp [takeLeavesRaise, inMode, hm, hp, raiseTo, num, ht]

theorem takeLeavesRaise_notPermitted (hp : raisePhase b = true) (ht : target.toNat < 2) {x : Cond}
    (hc : permitFails b (permitRaise (target == 1#8)) = some x) :
    takeLeavesRaise [target] b = refuse (.notPermitted x) b := by
  have range : ¬ 2 ≤ num target := not_le.mpr ht
  simp [takeLeavesRaise, inMode, hm, hp, raiseTo, range, target_eq_one, hc]

theorem takeLeavesRaise_accepted (hp : raisePhase b = true) (ht : target.toNat < 2)
    (hc : permitFails b (permitRaise (target == 1#8)) = none) :
    takeLeavesRaise [target] b = accept (raiseLeaves (target == 1#8) b) := by
  have range : ¬ 2 ≤ num target := not_le.mpr ht
  simp [takeLeavesRaise, inMode, hm, hp, raiseTo, range, target_eq_one, hc]

end

/-- The raise of a request's target octet. -/
theorem raiseOrder_target (target : Octet) (newOpening : Bool) (b : Blocks) :
    raiseOrder (formGroup (target == 1#8) newOpening b) = .raise (if target = 1#8 then
      .angle (min (((b.nav.queue.take 4).map Vessel.required).foldl max 0 +
        b.pend.angleMarginCd.getD b.par.angleMarginCd) (min b.par.openAngleCd.north b.par.openAngleCd.south))
      else .full) := by
  rw [raiseOrder_formGroup]
  by_cases h : target = 1#8
  · subst h
    rfl
  · rw [beq_false_of_ne h, if_neg h]
    rfl

/-- The group of a request's target octet. -/
theorem formGroup_target (target : Octet) (newOpening : Bool) (b : Blocks) :
    let angle := min (((b.nav.queue.take 4).map Vessel.required).foldl max 0 +
      b.pend.angleMarginCd.getD b.par.angleMarginCd) (min b.par.openAngleCd.north b.par.openAngleCd.south)
    (formGroup (target == 1#8) newOpening b).nav = { b.nav with
      queue := b.nav.queue.drop 4
      slots := (b.nav.queue.take 4).map fun v => { vessel := v, state := .waiting }
      group := .awaitingOpen
      target := if target = 1#8 then .passage angle else .full
      targetAngle := if target = 1#8 then angle else min b.par.openAngleCd.north b.par.openAngleCd.south
      fall := .none
      blocked := .none
      gap := if newOpening then none else b.nav.gap
      lastCleared := if newOpening then none else b.nav.lastCleared } := by
  intro angle
  rw [formGroup_nav]
  by_cases h : target = 1#8
  · subst h
    rfl
  · rw [beq_false_of_ne h, if_neg h, if_neg h]
    rfl

/-- A movement from leaves that have all arrived begins nowhere. -/
theorem not_movementBegins {m : Movement} {b : Blocks} (h : ∀ l, alreadyArrived b l m = true) : ¬ MovementBegins m b :=
  fun ⟨_, l, hl, _⟩ => by simp [h l] at hl

/-- Settles O28: the formation of the group touches nothing that the raise reads, so the raise is directed as from before it. -/
theorem leavesRaiseFormsTheGroup : Obligations.LeavesRaiseFormsTheGroup := by
  refine ⟨fun tag target s hq => ?_, ⟨rfl, rfl⟩, fun tag target s hq => ?_⟩
  · intro b f angle order hm hp
    have phase : raisePhase b = true := (raisePhase_iff b).mpr (.inl hp)
    have opening : (b.sil.phase == SpanPhase.unlocked) = true := by rw [hp]; rfl
    refine ⟨fun ht => exec_leavesRaise hq (takeLeavesRaise_range hm phase ht), fun ht hc => ?_⟩
    obtain ⟨sil, nav, rest⟩ := raiseLeaves_directs (raiseOrder_target target _ b) fun h => by simp [hp] at h
    refine ⟨_, exec_leavesRaise hq (takeLeavesRaise_accepted hm phase ht hc), sil, ?_, rest⟩
    rw [nav, opening]
    exact formGroup_target target true b
  · intro b f angle order beyond allowed hm
    have phase : raisePhase b = true ↔ allowed := raisePhase_iff b
    refine ⟨fun h => exec_leavesRaise hq (takeLeavesRaise_wrongPhase hm (Bool.eq_false_of_not_eq_true (mt phase.mp h))),
      fun h ht => exec_leavesRaise hq (takeLeavesRaise_range hm (phase.mpr h) ht),
      fun h ht x hc => exec_leavesRaise hq (takeLeavesRaise_notPermitted hm (phase.mpr h) ht hc),
      fun hp hg ht hc => ?_⟩
    have opening : (b.sil.phase == SpanPhase.unlocked) = false := by rw [hp]; rfl
    have accepted := exec_leavesRaise (tag := tag) hq (takeLeavesRaise_accepted hm (phase.mpr (.inr ⟨hp, hg⟩)) ht hc)
    by_cases hb : beyond
    · have formed : raiseLeaves (target == 1#8) b = formGroup (target == 1#8) false b :=
        raiseLeaves_beyond hp (by rw [raiseOrder_target]; exact hb)
      refine ⟨_, accepted, ?_⟩
      rw [formed]
      exact ⟨formGroup_target target false b, ⟨fun h => absurd h.2 (not_movementBegins hb), fun _ => ⟨rfl, rfl⟩⟩,
        fun _ => ⟨rfl, rfl, rfl⟩, fun h => absurd hb h,
        sameBut_mono (formGroup_sameBut _ _ b) (by decide)⟩
    · obtain ⟨sil, nav, speeds, held, starts, same⟩ :=
        raiseLeaves_directs (raiseOrder_target target _ b) fun h => hb h.2
      refine ⟨_, accepted, ?_, speeds, fun h => absurd h hb, fun _ => ⟨sil, held, starts⟩, same⟩
      rw [nav, opening]
      exact formGroup_target target false b

end Sys2Proof.Proofs

/-! The start of a movement whose brakes cannot be released, and the next movement (R128, R144, R147). -/

namespace Sys2Proof.Proofs

open Sys2Proof.Machine Sys2Proof.Safety

/-! ## A finding on a leaf and on its brake (R117, R148) -/

theorem setBrake_get (l : LeafId) (r : BrakeRec) (b : Blocks) : (setBrake l r b).brakes.get l = r :=
  PerLeaf.get_set_same _ _ _

theorem setBrake_get_other (l : LeafId) (r : BrakeRec) (b : Blocks) :
    (setBrake l r b).brakes.get (otherLeaf l) = b.brakes.get (otherLeaf l) :=
  PerLeaf.get_set_other _ _ _ _ (otherLeaf_ne l)

theorem brakeSetRequest_get_other (l : LeafId) (b : Blocks) :
    (brakeSetRequest l b).brakes.get (otherLeaf l) = b.brakes.get (otherLeaf l) := by
  unfold brakeSetRequest
  dsimp only
  split
  · rfl
  · rfl
  · exact setBrake_get_other l _ b
  · split <;> exact setBrake_get_other l _ b
  · split <;> exact setBrake_get_other l _ b

/-- A brake in FAULT at a set request: its feedback says whether it stands set (R148). -/
theorem brakeSetRequest_fault {l : LeafId} {b : Blocks} (h : (b.brakes.get l).state = .fault) :
    (brakeSetRequest l b).brakes.get l = if made b (.brakeReleased l) then { b.brakes.get l with command := .set }
      else { b.brakes.get l with command := .set, state := .set, fault := .none, timer := none, mismatch := false } := by
  unfold brakeSetRequest
  dsimp only
  rw [h]
  dsimp only
  split <;> exact setBrake_get l _ b

section
variable {l : LeafId} {k : LeafFault} {b : Blocks}

/-- A finding on a leaf that was in no FAULT asks its brake to set. -/
theorem leafFault_brake (hm : b.sil.mode = .operate) (hf : (b.leaves.get l).mot.state ≠ .fault) :
    (leafFault l k b).brakes.get l =
      (brakeSetRequest l (setLeaf l (faultedLeaf k (b.leaves.get l)) b)).brakes.get l := by
  rw [leafFault_leaf_sound hm hf, show (stopLeaf _ _).brakes = _ from stopLeaf_sameBut _ _ .brakes (by decide)]

theorem leafFault_brake_other : (leafFault l k b).brakes.get (otherLeaf l) = b.brakes.get (otherLeaf l) := by
  by_cases hm : b.sil.mode = .operate
  · by_cases hf : (b.leaves.get l).mot.state = .fault
    · rw [leafFault_leaf_faulted hm hf]
      split <;> rfl
    · rw [leafFault_leaf_sound hm hf, show (stopLeaf _ _).brakes = _ from stopLeaf_sameBut _ _ .brakes (by decide),
        brakeSetRequest_get_other]
      rfl
  · rw [leafFault_outside l k b hm]

/-- A finding on one leaf leaves the other alone where that is in FAULT. -/
theorem leafFault_other_faulted (h : (b.leaves.get (otherLeaf l)).mot.state = .fault) :
    (leafFault l k b).leaves.get (otherLeaf l) = b.leaves.get (otherLeaf l) := by
  by_cases hm : b.sil.mode = .operate
  · by_cases hf : (b.leaves.get l).mot.state = .fault
    · rw [leafFault_leaf_faulted hm hf]
      split
      · rfl
      · rw [setFlt_leaves, PerLeaf.get_set_other _ _ _ _ (otherLeaf_ne l)]
    · rw [leafFault_get_other hm hf, stopped, h]
  · rw [leafFault_outside l k b hm]

/-- No finding touches the recorded next movements. -/
theorem leafFault_next (j : LeafId) : ((leafFault l k b).leaves.get j).mot.next = (b.leaves.get j).mot.next := by
  have stop : ∀ r : MotionRec, (stopped r).next = r.next := fun r => by unfold stopped; split <;> rfl
  rcases leaf_eq_or_other l j with rfl | rfl
  · by_cases hm : b.sil.mode = .operate
    · by_cases hf : (b.leaves.get j).mot.state = .fault
      · rw [leafFault_leaf_faulted hm hf]
        split
        · rfl
        · rw [setFlt_leaves, PerLeaf.get_set_same]
      · rw [leafFault_get hm hf]
        rfl
    · rw [leafFault_outside j k b hm]
  · rcases leafFault_other_mot l k b with e | e
    · rw [e]
    · rw [e, stop]

end

/-! ## The release requests of a start (R147) -/

/-- A leaf's brake refuses its release: it is in FAULT, or SET while its feedback shows it released. -/
def refusesRelease (b : Blocks) (l : LeafId) : Bool :=
  (b.brakes.get l).state == .fault || ((b.brakes.get l).state == .set && made b (.brakeReleased l))

theorem refusesRelease_iff (b : Blocks) (l : LeafId) : refusesRelease b l = true ↔
    (b.brakes.get l).state = .fault ∨ ((b.brakes.get l).state = .set ∧ made b (.brakeReleased l) = true) := by
  simp [refusesRelease]

/-- The record of a brake that has refused its release. -/
def refusedBrake (q : BrakeRec) : BrakeRec :=
  { q with state := .fault, fault := .brakeNotReleased, lastFault := .brakeNotReleased }

theorem brakeReleaseRequest_refused {l : LeafId} {b : Blocks} (h : refusesRelease b l = true) :
    brakeReleaseRequest l b = (setBrake l (refusedBrake (b.brakes.get l)) b, true) := by
  rcases (refusesRelease_iff b l).mp h with hf | ⟨hs, hm⟩
  · simp [brakeReleaseRequest, hf, refusedBrake]
  · simp [brakeReleaseRequest, hs, hm, refusedBrake]

theorem brakeReleaseRequest_taken {l : LeafId} {b : Blocks} (h : refusesRelease b l = false) :
    (brakeReleaseRequest l b).2 = false := by
  have refuses := mt (refusesRelease_iff b l).mpr (by simp [h])
  unfold brakeReleaseRequest
  dsimp only
  split
  next hs =>
    split
    next hm => exact absurd (.inr ⟨hs, hm⟩) refuses
    next => rfl
  next hf => exact absurd (.inl hf) refuses
  all_goals rfl

theorem brakeReleaseRequest_get_other (l : LeafId) (b : Blocks) :
    (brakeReleaseRequest l b).1.brakes.get (otherLeaf l) = b.brakes.get (otherLeaf l) := by
  unfold brakeReleaseRequest
  dsimp only
  split
  · split <;> exact setBrake_get_other l _ b
  · exact setBrake_get_other l _ b
  all_goals rfl

/-- The blocks of a start once both brakes have had their requests, before the findings. -/
def brakesAsked (m : Movement) (b : Blocks) : Blocks :=
  (releaseIf (takesPart b .south m) .south (releaseIf (takesPart b .north m) .north (movementBegun m b)).1).1

/-- A leaf that takes part has the finding BRAKE_NOT_RELEASED. -/
def failsStart (m : Movement) (b : Blocks) (l : LeafId) : Bool := takesPart b l m && refusesRelease b l

/-- The finding of a leaf whose brake has refused. -/
def judgeStart (m : Movement) (b : Blocks) (l : LeafId) (x : Blocks) : Blocks :=
  if failsStart m b l then leafFault l .brakeNotReleased x else x

theorem releaseIf_reads (t : Bool) (l : LeafId) (b : Blocks) : (releaseIf t l b).1.iq = b.iq ∧
    (releaseIf t l b).1.sil = b.sil ∧ (releaseIf t l b).1.leaves = b.leaves :=
  ⟨releaseIf_sameBut t l b .iq (by decide), releaseIf_sameBut t l b .sil (by decide),
    releaseIf_sameBut t l b .leaves (by decide)⟩

theorem releaseIf_get_other (t : Bool) (l : LeafId) (b : Blocks) :
    (releaseIf t l b).1.brakes.get (otherLeaf l) = b.brakes.get (otherLeaf l) := by
  cases t
  · rfl
  · exact brakeReleaseRequest_get_other l b

theorem refusesRelease_congr {a b : Blocks} {l : LeafId} (hq : b.iq = a.iq)
    (hr : b.brakes.get l = a.brakes.get l) : refusesRelease b l = refusesRelease a l := by
  rw [refusesRelease, refusesRelease, made_congr hq, hr]

theorem releaseIf_fails {t : Bool} {l : LeafId} {b : Blocks} : (releaseIf t l b).2 = (t && refusesRelease b l) := by
  cases t
  · rfl
  · cases h : refusesRelease b l
    · exact brakeReleaseRequest_taken h
    · exact congrArg Prod.snd (brakeReleaseRequest_refused h)

theorem movementBegun_reads (m : Movement) (b : Blocks) : (movementBegun m b).iq = b.iq ∧
    (movementBegun m b).sil = b.sil ∧ (movementBegun m b).brakes = b.brakes := by
  unfold movementBegun
  split <;> exact ⟨rfl, rfl, rfl⟩

/-- The south leaf's brake is asked as it stood, whatever the north one answered. -/
theorem refusesRelease_south (m : Movement) (b : Blocks) :
    refusesRelease (releaseIf (takesPart b .north m) .north (movementBegun m b)).1 .south = refusesRelease b .south := by
  obtain ⟨iq, -, brakes⟩ := movementBegun_reads m b
  refine refusesRelease_congr ((releaseIf_reads _ _ _).1.trans iq) ?_
  rw [← brakes]
  exact releaseIf_get_other _ .north _

theorem refusesRelease_begun (m : Movement) (b : Blocks) (l : LeafId) :
    refusesRelease (movementBegun m b) l = refusesRelease b l := by
  obtain ⟨iq, -, brakes⟩ := movementBegun_reads m b
  exact refusesRelease_congr iq (by rw [brakes])

/-- A start is the requests to the brakes, then the findings in their order. -/
theorem startMovement_judged (m : Movement) (b : Blocks) :
    startMovement m b = judgeStart m b .south (judgeStart m b .north (brakesAsked m b)) := by
  have north : (releaseIf (takesPart b .north m) .north (movementBegun m b)).2 = failsStart m b .north := by
    rw [releaseIf_fails, refusesRelease_begun]
    rfl
  have south : (releaseIf (takesPart b .south m) .south
      (releaseIf (takesPart b .north m) .north (movementBegun m b)).1).2 = failsStart m b .south := by
    rw [releaseIf_fails, refusesRelease_south]
    rfl
  rw [judgeStart, judgeStart, ← north, ← south]
  rfl

theorem brakesAsked_reads (m : Movement) (b : Blocks) : (brakesAsked m b).iq = b.iq ∧
    (brakesAsked m b).sil = b.sil ∧ ∀ l, (brakesAsked m b).leaves.get l =
      (b.leaves.get l).atStart m (targetCounts b l m) (takesPart b l m) := by
  obtain ⟨iq, sil, -⟩ := movementBegun_reads m b
  obtain ⟨iqN, silN, leavesN⟩ := releaseIf_reads (takesPart b .north m) .north (movementBegun m b)
  obtain ⟨iqS, silS, leavesS⟩ := releaseIf_reads (takesPart b .south m) .south
    (releaseIf (takesPart b .north m) .north (movementBegun m b)).1
  refine ⟨iqS.trans (iqN.trans iq), silS.trans (silN.trans sil), fun l => ?_⟩
  rw [brakesAsked, leavesS, leavesN]
  cases l <;> rfl

/-- The brake of a leaf once both have been asked. -/
theorem brakesAsked_brake (m : Movement) (b : Blocks) (l : LeafId) :
    (takesPart b l m = false → (brakesAsked m b).brakes.get l = b.brakes.get l) ∧
    (takesPart b l m = true → refusesRelease b l = true →
      (brakesAsked m b).brakes.get l = refusedBrake (b.brakes.get l)) := by
  obtain ⟨-, -, brakes⟩ := movementBegun_reads m b
  have refused : ∀ (k : LeafId) (x : Blocks), refusesRelease x k = true →
      (releaseIf true k x).1.brakes.get k = refusedBrake (x.brakes.get k) := fun k x hr =>
    (congrArg (fun p => p.1.brakes.get k) (brakeReleaseRequest_refused hr)).trans (setBrake_get k _ x)
  have southOther : ∀ x, (releaseIf (takesPart b .south m) .south x).1.brakes.get .north = x.brakes.get .north := fun x =>
    releaseIf_get_other _ .south x
  have northOther : (releaseIf (takesPart b .north m) .north (movementBegun m b)).1.brakes.get .south =
      b.brakes.get .south := (releaseIf_get_other _ .north _).trans (by rw [brakes]; rfl)
  cases l
  · refine ⟨fun ht => ?_, fun ht hr => ?_⟩
    · rw [brakesAsked, southOther, ht, ← brakes]
      rfl
    · rw [brakesAsked, southOther, ht, refused _ _ (by rw [refusesRelease_begun, hr]), brakes]
  · refine ⟨fun ht => ?_, fun ht hr => ?_⟩
    · rw [← northOther, brakesAsked, ht]
      rfl
    · rw [brakesAsked, ht, refused _ _ (by rw [refusesRelease_south, hr]), northOther]

/-! ## A start that a brake refuses (R128, R147) -/

/-- What a refused start makes of its leaf. -/
def RefusedStart (l : LeafId) (b c : Blocks) : Prop :=
  leafState c l = .fault ∧ (c.leaves.get l).flt.first = some .brakeNotReleased ∧
    (c.leaves.get l).flt.kinds = [.brakeNotReleased] ∧ (c.leaves.get l).mot.command = 0 ∧
    c.brakes.get l = (if made b (.brakeReleased l) then
        { b.brakes.get l with command := .set, state := .fault, fault := .brakeNotReleased, lastFault := .brakeNotReleased }
      else { b.brakes.get l with command := .set, state := .set, timer := none, fault := .none,
                                 lastFault := .brakeNotReleased, mismatch := false })

/-- The finding on a leaf that has entered RELEASING with a brake that refused. -/
theorem refusedStart_leafFault {l : LeafId} {b x : Blocks} (hm : b.sil.mode = .operate) (hx : x.sil = b.sil) (hq : x.iq = b.iq)
    (hf : (x.leaves.get l).mot.state ≠ .fault) (hb : x.brakes.get l = refusedBrake (b.brakes.get l)) :
    RefusedStart l b (leafFault l .brakeNotReleased x) := by
  have mode : x.sil.mode = .operate := by rw [hx, hm]
  have leaf := leafFault_get (k := .brakeNotReleased) mode hf
  have stateless : ((setLeaf l (faultedLeaf .brakeNotReleased (x.leaves.get l)) x).brakes.get l) =
      refusedBrake (b.brakes.get l) := hb
  have brake := leafFault_brake (k := .brakeNotReleased) mode hf
  rw [brakeSetRequest_fault (by rw [stateless]; rfl), stateless,
    made_congr (a := b) (b := setLeaf l (faultedLeaf .brakeNotReleased (x.leaves.get l)) x) hq] at brake
  refine ⟨leafFault_state l _ mode, by rw [leaf]; rfl, by rw [leaf]; rfl, by rw [leaf]; rfl, ?_⟩
  rw [brake]
  rfl

/-- A later finding on the other leaf changes nothing of it. -/
theorem refusedStart_kept {l : LeafId} {b x : Blocks} (h : RefusedStart l b x) (k : LeafFault) :
    RefusedStart l b (leafFault (otherLeaf l) k x) := by
  have leaf := leafFault_other_faulted (l := otherLeaf l) (k := k) (b := x)
    (by rw [otherLeaf_otherLeaf]; exact h.1)
  have brake := leafFault_brake_other (l := otherLeaf l) (k := k) (b := x)
  rw [otherLeaf_otherLeaf] at leaf brake
  unfold RefusedStart leafState at *
  rw [leaf, brake]
  exact h

/-- A leaf that takes part is in RELEASING once the brakes are asked. -/
theorem brakesAsked_releasing {m : Movement} {b : Blocks} {l : LeafId} (ht : takesPart b l m = true) :
    leafState (brakesAsked m b) l = .releasing := by
  rw [leafState, (brakesAsked_reads m b).2.2, atStart_state, ht]
  rfl

theorem failsStart_iff (m : Movement) (b : Blocks) (l : LeafId) :
    failsStart m b l = true ↔ takesPart b l m = true ∧ refusesRelease b l = true := by simp [failsStart]

/-- Where the other leaf has no finding, a start ends in the finding of this one. -/
theorem startMovement_oneFails {m : Movement} {b : Blocks} {l : LeafId} (hl : failsStart m b l = true)
    (ho : failsStart m b (otherLeaf l) = false) :
    startMovement m b = leafFault l .brakeNotReleased (brakesAsked m b) := by
  rw [startMovement_judged]
  cases l
  · have south : failsStart m b .south = false := ho
    simp only [judgeStart, hl, south, if_true, if_neg Bool.false_ne_true]
  · have north : failsStart m b .north = false := ho
    simp only [judgeStart, hl, north, if_true, if_neg Bool.false_ne_true]

/-- A leaf whose brake refuses has the finding, whatever becomes of the other. -/
theorem startMovement_refused {m : Movement} {b : Blocks} {l : LeafId} (hm : b.sil.mode = .operate)
    (ht : takesPart b l m = true) (hr : refusesRelease b l = true) : RefusedStart l b (startMovement m b) := by
  obtain ⟨iq, sil, -⟩ := brakesAsked_reads m b
  have fails : failsStart m b l = true := (failsStart_iff m b l).mpr ⟨ht, hr⟩
  have releasing := brakesAsked_releasing ht
  have brake := (brakesAsked_brake m b l).2 ht hr
  cases ho : failsStart m b (otherLeaf l)
  · rw [startMovement_oneFails fails ho]
    exact refusedStart_leafFault hm sil iq (by rw [leafState] at releasing; rw [releasing]; nofun) brake
  · rw [startMovement_judged]
    cases l
    · have south : failsStart m b .south = true := ho
      have north := refusedStart_leafFault hm sil iq (by rw [leafState] at releasing; rw [releasing]; nofun) brake
      simp only [judgeStart, fails, south, if_true]
      exact refusedStart_kept north _
    · have north : failsStart m b .north = true := ho
      obtain ⟨northTakes, -⟩ := (failsStart_iff m b .north).mp north
      have mode : (brakesAsked m b).sil.mode = .operate := by rw [sil, hm]
      have northReleasing : ((brakesAsked m b).leaves.get .north).mot.state ≠ .fault := by
        have state := brakesAsked_releasing northTakes
        rw [leafState] at state
        rw [state]
        nofun
      have judged : SameBut [.leaves, .brakes] (brakesAsked m b) (leafFault .north .brakeNotReleased (brakesAsked m b)) :=
        leafFault_sameBut _ _ _
      have stops : ((leafFault .north .brakeNotReleased (brakesAsked m b)).leaves.get .south).mot.state ≠ .fault := by
        rw [show ((leafFault .north .brakeNotReleased (brakesAsked m b)).leaves.get .south) = _ from
          leafFault_get_other (l := .north) mode northReleasing]
        have state : ((brakesAsked m b).leaves.get .south).mot.state = .releasing := releasing
        simp [otherLeaf, stopped, state]
      simp only [judgeStart, fails, north, if_true]
      refine refusedStart_leafFault hm ((judged .sil (by decide)).trans sil) ((judged .iq (by decide)).trans iq) stops ?_
      exact (leafFault_brake_other (l := .north)).trans brake

/-- Beside a leaf whose brake refuses, one that takes part stops at command 0, and one that does not keeps its state and its
brake. -/
theorem startMovement_beside {m : Movement} {b : Blocks} {l : LeafId} (hm : b.sil.mode = .operate)
    (hb : leafInMotion b (otherLeaf l) = false) (ht : takesPart b l m = true) (hr : refusesRelease b l = true) :
    (takesPart b (otherLeaf l) m = true → refusesRelease b (otherLeaf l) = false →
      leafState (startMovement m b) (otherLeaf l) = .stopping ∧
        ((startMovement m b).leaves.get (otherLeaf l)).mot.command = 0) ∧
    (takesPart b (otherLeaf l) m = false →
      leafState (startMovement m b) (otherLeaf l) = leafState b (otherLeaf l) ∧
        (startMovement m b).brakes.get (otherLeaf l) = b.brakes.get (otherLeaf l)) := by
  obtain ⟨-, sil, leaves⟩ := brakesAsked_reads m b
  have fails : failsStart m b l = true := (failsStart_iff m b l).mpr ⟨ht, hr⟩
  have mode : (brakesAsked m b).sil.mode = .operate := by rw [sil, hm]
  have releasing : ((brakesAsked m b).leaves.get l).mot.state ≠ .fault := by
    have state := brakesAsked_releasing ht
    rw [leafState] at state
    rw [state]
    nofun
  have stops := leafFault_get_other (k := .brakeNotReleased) mode releasing
  constructor
  · intro hto hro
    have alone := startMovement_oneFails fails (by simp [failsStart, hro])
    have state : ((brakesAsked m b).leaves.get (otherLeaf l)).mot.state = .releasing := brakesAsked_releasing hto
    rw [alone, leafState, stops]
    simp [stopped, state]
  · intro hto
    have alone := startMovement_oneFails fails (by simp [failsStart, hto])
    have state : ((brakesAsked m b).leaves.get (otherLeaf l)).mot.state = leafState b (otherLeaf l) := by
      rw [leaves, atStart_state, hto]
      rfl
    rw [alone, leafFault_brake_other, (brakesAsked_brake m b _).1 hto, leafState, stops]
    refine ⟨?_, rfl⟩
    rcases (leafInMotion_eq_false_iff b _).mp hb with h | h | h <;> rw [h] at state <;> simp [stopped, state, h]

/-- No start leaves a next movement recorded (R128). -/
theorem startMovement_next (m : Movement) (b : Blocks) (l : LeafId) :
    ((startMovement m b).leaves.get l).mot.next = none := by
  have judged : ∀ k x, ((judgeStart m b k x).leaves.get l).mot.next = (x.leaves.get l).mot.next := fun k x => by
    unfold judgeStart
    split
    · exact leafFault_next l
    · rfl
  have start : ∀ (r : LeafRec) (n : Nat) (t : Bool), (r.atStart m n t).mot.next = none := fun r n t => by cases t <;> rfl
  rw [startMovement_judged, judged, judged, (brakesAsked_reads m b).2.2, start]

end Sys2Proof.Proofs

/-! LEAVES_LOWER, RECOVERY_LOWER and the next movement (R13, R15, R144, R147, R174). -/

namespace Sys2Proof.Proofs

open Sys2Proof.Machine Sys2Proof.Safety

/-! ## The return of a group to the queue (R174) -/

theorem returnVessel_perm (v : Vessel) (q : List Vessel) : (returnVessel v q).Perm (v :: q) := by
  induction q with
  | nil => exact List.Perm.refl _
  | cons x q ih =>
    rw [returnVessel]
    split
    · exact (ih.cons x).trans (List.Perm.swap v x q)
    · exact List.Perm.refl _

/-- Within a class a returned vessel stands before those that were queued. -/
theorem returnVessel_filter (k : VesselClass) (v : Vessel) (q : List Vessel) :
    (returnVessel v q).filter (fun x => x.cls == k) = (v :: q).filter fun x => x.cls == k := by
  induction q with
  | nil => rfl
  | cons x q ih =>
    rw [returnVessel]
    split
    next h =>
      have differ : x.cls ≠ v.cls := fun e => by simp [e] at h
      rw [List.filter_cons, ih]
      by_cases hv : v.cls = k
      · have hx : ¬ x.cls = k := fun e => differ (e.trans hv.symm)
        simp [hv, hx]
      · simp [hv, List.filter_cons]
    next => rfl

/-- A returned vessel keeps the queue in rank order. -/
theorem rankOrder_returnVessel {v : Vessel} {q : List Vessel} (h : RankOrder q) : RankOrder (returnVessel v q) := by
  induction q with
  | nil => exact List.pairwise_singleton _ _
  | cons x q ih =>
    obtain ⟨first, rest⟩ := List.pairwise_cons.mp h
    rw [returnVessel]
    split
    next hx =>
      refine List.pairwise_cons.mpr ⟨fun y hy => ?_, ih rest⟩
      rcases List.mem_cons.mp ((returnVessel_perm v q).mem_iff.mp hy) with rfl | hq
      · exact hx.le
      · exact first y hq
    next hx =>
      refine List.pairwise_cons.mpr ⟨fun y hy => ?_, h⟩
      rcases List.mem_cons.mp hy with rfl | hq
      · exact not_lt.mp hx
      · exact (not_lt.mp hx).trans (first y hq)

/-- A whole group returns in its order. -/
theorem returnVessels (vs q : List Vessel) : (vs.foldr returnVessel q).Perm (vs ++ q) ∧
    (∀ k : VesselClass, (vs.foldr returnVessel q).filter (fun x => x.cls == k) =
      (vs ++ q).filter fun x => x.cls == k) ∧ (RankOrder q → RankOrder (vs.foldr returnVessel q)) := by
  induction vs with
  | nil => exact ⟨List.Perm.refl _, fun _ => rfl, id⟩
  | cons v vs ih =>
    obtain ⟨perm, filter, order⟩ := ih
    rw [List.foldr_cons]
    refine ⟨(returnVessel_perm v _).trans (perm.cons v), fun k => ?_, fun h => rankOrder_returnVessel (order h)⟩
    rw [returnVessel_filter, List.filter_cons, filter k, List.cons_append, List.filter_cons]

/-! ## The next movement (R144) -/

theorem waitingMovement_iff (b : Blocks) (m : Movement) : waitingMovement b = some m ↔
    b.leaves.north.mot.next = some m ∨ (b.leaves.north.mot.next = none ∧ b.leaves.south.mot.next = some m) := by
  unfold waitingMovement
  cases b.leaves.north.mot.next <;> simp

theorem movementMustWait_iff (b : Blocks) : movementMustWait b = true ↔
    (∃ l, leafInMotion b l = true) ∨ ∃ l : LeafId, (b.brakes.get l).state = .setting := by
  simp [movementMustWait, anyLeaf_iff]

theorem maintainedFails_locks {b : Blocks} (h : ¬ ∀ k, (b.locks.get k).state = .withdrawn) :
    maintainedFails b = some .locksNotWithdrawn :=
  if_pos (Bool.eq_false_of_not_eq_true (mt (allLocks_iff b _).mp h))

theorem maintainedFails_barriers {b : Blocks} (hl : ∀ k, (b.locks.get k).state = .withdrawn)
    (hb : ¬ ∀ i, (b.barriers.get i).state = .down ∨ Override.barrier i ∈ b.sil.overrides) :
    maintainedFails b = some .barrierNotProven := by
  rw [maintainedFails, (allLocks_iff b _).mpr hl, if_neg nofun,
    if_pos (Bool.eq_false_of_not_eq_true (mt (barriersClosed_iff b).mp hb))]

theorem maintainedFails_none {b : Blocks} (hl : ∀ k, (b.locks.get k).state = .withdrawn)
    (hb : ∀ i, (b.barriers.get i).state = .down ∨ Override.barrier i ∈ b.sil.overrides) : maintainedFails b = none := by
  rw [maintainedFails, (allLocks_iff b _).mpr hl, if_neg nofun, (barriersClosed_iff b).mpr hb, if_neg nofun]

/-- A recorded next movement changes nothing that a start reads or writes from. -/
theorem movementStarts_of_setNext {m : Movement} {b c : Blocks} (h : MovementStarts m (setNext none b) c) :
    MovementStarts m b c := by
  intro l
  have arrived : alreadyArrived (setNext none b) l m = alreadyArrived b l m := by cases l <;> rfl
  obtain ⟨releases, stands⟩ := h l
  rw [arrived] at releases stands
  cases l
  · exact ⟨releases, stands⟩
  · exact ⟨releases, stands⟩

theorem takesPart_setNext (m : Movement) (b : Blocks) (l : LeafId) :
    takesPart (setNext none b) l m = takesPart b l m := by cases l <;> rfl

theorem leavesAtRest_setNext {b : Blocks} (h : LeavesAtRest b) : LeavesAtRest (setNext none b) := by
  intro l
  obtain ⟨rest, set, shows⟩ := h l
  cases l
  · exact ⟨rest, set, shows⟩
  · exact ⟨rest, set, shows⟩

section
variable {b : Blocks} {m : Movement} (hw : waitingMovement b = some m) (hb : movementMustWait b = false)
include hw hb

theorem takeNextMovement_dropped (h : b.sil.held = true ∨ ∃ l, leafState b l = .fault) :
    takeNextMovement b = setNext none b := by
  rw [takeNextMovement, hw]
  dsimp only
  rw [hb, if_neg nofun]
  by_cases hh : b.sil.held = true
  · rw [if_pos hh]
  · rw [if_neg hh, if_pos ((anyLeaf_iff _).mpr (by simpa using h.resolve_left hh))]

theorem takeNextMovement_judged (hh : b.sil.held = false) (hf : ¬ ∃ l, leafState b l = .fault) :
    (∀ x, maintainedFails b = some x → takeNextMovement b = setHeld (.maintained x) (setNext none b)) ∧
      (maintainedFails b = none → takeNextMovement b = startMovement m (setNext none b)) := by
  have sound : ¬ anyLeaf (fun l => leafState b l == .fault) = true := fun h => hf (by simpa [anyLeaf_iff] using h)
  constructor <;>
  · intros
    rw [takeNextMovement, hw]
    dsimp only
    rw [hb, if_neg nofun, hh, if_neg nofun, if_neg sound]
    simp_all

end

theorem takeNextMovement_rests {b : Blocks} (h : waitingMovement b = none ∨ movementMustWait b = true) :
    takeNextMovement b = b := by
  unfold takeNextMovement
  split
  · rfl
  next hw => rw [if_pos (h.resolve_left (by simp [hw]))]

/-- A start from leaves that need not wait, once the recorded next movement is taken. -/
theorem startMovement_taken {m : Movement} {b : Blocks} (hb : movementMustWait b = false) :
    (LeavesAtRest b → MovementStarts m b (startMovement m (setNext none b))) ∧
      SpeedsFollow (MovementBegins m b) b.par b.pend (startMovement m (setNext none b)) ∧
      SameBut [.par, .pend, .leaves, .brakes] b (startMovement m (setNext none b)) := by
  refine ⟨fun hr => movementStarts_of_setNext (startMovement_starts m _ (leavesAtRest_setNext hr)), ?_,
    sameBut_join (setNext_sameBut none b) (startMovement_sameBut m _) (by decide) (by decide)⟩
  have begins : MovementBegins m b ↔ (takesPart (setNext none b) .north m || takesPart (setNext none b) .south m) = true := by
    rw [movementBegins_iff, takesPart_setNext, takesPart_setNext]
    exact and_iff_right hb
  have speeds := startMovement_speeds m (setNext none b)
  unfold SpeedsFollow at *
  rw [begins]
  exact speeds

/-! ## LEAVES_LOWER (R13) -/

theorem leafInMotion_stopped {a b : Blocks} (h : LeavesStopped a b) (l : LeafId) :
    leafInMotion b l = leafInMotion a l := by
  have state : leafState b l = (stopped (a.leaves.get l).mot).state := by rw [leafState, h l]
  rw [Bool.eq_iff_iff, leafInMotion_iff, leafInMotion_iff, state, leafState]
  unfold stopped
  split <;> simp_all

theorem stopped_seated (m : MotionRec) : (stopped m).state = .seated ↔ m.state = .seated := by
  unfold stopped
  split <;> simp_all

theorem stopped_fault (m : MotionRec) : (stopped m).state = .fault ↔ m.state = .fault := by
  unfold stopped
  split <;> simp_all

/-- Stopping the leaves first changes nothing about whether a lowering begins. -/
theorem movementBegins_stopped {a b : Blocks} (h : LeavesStopped a b) (hb : b.brakes = a.brakes) :
    MovementBegins .lower b ↔ MovementBegins .lower a := by
  have seated : ∀ l, alreadyArrived b l .lower = alreadyArrived a l .lower := fun l => by
    rw [Bool.eq_iff_iff]
    simp only [alreadyArrived, beq_iff_eq, leafState, h l, stopped_seated]
  have fault : ∀ l, leafState b l ≠ .fault ↔ leafState a l ≠ .fault := fun l => by
    rw [leafState, leafState, h l, not_iff_not, stopped_fault]
  simp only [MovementBegins, leafInMotion_stopped h, hb, seated, fault]

/-- Leaves at rest have nothing to stop. -/
theorem stopLeaves_atRest {b : Blocks} (h : LeavesAtRest b) : (stopLeaves b).leaves = b.leaves := by
  have same : ∀ l, (stopLeaves b).leaves.get l = b.leaves.get l := fun l => by
    have rest := (h l).1
    rw [leafState] at rest
    rw [stopLeaves_get]
    rcases rest with e | e <;> simp [stopped, e]
  have north := same .north
  have south := same .south
  simp only [PerLeaf.get] at north south
  cases hl : (stopLeaves b).leaves
  cases hb : b.leaves
  simp_all

/-- The blocks in which an accepted LEAVES_LOWER directs its movement. -/
def loweringOrdered (b : Blocks) : Blocks := setPhase .lowering (setOrder (some .lower) (dissolveGroup b))

theorem loweringOrdered_sameBut (b : Blocks) : SameBut [.sil, .nav] b (loweringOrdered b) := by
  intro f hf
  cases f <;> first | rfl | exact absurd (by decide) hf

theorem lowerLeaves_held {b : Blocks} (h : b.sil.held = true) : lowerLeaves b = loweringOrdered b := if_pos h

theorem lowerLeaves_lost {b : Blocks} (h : b.sil.held = false) {x : Cond} (hx : maintainedFails b = some x) :
    lowerLeaves b = setHeld (.maintained x) (stopLeaves (loweringOrdered b)) := by
  simp [lowerLeaves, loweringOrdered, h, hx]

theorem lowerLeaves_directs {b : Blocks} (h : b.sil.held = false) (hx : maintainedFails b = none) :
    lowerLeaves b = directMovement .lower (stopLeaves (loweringOrdered b)) := by
  simp [lowerLeaves, loweringOrdered, h, hx]

/-- The dissolved group's waiting vessels are back in the queue (R174). -/
theorem loweringOrdered_queue (b : Blocks) :
    let returned := (b.nav.slots.filter fun x => x.state == .waiting).map Slot.vessel
    let q := (loweringOrdered b).nav.queue
    q.Perm (returned ++ b.nav.queue) ∧
      (∀ k : VesselClass, (q.filter fun v => v.cls == k) = (returned ++ b.nav.queue).filter fun v => v.cls == k) ∧
      (RankOrder b.nav.queue → RankOrder q) := returnVessels _ _

/-- The stop of a running movement before the lowering is directed. -/
theorem loweringStopped (b : Blocks) : LeavesStopped b (stopLeaves (loweringOrdered b)) ∧
    (stopLeaves (loweringOrdered b)).brakes = b.brakes ∧ SameBut [.sil, .nav, .leaves] b (stopLeaves (loweringOrdered b)) :=
  ⟨leavesStopped_stopLeaves (loweringOrdered b), stopLeaves_sameBut (loweringOrdered b) .brakes (by decide),
    sameBut_join (loweringOrdered_sameBut b) (stopLeaves_sameBut _) (by decide) (by decide)⟩

/-- From leaves at rest the lowering finds them as they stood. -/
theorem movementReads_loweringStopped {b : Blocks} (h : LeavesAtRest b) :
    MovementReads b (stopLeaves (loweringOrdered b)) := by
  obtain ⟨-, brakes, same⟩ := loweringStopped b
  have par : (stopLeaves (loweringOrdered b)).par = b.par := same .par (by decide)
  have rest : LeavesAtRest (loweringOrdered b) := h
  exact ⟨stopLeaves_atRest rest, brakes, same .iq (by decide), by rw [par], by rw [par], by rw [par]⟩

/-- A leaf that moves makes the lowering wait, as the next movement of leaves asked to stop. -/
theorem lowering_waits {b : Blocks} (h : ∃ l, leafState b l = .moving) (l : LeafId) :
    (directMovement .lower (stopLeaves (loweringOrdered b))).leaves.get l =
      { b.leaves.get l with mot := { stopped (b.leaves.get l).mot with next := some .lower } } := by
  obtain ⟨stops, -, -⟩ := loweringStopped b
  obtain ⟨j, moves⟩ := h
  have busy : movementMustWait (stopLeaves (loweringOrdered b)) = true := (movementMustWait_iff _).mpr
    (.inl ⟨j, by rw [leafInMotion_stopped stops, leafInMotion_iff]; exact .inr (.inl moves)⟩)
  rw [directMovement, busy, if_pos rfl, setNext_reads, stops l]

/-- The three ways of an accepted LEAVES_LOWER: held, a condition lost, and directed (R13, R20). -/
theorem lowerLeaves_does (b : Blocks) :
    let c := lowerLeaves b
    (b.sil.held = true → c.leaves = b.leaves ∧ c.brakes = b.brakes ∧ c.sil.held = true ∧ c.sil.cause = b.sil.cause) ∧
    (b.sil.held = false → maintainedFails b = none →
      c.sil.held = false ∧ c.sil.cause = b.sil.cause ∧ (LeavesAtRest b → MovementStarts .lower b c) ∧
      ((∃ l : LeafId, leafState b l = .moving) → ∀ l : LeafId, c.leaves.get l =
        { b.leaves.get l with mot := { stopped (b.leaves.get l).mot with next := some .lower } })) ∧
    (b.sil.held = false → ∀ x : Cond, maintainedFails b = some x →
      c.sil.held = true ∧ c.sil.cause = .maintained x ∧ LeavesStopped b c ∧ c.brakes = b.brakes) := by
  intro c
  obtain ⟨stops, brakes, -⟩ := loweringStopped b
  refine ⟨fun h => ?_, fun h hx => ?_, fun h x hx => ?_⟩
  · have e : c = loweringOrdered b := lowerLeaves_held h
    rw [e]
    exact ⟨rfl, rfl, h, rfl⟩
  · have e : c = directMovement .lower (stopLeaves (loweringOrdered b)) := lowerLeaves_directs h hx
    have sil : c.sil = (loweringOrdered b).sil := by
      rw [e]
      exact (directMovement_sameBut _ _ .sil (by decide)).trans (stopLeaves_sameBut _ .sil (by decide))
    refine ⟨by rw [sil]; exact h, by rw [sil]; rfl, fun hr => ?_, fun hm => ?_⟩
    · have reads := movementReads_loweringStopped hr
      rw [e]
      exact (movementStarts_reads reads _ _).mp (directMovement_starts _ ((leavesAtRest_reads reads).mpr hr))
    · rw [e]
      exact lowering_waits hm
  · have e : c = setHeld (.maintained x) (stopLeaves (loweringOrdered b)) := lowerLeaves_lost h hx
    rw [e]
    exact ⟨rfl, rfl, stops, brakes⟩

/-- Of the active parameters and the pending values, a LEAVES_LOWER takes those of a movement start alone (R130). -/
theorem lowerLeaves_speeds (b : Blocks) : SpeedsFollow (b.sil.held = false ∧ maintainedFails b = none ∧
    MovementBegins .lower b) b.par b.pend (lowerLeaves b) := by
  obtain ⟨stops, brakes, same⟩ := loweringStopped b
  have par : (stopLeaves (loweringOrdered b)).par = b.par := same .par (by decide)
  have pend : (stopLeaves (loweringOrdered b)).pend = b.pend := same .pend (by decide)
  cases hh : b.sil.held
  · cases hx : maintainedFails b with
    | some x =>
      rw [lowerLeaves_lost hh hx]
      exact ⟨nofun, fun _ => ⟨par, pend⟩⟩
    | none =>
      have speeds := directMovement_speeds .lower (stopLeaves (loweringOrdered b))
      rw [lowerLeaves_directs hh hx, ← movementBegins_stopped stops brakes]
      rw [par, pend] at speeds
      simpa [SpeedsFollow] using speeds
  · rw [lowerLeaves_held hh]
    exact ⟨nofun, fun _ => ⟨rfl, rfl⟩⟩

/-- Whatever becomes of the movement, the order and the phase are set and the group is dissolved. -/
theorem lowerLeaves_reads (b : Blocks) : (lowerLeaves b).sil.phase = .lowering ∧ (lowerLeaves b).sil.order = some .lower ∧
    (lowerLeaves b).nav = (loweringOrdered b).nav ∧ SameBut [.sil, .nav, .par, .pend, .leaves, .brakes] b (lowerLeaves b) := by
  obtain ⟨-, -, same⟩ := loweringStopped b
  have stop := stopLeaves_sameBut (loweringOrdered b)
  have sil : (stopLeaves (loweringOrdered b)).sil = (loweringOrdered b).sil := stop .sil (by decide)
  cases hh : b.sil.held
  · cases hx : maintainedFails b with
    | some x =>
      rw [lowerLeaves_lost hh hx]
      exact ⟨by rw [setHeld, sil]; rfl, by rw [setHeld, sil]; rfl, stop .nav (by decide),
        sameBut_join same (setHeld_sameBut _ _) (by decide) (by decide)⟩
    | none =>
      have direct := directMovement_sameBut .lower (stopLeaves (loweringOrdered b))
      have kept := (direct .sil (by decide)).trans sil
      rw [lowerLeaves_directs hh hx]
      exact ⟨congrArg Sil.phase kept, congrArg Sil.order kept, (direct .nav (by decide)).trans (stop .nav (by decide)),
        sameBut_join same direct (by decide) (by decide)⟩
  · rw [lowerLeaves_held hh]
    exact ⟨rfl, rfl, rfl, sameBut_mono (loweringOrdered_sameBut b) (by decide)⟩

theorem takesPart_iff (b : Blocks) (l : LeafId) (m : Movement) : takesPart b l m = true ↔
    alreadyArrived b l m = false ∧ leafState b l ≠ .fault := by
  simp [takesPart]

/-- Settles O29: each lowering is a start, a next movement or a hold, and the stop that comes before it changes nothing of
whether it begins. -/
theorem loweringsAreDirected : Obligations.LoweringsAreDirected := by
  refine ⟨?next, ?direct, ?lower, ?recovery⟩
  case next =>
    intro b c waiting busy faulted locks barriers drops
    have waits : ∀ m, waitingMovement b = some m ↔ waiting m := waitingMovement_iff b
    have must : movementMustWait b = true ↔ busy := movementMustWait_iff b
    refine ⟨fun h => takeNextMovement_rests (h.imp (fun hn => Option.eq_none_iff_forall_ne_some.mpr fun m hm =>
      hn m ((waits m).mp hm)) must.mpr), fun m hw hb => ?_⟩
    have waitsFor := (waits m).mpr hw
    have ready : movementMustWait b = false := Bool.eq_false_of_not_eq_true (mt must.mp hb)
    have dropped : c = setNext none b → drops b.sil := fun e => by
      refine ⟨?_, by rw [e]; rfl, fun l => by rw [e]; exact setNext_reads none b l⟩
      rw [e]
      exact sameBut_mono (setNext_sameBut none b) (by decide)
    refine ⟨fun h => dropped (takeNextMovement_dropped waitsFor ready h), fun hh hf => ?_⟩
    obtain ⟨fails, holds⟩ := takeNextMovement_judged waitsFor ready hh hf
    have held : ∀ x, maintainedFails b = some x → drops { b.sil with held := true, cause := .maintained x } := fun x hx => by
      have e : c = _ := fails x hx
      refine ⟨?_, by rw [e]; rfl, fun l => by rw [e]; exact setNext_reads none b l⟩
      rw [e]
      exact sameBut_join (setNext_sameBut none b) (setHeld_sameBut _ _) (by decide) (by decide)
    refine ⟨fun hl => held _ (maintainedFails_locks hl), fun hl hn => held _ (maintainedFails_barriers hl hn), fun hl hn => ?_⟩
    have started : c = _ := holds (maintainedFails_none hl hn)
    rw [started]
    exact ⟨startMovement_next m _, startMovement_taken ready⟩
  case direct =>
    intro m b c busy taking refused
    have must : movementMustWait b = true ↔ busy := movementMustWait_iff b
    refine ⟨directMovement_speeds m b, fun h => ?_, fun h hm l ht hr => ?_⟩
    · have waits : c = setNext (some m) b := if_pos (must.mpr h)
      rw [waits]
      exact ⟨setNext_sameBut _ b, setNext_reads _ b⟩
    · have starts : c = startMovement m b := if_neg (mt must.mp h)
      have takes : ∀ l, takesPart b l m = true ↔ taking l := fun l => takesPart_iff b l m
      have refuses : ∀ l, refusesRelease b l = true ↔ refused l := refusesRelease_iff b
      have still : leafInMotion b (otherLeaf l) = false := Bool.eq_false_of_not_eq_true fun hl => h (.inl ⟨_, hl⟩)
      obtain ⟨fault, first, kinds, command, brake⟩ := startMovement_refused hm ((takes l).mpr ht) ((refuses l).mpr hr)
      obtain ⟨stops, stands⟩ := startMovement_beside hm still ((takes l).mpr ht) ((refuses l).mpr hr)
      rw [starts]
      exact ⟨fault, first, kinds, command, brake,
        fun hto hro => stops ((takes _).mpr hto) (Bool.eq_false_of_not_eq_true (mt (refuses _).mp hro)),
        fun hto => stands (Bool.eq_false_of_not_eq_true (mt (takes _).mp hto)),
        sameBut_mono (startMovement_sameBut m b) (by decide)⟩
  case lower =>
    intro tag s hq b returned hm hp hc
    have phase : (b.sil.phase == .raising || b.sil.phase == .opened) = true := by simpa using hp
    obtain ⟨lowering, order, nav, same⟩ := lowerLeaves_reads b
    obtain ⟨perm, filter, rank⟩ := loweringOrdered_queue b
    obtain ⟨held, directed, lost⟩ := lowerLeaves_does b
    refine ⟨_, exec_accepted (effect := lowerLeaves) (permit := permitLower) rfl rfl hq hm phase hc, lowering, order,
      ?_, ?_, ?_, ?_, held, directed, lost, lowerLeaves_speeds b, same⟩
    all_goals rw [show (lowerLeaves (atTaking s)).nav = _ from nav]
    · rfl
    · exact perm
    · exact filter
    · exact rank
  case recovery =>
    intro tag s hq b hm hp hl hc
    have phase : ((b.sil.phase == .recovery || b.sil.phase == .unlocked) && recoveryNeeded b) = true := by
      rw [(recoveryNeeded_iff b).mpr hl]
      simpa using hp
    have reads : MovementReads b (setOrder (some .recoveryLower) b) := ⟨rfl, rfl, rfl, rfl, rfl, rfl⟩
    obtain ⟨speeds, held, starts, same⟩ := directUnlessHeld_does reads .recoveryLower
    exact ⟨_, exec_accepted (effect := recoveryLowerLeaves) (permit := permitRecovery) rfl rfl hq hm phase hc,
      same .sil (by decide), held, starts, speeds,
      sameBut_join (setOrder_sameBut _ b) same (by decide) (by decide)⟩

end Sys2Proof.Proofs

/-! MOTION_RESUME: the road, the locks and the leaves go on (R23, R99, R153, R156). -/

namespace Sys2Proof.Proofs

open Sys2Proof.Machine Sys2Proof.Safety

/-! ## The calls given again (R99) -/

/-- The table of the calls: who is called down, who is stopped in CLEARANCE, and RAISE for the rest (R88). -/
theorem roadCall_eq (p : RoadPhase) (paused : Bool) (i : BarrierId) : roadCall p paused i =
    if p = .alert then none
    else if p = .exitLowering ∨ p = .roadClosed ∨
      (isEntry i = true ∧ (p = .entryLowering ∨ p = .clearance ∨ p = .exitRaising)) then some .lower
    else if p = .clearance ∧ paused = true then some .stop else some .raise := by
  cases h : isEntry i
  · cases p with
    | clearance => cases paused <;> simp [roadCall, h]
    | _ => simp [roadCall, h]
  · cases p <;> simp [roadCall, h]

theorem recommandBarrier_none {b : Blocks} {i : BarrierId} (h : roadCall b.rsq.phase b.rsq.exitPaused i = none) :
    recommandBarrier b i = b := by
  simp only [recommandBarrier, h]

theorem recommandBarrier_get {b : Blocks} {i : BarrierId} {c : BarrierCmd}
    (h : roadCall b.rsq.phase b.rsq.exitPaused i = some c) : (recommandBarrier b i).barriers.get i =
      if ((b.barriers.get i).command ≠ c ∨ (b.barriers.get i).state = .stopped ∨ (b.barriers.get i).state = .fault) ∧
          ¬ (c = .raise ∧ staysDown b i = true)
      then (barrierCommand i c b).barriers.get i else b.barriers.get i := by
  simp only [recommandBarrier, h]
  split_ifs <;> tauto

theorem ownBarrier_recommandBarrier : OwnBarrier recommandBarrier where
  frame := recommandBarrier_sameBut
  other b i j h := by
    unfold recommandBarrier
    split
    · rfl
    · dsimp only
      split_ifs
      · rfl
      · exact barrierCommand_get_other i _ b h
      · rfl
  own a b i hs hr := by
    have road : b.rsq = a.rsq := hs .rsq (by decide)
    have sil : b.sil = a.sil := hs .sil (by decide)
    unfold recommandBarrier staysDown
    rw [road, sil, hr]
    split
    · exact hr
    · dsimp only
      split_ifs
      · exact hr
      · exact barrierCommand_congr i _ (hs .iq (by decide)) hr
      · exact hr

/-- The road once every barrier has its call again and the proven entries are out of the override table (R25, R99). -/
def roadCalled (b : Blocks) : Blocks := dropOverrides (BarrierId.all.foldl recommandBarrier b)

theorem roadCalled_get (b : Blocks) (i : BarrierId) :
    (roadCalled b).barriers.get i = (recommandBarrier b i).barriers.get i := ownBarrier_recommandBarrier.all_get b i

theorem recommanded_sameBut (b : Blocks) : SameBut [.barriers] b (BarrierId.all.foldl recommandBarrier b) :=
  sameBut_foldl recommandBarrier recommandBarrier_sameBut _ b

theorem roadCalled_sameBut (b : Blocks) : SameBut [.barriers, .sil] b (roadCalled b) :=
  sameBut_join (recommanded_sameBut b) (dropOverrides_sameBut _) (by decide) (by decide)

theorem roadCalled_sil (b : Blocks) : (roadCalled b).sil = { b.sil with
    overrides := b.sil.overrides.filter (overrideStands (BarrierId.all.foldl recommandBarrier b)) } := by
  have sil : (BarrierId.all.foldl recommandBarrier b).sil = b.sil := recommanded_sameBut b .sil (by decide)
  rw [roadCalled, dropOverrides, sil]

theorem overrideStands_barrier (b : Blocks) (i : BarrierId) : overrideStands b (.barrier i) =
    decide ((b.barriers.get i).state ≠ .up ∧ (b.barriers.get i).state ≠ .down) := by
  rw [Bool.eq_iff_iff, decide_eq_true_iff]
  exact overrideStands_iff b (.barrier i)

/-- No call to a barrier changes what an approach holds. -/
theorem overrideStands_complement (b : Blocks) (a : Approach) :
    overrideStands (BarrierId.all.foldl recommandBarrier b) (.complement a) = !holdsComplement b a := by
  have slu : (BarrierId.all.foldl recommandBarrier b).slu = b.slu := recommanded_sameBut b .slu (by decide)
  unfold overrideStands holdsComplement lampRec
  rw [slu]

/-- An approach that loses its override holds its complement, so the complement test reads as before. -/
theorem complementFailing_roadCalled (b : Blocks) : complementFailing (roadCalled b) = complementFailing b := by
  have after : (roadCalled b).slu = b.slu := roadCalled_sameBut b .slu (by decide)
  have holds : ∀ a, holdsComplement (roadCalled b) a = holdsComplement b a := fun a => by
    unfold holdsComplement lampRec
    rw [after]
  have passes : ∀ a, complementPasses (roadCalled b) a = complementPasses b a := fun a => by
    rw [complementPasses, complementPasses, holds, roadCalled_sil]
    cases h : holdsComplement b a
    · simp [overrideStands_complement, h]
    · rfl
  rw [complementFailing, complementFailing, passes, passes]

/-! ## The pending step (R99) -/

theorem takePendingStep_none {b : Blocks} (h : b.rsq.step = .none) : takePendingStep b = b := by
  simp only [takePendingStep, h]

theorem takePendingStep_redWarn {b : Blocks} (h : b.rsq.step = .enterRedWarn) :
    takePendingStep b = enterRedWarn (setStep .none b) := by
  simp only [takePendingStep, h]

/-- A complement test that passes enters ENTRY_LOWERING, the HELD flag being clear. -/
theorem takePendingStep_entryLowering {b : Blocks} (h : b.rsq.step = .enterEntryLowering) (hh : b.sil.held = false)
    (hc : complementFailing b = .none) : takePendingStep b = enterPhase .entryLowering (setStep .none b) := by
  have failing : complementFailing (setStep .none b) = .none := hc
  simp [takePendingStep, h, testComplement, failing, hh]

theorem takePendingStep_complementWait {b : Blocks} (h : b.rsq.step = .enterEntryLowering)
    (hc : complementFailing b ≠ .none) :
    takePendingStep b = setWait (complementFailing b) (setStep .none b) := by
  have failing : complementFailing (setStep .none b) = complementFailing b := rfl
  simp only [takePendingStep, h, testComplement, failing]
  cases e : complementFailing b <;> simp_all

theorem takePendingStep_exitLowering {b : Blocks} (h : b.rsq.step = .enterExitLowering) : takePendingStep b =
    if b.rsq.clearance = .runOut then enterPhase .exitLowering (setStep .none b) else setStep .none b := by
  simp only [takePendingStep, h]

theorem takePendingStep_entryRaising {b : Blocks} (h : b.rsq.step = .enterEntryRaising) :
    takePendingStep b = enterPhase .entryRaising (setStep .none b) := by
  simp only [takePendingStep, h]

/-! ## The locks (R156) -/

theorem ownLock_resumeLock : OwnLock resumeLock where
  frame b k := by
    unfold resumeLock
    exact sameBut_ite (lockCommand_sameBut k _ b) (sameBut_refl _ b)
  other b k j h := by
    unfold resumeLock
    dsimp only
    split
    · exact lockCommand_get_other k _ b h
    · rfl
  own a b k hs hr := by
    unfold resumeLock
    dsimp only
    rw [hr]
    split
    · exact lockCommand_congr k _ (hs .iq (by decide)) hr
    · exact hr

theorem resumeLock_get (b : Blocks) (k : LockId) : (resumeLock b k).locks.get k =
    if (b.locks.get k).state = .interrupted ∧ (b.locks.get k).command ≠ .off
    then (lockCommand k (b.locks.get k).command b).locks.get k else b.locks.get k := by
  unfold resumeLock
  dsimp only
  split <;> rfl

theorem lock_all (k : LockId) : k ∈ LockId.all := by cases k <;> decide

/-- Every lock that is INTERRUPTED has its own command again. -/
theorem resumeLocks_get (b : Blocks) (k : LockId) : (resumeLocks b).locks.get k =
    if (b.locks.get k).state = .interrupted ∧ (b.locks.get k).command ≠ .off
    then (lockCommand k (b.locks.get k).command b).locks.get k else b.locks.get k := by
  rw [resumeLocks, locks_foldl_get ownLock_resumeLock LockId.all b (by decide) (lock_all k), resumeLock_get]

/-! ## The advance of a sequence in either step (R153) -/

/-- A sequence in its second step. -/
def atSecondStep (b : Blocks) : Blocks := { b with seq := { b.seq with step := secondStep b.seq.sequence } }

theorem mem_stepLocks {s : SeqStep} (hs : s ≠ .none) (k : LockId) : k ∈ stepLocks s ↔ (s = .centre ↔ k = .centre) := by
  cases s
  · exact absurd rfl hs
  · cases k <;> simp [stepLocks]
  · cases k <;> simp [stepLocks]

section
variable {b : Blocks} (ha : advanceAllowed b = true)
include ha

theorem advance_first (hs : b.seq.step ≠ secondStep b.seq.sequence) (hd : ¬ stepDone b b.seq = true) :
    advanceSequence b = commandStep b := by
  rw [advanceSequence, if_pos ha, if_neg hs, if_neg hd]

theorem advance_second (h : b.seq.step = secondStep b.seq.sequence ∨ stepDone b b.seq = true) :
    advanceSequence b = advanceSecond (atSecondStep b) := by
  rw [advanceSequence, if_pos ha]
  by_cases hs : b.seq.step = secondStep b.seq.sequence
  · have same : atSecondStep b = b := by rw [atSecondStep, ← hs]
    rw [if_pos hs, same]
  · rw [if_neg hs, if_pos (h.resolve_left hs)]
    rfl

end

/-! ## MOTION_RESUME (R23) -/

/-- The hold is cleared and its report noted. -/
def holdCleared (b : Blocks) : Blocks := note .span { b with sil := { b.sil with held := false, cause := .none } }

/-- The blocks once the road has resumed, once the locks have, and once the sequence has advanced. -/
def roadResumed (b : Blocks) : Blocks := takePendingStep (roadCalled (holdCleared b))

def locksResumed (b : Blocks) : Blocks := resumeLocks (roadResumed b)

theorem resumeMotion_eq (b : Blocks) : resumeMotion b = resumeMovement (advanceSequence (locksResumed b)) := rfl

theorem holdCleared_sameBut (b : Blocks) : SameBut [.sil, .notes] b (holdCleared b) := by
  intro f hf
  cases f <;> first | rfl | exact absurd (by decide) hf

theorem called_sameBut (b : Blocks) : SameBut [.sil, .notes, .barriers] b (roadCalled (holdCleared b)) :=
  sameBut_join (holdCleared_sameBut b) (roadCalled_sameBut _) (by decide) (by decide)

theorem roadResumed_sameBut (b : Blocks) : SameBut [.sil, .notes, .rsq, .slu, .barriers] b (roadResumed b) :=
  sameBut_join (called_sameBut b) (takePendingStep_sameBut _) (by decide) (by decide)

theorem locksResumed_sameBut (b : Blocks) : SameBut [.sil, .notes, .rsq, .slu, .barriers, .locks] b (locksResumed b) :=
  sameBut_join (roadResumed_sameBut b) (resumeLocks_sameBut _) (by decide) (by decide)

theorem advanced_sameBut (b : Blocks) :
    SameBut [.sil, .notes, .rsq, .slu, .barriers, .locks, .seq] b (advanceSequence (locksResumed b)) :=
  sameBut_join (locksResumed_sameBut b) (advanceSequence_sameBut _) (by decide) (by decide)

theorem resumeMovement_sameBut (b : Blocks) : SameBut [.leaves, .brakes, .par, .pend] b (resumeMovement b) := by
  unfold resumeMovement
  split
  · exact sameBut_refl _ b
  · exact sameBut_ite (sameBut_refl _ b) (directMovement_sameBut _ b)

/-- The road of the result is the road resumed: neither the locks nor the leaves touch it. -/
theorem resumeMotion_road (b : Blocks) :
    SameBut [.locks, .seq, .leaves, .brakes, .par, .pend] (roadResumed b) (resumeMotion b) :=
  sameBut_join (sameBut_join (hs := [.locks, .seq]) (resumeLocks_sameBut (roadResumed b)) (advanceSequence_sameBut _)
    (by decide) (by decide)) (resumeMovement_sameBut _) (by decide) (by decide)

/-- The flag, its cause and the overrides after a resumption. -/
theorem roadResumed_sil (b : Blocks) : (roadResumed b).sil = { b.sil with
    held := false
    cause := .none
    overrides := b.sil.overrides.filter (overrideStands (BarrierId.all.foldl recommandBarrier (holdCleared b))) } := by
  have sil : (roadResumed b).sil = (roadCalled (holdCleared b)).sil := takePendingStep_sameBut _ .sil (by decide)
  rw [sil, roadCalled_sil]
  rfl

/-- A pending step is taken from the road as the calls have left it. -/
theorem called_reads (b : Blocks) : (roadCalled (holdCleared b)).rsq = b.rsq ∧ (roadCalled (holdCleared b)).slu = b.slu ∧
    (roadCalled (holdCleared b)).par = b.par ∧ (roadCalled (holdCleared b)).sil.held = false ∧
    complementFailing (roadCalled (holdCleared b)) = complementFailing b := by
  have same := called_sameBut b
  refine ⟨same .rsq (by decide), same .slu (by decide), same .par (by decide), ?_, ?_⟩
  · rw [roadCalled_sil]
    rfl
  · rw [complementFailing_roadCalled]
    exact complementFailing_congr rfl rfl

/-- The pending step of the road at a resumption (R99). -/
theorem roadResumed_step (b : Blocks) : let c := roadResumed b
    (b.rsq.step = .none → c.rsq = b.rsq ∧ c.slu = b.slu ∧
      ∀ i, c.barriers.get i = (recommandBarrier (holdCleared b) i).barriers.get i) ∧
    (b.rsq.step = .enterRedWarn → c.rsq.phase = .redWarn ∧ c.rsq.timer = .running b.par.preEntryMs ∧
      c.rsq.step = .none ∧ c.rsq.bells = ⟨true, true⟩ ∧ c.slu = { b.slu with aspects := ⟨.redFlash, .redFlash⟩ }) ∧
    (b.rsq.step = .enterEntryLowering → complementFailing b = .none → c.rsq.phase = .entryLowering ∧
      c.rsq.timer = .idle ∧ c.rsq.step = .none ∧ c.rsq.wait = .none) ∧
    (b.rsq.step = .enterEntryLowering → complementFailing b ≠ .none →
      c.rsq = { b.rsq with step := .none, wait := complementFailing b } ∧ c.slu = b.slu) ∧
    (b.rsq.step = .enterExitLowering → b.rsq.clearance = .runOut → c.rsq.phase = .exitLowering ∧
      c.rsq.clearance = .idle ∧ c.rsq.step = .none) ∧
    (b.rsq.step = .enterExitLowering → b.rsq.clearance ≠ .runOut → c.rsq = { b.rsq with step := .none } ∧ c.slu = b.slu) ∧
    (b.rsq.step = .enterEntryRaising → c.rsq.phase = .entryRaising ∧ c.rsq.step = .none ∧ c.rsq.bells = ⟨false, false⟩) := by
  intro c
  obtain ⟨rsq, slu, par, held, failing⟩ := called_reads b
  have get := roadCalled_get (holdCleared b)
  have result : c = takePendingStep (roadCalled (holdCleared b)) := rfl
  generalize roadCalled (holdCleared b) = y at *
  rw [result, ← rsq, ← slu, ← par, ← failing]
  refine ⟨fun h => ?_, fun h => ?_, fun h hc => ?_, fun h hc => ?_, fun h hc => ?_, fun h hc => ?_, fun h => ?_⟩
  · rw [takePendingStep_none h]
    exact ⟨rfl, rfl, get⟩
  · rw [takePendingStep_redWarn h, enterRedWarn, setRoadTimer, enterPhase_rsq, enterPhase_slu]
    exact ⟨rfl, rfl, rfl, rfl, rfl⟩
  · rw [takePendingStep_entryLowering h held hc, enterPhase_rsq]
    exact ⟨rfl, rfl, rfl, rfl⟩
  · rw [takePendingStep_complementWait h hc]
    exact ⟨rfl, rfl⟩
  · rw [takePendingStep_exitLowering h, if_pos hc, enterPhase_rsq]
    exact ⟨rfl, rfl, rfl⟩
  · rw [takePendingStep_exitLowering h, if_neg hc]
    exact ⟨rfl, rfl⟩
  · rw [takePendingStep_entryRaising h, enterPhase_rsq]
    exact ⟨rfl, rfl, rfl⟩

theorem lockCommand_interrupted {k : LockId} (c : LockCmd) {b : Blocks} (h : (b.locks.get k).state = .interrupted) :
    (lockCommand k c b).locks.get k = if lockTarget c = some (lockShows b k)
      then { b.locks.get k with command := c, state := lockDone c, timer := .idle } else (b.locks.get k).travel c := by
  simp only [lockCommand, h]
  split <;> rw [setLock_get]

/-- What a resumption makes of a lock before its sequence advances. -/
def lockBack (b : Blocks) (k : LockId) : LockRec :=
  if (b.locks.get k).state = .interrupted ∧ (b.locks.get k).command ≠ .off
  then (lockCommand k (b.locks.get k).command b).locks.get k else b.locks.get k

theorem locksResumed_get (b : Blocks) (k : LockId) : (locksResumed b).locks.get k = lockBack b k := by
  have locks : (roadResumed b).locks = b.locks := roadResumed_sameBut b .locks (by decide)
  rw [locksResumed, resumeLocks_get, lockBack, locks]
  exact if_congr Iff.rfl (lockCommand_congr k _ (roadResumed_sameBut b .iq (by decide)) (by rw [locks])) rfl

/-- An interrupted lock stands at its target where its switches show it, and travels on otherwise. -/
theorem lockBack_cases (b : Blocks) (k : LockId) :
    ((b.locks.get k).state ≠ .interrupted ∨ (b.locks.get k).command = .off → lockBack b k = b.locks.get k) ∧
    ((b.locks.get k).state = .interrupted → (b.locks.get k).command = .withdraw → lockBack b k =
      if lockShows b k = .second then { b.locks.get k with state := .withdrawn, timer := .idle }
      else { b.locks.get k with state := .withdrawing, timer := .running 0 }) ∧
    ((b.locks.get k).state = .interrupted → (b.locks.get k).command = .drive → lockBack b k =
      if lockShows b k = .first then { b.locks.get k with state := .driven, timer := .idle }
      else { b.locks.get k with state := .driving, timer := .running 0 }) := by
  have again : (b.locks.get k).state = .interrupted → (b.locks.get k).command ≠ .off → lockBack b k =
      if lockTarget (b.locks.get k).command = some (lockShows b k)
      then { b.locks.get k with state := lockDone (b.locks.get k).command, timer := .idle }
      else { b.locks.get k with state := lockTravel (b.locks.get k).command, timer := .running 0 } := fun hi ho => by
    rw [lockBack, if_pos ⟨hi, ho⟩, lockCommand_interrupted _ hi]
    rfl
  refine ⟨fun h => if_neg fun hn => h.elim (fun h => h hn.1) hn.2, fun hi hc => ?_, fun hi hc => ?_⟩
  · rw [again hi (by rw [hc]; nofun), hc]
    exact if_congr (by simp [lockTarget, eq_comm]) rfl rfl
  · rw [again hi (by rw [hc]; nofun), hc]
    exact if_congr (by simp [lockTarget, eq_comm]) rfl rfl

/-- Every lock that a step names stands at its target once the interrupted ones have their commands again. -/
def DoneIn (b : Blocks) (target : LockState) (step : SeqStep) : Prop :=
  ∀ k : LockId, (step = .centre ↔ k = .centre) → (lockBack b k).state = target

/-- In `c` the locks that a step names have been commanded, but those in FAULT and those at their target. -/
def CommandedIn (b : Blocks) (x : LockCmd) (target : LockState) (step : SeqStep) (c : Blocks) : Prop :=
  ∀ k : LockId, c.locks.get k =
    if (step = .centre ↔ k = .centre) ∧ (lockBack b k).state ≠ .fault ∧ (lockBack b k).state ≠ target then
      (lockCommand k x (setLock k (lockBack b k) b)).locks.get k
    else lockBack b k

section
variable {b y : Blocks} (hl : ∀ k, y.locks.get k = lockBack b k) (hs : y.seq.step ≠ .none)
include hl hs

theorem stepDone_resumed : stepDone y y.seq = true ↔ DoneIn b (lockDone (sequenceCommand y.seq.sequence)) y.seq.step := by
  rw [stepDone_iff]
  exact forall_congr' fun k => by rw [mem_stepLocks hs, hl]

theorem commandStep_resumed (hq : y.iq = b.iq) : CommandedIn b (sequenceCommand y.seq.sequence)
    (lockDone (sequenceCommand y.seq.sequence)) y.seq.step (commandStep y) := fun k => by
  rw [commandStep_get, hl]
  exact if_congr (and_congr_left fun _ => mem_stepLocks hs k)
    (lockCommand_congr k _ (show y.iq = (setLock k (lockBack b k) b).iq from hq) (by rw [hl, setLock_get])) rfl

end

/-- The advance of a RUNNING sequence at a resumption, in its first step and in its second (R153, R156). -/
theorem advance_resumed {b y : Blocks} (locks : ∀ k, y.locks.get k = lockBack b k) (iq : y.iq = b.iq) (seq : y.seq = b.seq)
    (ha : advanceAllowed y = true) {first second : SeqStep}
    (hsec : secondStep b.seq.sequence = second) (hf : first ≠ .none) (hn : second ≠ .none) (hne : first ≠ second)
    (hstep : b.seq.step = first ∨ b.seq.step = second) :
    let c := advanceSequence y
    let x := sequenceCommand b.seq.sequence
    (b.seq.step = first → ¬ DoneIn b (lockDone x) first → c.seq = b.seq ∧ CommandedIn b x (lockDone x) first c) ∧
    (b.seq.step = second ∨ DoneIn b (lockDone x) first → ¬ DoneIn b (lockDone x) second →
      c.seq = { b.seq with step := second } ∧ CommandedIn b x (lockDone x) second c) ∧
    (b.seq.step = second ∨ DoneIn b (lockDone x) first → DoneIn b (lockDone x) second →
      c.seq = { b.seq with step := second, status := .complete } ∧ ∀ k, c.locks.get k = lockBack b k) := by
  intro c x
  have atSecond : (atSecondStep y).seq = { b.seq with step := second } := by
    rw [atSecondStep, seq, hsec]
  have secondDone := stepDone_resumed (b := b) (y := atSecondStep y) locks (by rw [atSecond]; exact hn)
  have secondCommanded := commandStep_resumed (b := b) (y := atSecondStep y) locks (by rw [atSecond]; exact hn) iq
  rw [atSecond] at secondDone secondCommanded
  have firstDone : b.seq.step = first → (stepDone y y.seq = true ↔ DoneIn b (lockDone x) first) := fun h => by
    rw [stepDone_resumed locks (by rw [seq, h]; exact hf), seq, h]
  have moves : b.seq.step = second ∨ DoneIn b (lockDone x) first → c = advanceSecond (atSecondStep y) :=
    fun h => advance_second ha (by
      rw [seq, hsec, ← seq]
      rcases hstep with e | e
      · exact .inr ((firstDone e).mpr (h.resolve_left fun h => hne (e.symm.trans h)))
      · exact .inl (seq ▸ e))
  refine ⟨fun h hd => ?_, fun h hd => ?_, fun h hd => ?_⟩
  · have stays : c = commandStep (y) :=
      advance_first ha (by rw [seq, h, hsec]; exact hne) (mt (firstDone h).mp hd)
    have commanded := commandStep_resumed locks (by rw [seq, h]; exact hf) iq
    rw [seq, h] at commanded
    rw [stays]
    exact ⟨(commandStep_sameBut _ .seq (by decide)).trans seq, commanded⟩
  · have stays : c = commandStep (atSecondStep (y)) := by
      rw [moves h, advanceSecond, atSecond, if_neg (mt secondDone.mp hd)]
    rw [stays]
    exact ⟨(commandStep_sameBut _ .seq (by decide)).trans atSecond, secondCommanded⟩
  · have ends : c = { atSecondStep (y) with seq := { b.seq with step := second, status := .complete } } := by
      rw [moves h, advanceSecond, atSecond, if_pos (secondDone.mpr hd)]
    rw [ends]
    exact ⟨rfl, locks⟩

/-! ## P_RESUME (R23) -/

theorem movementToRestart_iff (b : Blocks) : movementToRestart b = true ↔
    ∃ m, b.sil.order = some m ∧ movementComplete b m = false := by
  unfold movementToRestart
  cases b.sil.order <;> simp

theorem sequenceToContinue_iff (b : Blocks) : sequenceToContinue b = true ↔
    b.seq.status = .running ∨ ∃ k, (b.locks.get k).state = .interrupted := by
  simp [sequenceToContinue, LockId.all, exists_lock]

theorem roadAtRest_iff (p : RoadPhase) : roadAtRest p = true ↔ p = .roadOpen ∨ p = .roadClosed ∨ p = .alert := by
  cases p <;> simp [roadAtRest]

/-- With its permit holding, a sequence that runs may advance once the hold is cleared. -/
theorem advanceAllowed_resumed {b : Blocks} (hc : permitFails b (permitResume b) = none) (hr : b.seq.status = .running) :
    advanceAllowed (locksResumed b) = true := by
  have conds := (permitFails_eq_none b _).mp hc
  have latch : b.sil.latch = false := conds .estopLatched (by simp [permitResume])
  have continues : sequenceToContinue b = true := (sequenceToContinue_iff b).mpr (.inl hr)
  have seated : condFails b .leafNotSeated = false := conds .leafNotSeated (by simp [permitResume, condsWhen, continues])
  have same := locksResumed_sameBut b
  have sil : (locksResumed b).sil = (roadResumed b).sil := resumeLocks_sameBut _ .sil (by decide)
  refine (advanceAllowed_iff _).mpr ⟨?_, by rw [sil, roadResumed_sil], by rw [sil, roadResumed_sil]; exact latch, ?_⟩
  · rw [show (locksResumed b).seq = b.seq from same .seq (by decide), hr]
  · have both : bothSeated (locksResumed b) = bothSeated b := by
      simp only [bothSeated, leafState_reads (movementReads_of_sameBut same)]
    simpa [condFails, both] using seated

/-- A sequence that does not run is left as it stands, but that the interrupted locks have their commands again. -/
theorem advance_rests {b : Blocks} (h : b.seq.status ≠ .running) :
    advanceSequence (locksResumed b) = locksResumed b := by
  have seq : (locksResumed b).seq = b.seq := locksResumed_sameBut b .seq (by decide)
  exact if_neg fun ha => h (by rw [← seq]; exact ((advanceAllowed_iff _).mp ha).1)

/-! ## The movement (R23, R128) -/

theorem movementReads_advanced (b : Blocks) : MovementReads b (advanceSequence (locksResumed b)) :=
  movementReads_of_sameBut (advanced_sameBut b)

theorem movementComplete_reads {a b : Blocks} (k : MovementReads a b) (m : Movement) :
    movementComplete b m = movementComplete a m := by
  cases m <;> simp only [movementComplete, bothSeated, bothArrived, leafState_reads k, k.leaves]

/-- A resumption directs the ordered movement again unless it is complete. -/
theorem resumeMotion_movement (b : Blocks) :
    (movementToRestart b = false → resumeMotion b = advanceSequence (locksResumed b)) ∧
    (∀ m, b.sil.order = some m → movementComplete b m = false →
      resumeMotion b = directMovement m (advanceSequence (locksResumed b))) := by
  have reads := movementReads_advanced b
  have order : (advanceSequence (locksResumed b)).sil.order = b.sil.order := by
    have sil : (advanceSequence (locksResumed b)).sil = (roadResumed b).sil :=
      sameBut_join (hs := [.locks, .seq]) (resumeLocks_sameBut (roadResumed b)) (advanceSequence_sameBut _) (by decide)
        (by decide) .sil (by decide)
    rw [sil, roadResumed_sil]
  rw [resumeMotion_eq]
  refine ⟨fun h => ?_, fun m hm hc => ?_⟩
  · unfold resumeMovement
    split
    · rfl
    next m hm =>
      refine if_pos ?_
      rw [movementComplete_reads reads]
      exact Bool.eq_true_of_not_eq_false fun hc => by
        rw [(movementToRestart_iff b).mpr ⟨m, by rw [← order, hm], hc⟩] at h
        cases h
  · simp [resumeMovement, order, hm, movementComplete_reads reads, hc]

/-- The movement of a resumption: none, or the ordered one again (R23, R128, R130). -/
theorem resumeMotion_leaves (b : Blocks) : let c := resumeMotion b
    (movementToRestart b = false → c.leaves = b.leaves ∧ c.brakes = b.brakes) ∧
    (LeavesAtRest b → ∀ m, b.sil.order = some m → movementComplete b m = false → MovementStarts m b c) ∧
    SpeedsFollow (∃ m, b.sil.order = some m ∧ movementComplete b m = false ∧ MovementBegins m b) b.par b.pend c := by
  intro c
  obtain ⟨rests, directs⟩ := resumeMotion_movement b
  have reads := movementReads_advanced b
  have same := advanced_sameBut b
  have par : (advanceSequence (locksResumed b)).par = b.par := same .par (by decide)
  have pend : (advanceSequence (locksResumed b)).pend = b.pend := same .pend (by decide)
  refine ⟨fun h => ?_, fun hr m hm hc => ?_, ?_⟩
  · rw [show c = _ from rests h]
    exact ⟨reads.leaves, reads.brakes⟩
  · rw [show c = _ from directs m hm hc]
    exact (movementStarts_reads reads m _).mp (directMovement_starts m ((leavesAtRest_reads reads).mpr hr))
  · by_cases h : ∃ m, b.sil.order = some m ∧ movementComplete b m = false
    · obtain ⟨m, hm, hc⟩ := h
      have begins : (∃ m, b.sil.order = some m ∧ movementComplete b m = false ∧ MovementBegins m b) ↔ MovementBegins m b :=
        ⟨fun ⟨n, hn, _, hb⟩ => Option.some.inj (hm.symm.trans hn) ▸ hb, fun hb => ⟨m, hm, hc, hb⟩⟩
      have speeds := directMovement_speeds m (advanceSequence (locksResumed b))
      rw [par, pend] at speeds
      rw [show c = _ from directs m hm hc]
      unfold SpeedsFollow at *
      rw [begins, ← movementBegins_reads reads m]
      exact speeds
    · rw [show c = _ from rests (Bool.eq_false_of_not_eq_true (mt (movementToRestart_iff b).mp h))]
      exact ⟨fun ⟨m, hm, hc, _⟩ => absurd ⟨m, hm, hc⟩ h, fun _ => ⟨par, pend⟩⟩

theorem resumeMotion_notes (b : Blocks) : (resumeMotion b).notes = b.notes ++ [.span] := by
  have road : (resumeMotion b).notes = (roadResumed b).notes := resumeMotion_road b .notes (by decide)
  have step : (roadResumed b).notes = (roadCalled (holdCleared b)).notes := takePendingStep_sameBut _ .notes (by decide)
  have calls : (roadCalled (holdCleared b)).notes = (holdCleared b).notes := roadCalled_sameBut _ .notes (by decide)
  rw [road, step, calls]
  rfl

/-- The call given to a barrier once the hold is cleared reads what stood before. -/
theorem recalled_get {b : Blocks} {i : BarrierId} {x : BarrierCmd}
    (h : roadCall b.rsq.phase b.rsq.exitPaused i = some x) : (recommandBarrier (holdCleared b) i).barriers.get i =
      if ((b.barriers.get i).command ≠ x ∨ (b.barriers.get i).state = .stopped ∨ (b.barriers.get i).state = .fault) ∧
          ¬ (x = .raise ∧ b.sil.phase = .recovery ∧ closureRunning b.rsq.phase = true ∧ (b.barriers.get i).state = .down)
      then (barrierCommand i x b).barriers.get i else b.barriers.get i := by
  rw [recommandBarrier_get (b := holdCleared b) h]
  exact if_congr (and_congr_right fun _ => not_congr (and_congr_right fun _ => staysDown_iff (holdCleared b) i))
    (barrierCommand_congr i x rfl rfl) rfl

theorem recalled_alone {b : Blocks} {i : BarrierId} (h : roadCall b.rsq.phase b.rsq.exitPaused i = none) :
    (recommandBarrier (holdCleared b) i).barriers.get i = b.barriers.get i := by
  rw [recommandBarrier_none (b := holdCleared b) h]
  rfl

/-- The movement touches neither the sequence nor the locks. -/
theorem resumeMotion_locks (b : Blocks) : (resumeMotion b).seq = (advanceSequence (locksResumed b)).seq ∧
    (resumeMotion b).locks = (advanceSequence (locksResumed b)).locks :=
  ⟨resumeMovement_sameBut _ .seq (by decide), resumeMovement_sameBut _ .locks (by decide)⟩

/-- Settles O31: the road, the locks and the leaves resume one after the other, each from records that the others leave alone. -/
theorem motionResumeClearsTheHold : Obligations.MotionResumeClearsTheHold := by
  refine ⟨fun b => ?permit, ?calls, fun tag s hq => ?resume⟩
  case permit =>
    intro restarts continues roadRests
    have moves : movementToRestart b = true ↔ restarts := by
      rw [movementToRestart_iff]
      refine exists_congr fun m => and_congr_right fun _ => ?_
      rw [← Bool.not_eq_true]
      exact not_congr (by cases m <;> simp [movementComplete, bothSeated_iff, bothArrived_iff])
    have sequence : sequenceToContinue b = true ↔ continues := sequenceToContinue_iff b
    have rests : roadAtRest b.rsq.phase = true ↔ roadRests := roadAtRest_iff _
    refine ⟨condsWhen (movementToRestart b) [.leafFault, .driveNotReady, .locksNotWithdrawn, .barrierNotProven],
      condsWhen (sequenceToContinue b) [.leafNotSeated], condsWhen (!(roadAtRest b.rsq.phase)) [.stationNotReady],
      by simp [permitResume], ?_⟩
    rw [← moves, ← sequence, ← rests]
    refine ⟨fun h => if_pos h, fun h => if_neg h, fun h => if_pos h, fun h => if_neg h, fun h => if_pos ?_, fun h => if_neg ?_⟩
    · simpa using h
    · simpa using h
  case calls => exact roadCall_eq
  case resume =>
    intro b f hm
    obtain ⟨wrong, refused⟩ := exec_judged (i := .motionResume tag) (effect := resumeMotion) rfl rfl hq hm
    refine ⟨wrong, refused, fun hh hc => ?_⟩
    obtain ⟨rests, starts, speeds⟩ := resumeMotion_leaves b
    have road := resumeMotion_road b
    refine ⟨_, exec_accepted (effect := resumeMotion) rfl rfl hq hm hh hc, ?_, ?_, ?_, ?_, rests, starts, speeds, ?_⟩
    · rw [show (resumeMotion (atTaking s)).notes = _ from resumeMotion_notes b]
      simp
    · intro done called
      have each : ∀ i, (recommandBarrier (holdCleared b) i).barriers.get i = called i := fun i => by
        cases hr : roadCall b.rsq.phase b.rsq.exitPaused i with
        | none =>
          have alone : called i = b.barriers.get i := by simp only [called, hr]
          exact (recalled_alone hr).trans alone.symm
        | some x =>
          rw [recalled_get hr]
          simp only [called, done, hr]
      obtain ⟨stands, warn, lower, waits, exit, pauses, raise⟩ := roadResumed_step b
      rw [show (resumeMotion (atTaking s)).rsq = _ from road .rsq (by decide),
        show (resumeMotion (atTaking s)).slu = _ from road .slu (by decide),
        show (resumeMotion (atTaking s)).sil = _ from road .sil (by decide),
        show (resumeMotion (atTaking s)).barriers = _ from road .barriers (by decide)]
      refine ⟨?_, fun h => ?_, warn, lower, waits, exit, pauses, raise⟩
      · rw [roadResumed_sil]
        refine congrArg (fun os => { b.sil with held := false, cause := .none, overrides := os })
          (List.filter_congr fun o _ => ?_)
        cases o with
        | barrier i =>
          exact (overrideStands_barrier _ i).trans (congrArg
            (fun r : BarrierRec => decide (r.state ≠ .up ∧ r.state ≠ .down))
            ((ownBarrier_recommandBarrier.all_get _ i).trans (each i)))
        | complement a => exact overrideStands_complement (holdCleared b) a
      · obtain ⟨rsq, slu, barriers⟩ := stands h
        exact ⟨rsq, slu, fun i => (barriers i).trans (each i)⟩
    · intro x target first second hseq hr hstep
      have locks := locksResumed_get b
      have same := locksResumed_sameBut b
      have allowed := advanceAllowed_resumed hc hr
      rw [show (resumeMotion (atTaking s)).seq = _ from (resumeMotion_locks b).1,
        show (resumeMotion (atTaking s)).locks = _ from (resumeMotion_locks b).2]
      rcases hseq with ⟨hs, rfl, rfl, rfl, rfl⟩ | ⟨hs, rfl, rfl, rfl, rfl⟩
      · have resumed := advance_resumed locks (same .iq (by decide)) (same .seq (by decide)) allowed
          (first := .centre) (second := .tails) (by rw [hs]; rfl) nofun nofun nofun hstep
        rw [hs] at resumed
        exact resumed
      · have resumed := advance_resumed locks (same .iq (by decide)) (same .seq (by decide)) allowed
          (first := .tails) (second := .centre) (by rw [hs]; rfl) nofun nofun nofun hstep
        rw [hs] at resumed
        exact resumed
    · intro hs
      rw [show (resumeMotion (atTaking s)).seq = _ from (resumeMotion_locks b).1,
        show (resumeMotion (atTaking s)).locks = _ from (resumeMotion_locks b).2, advance_rests hs]
      refine ⟨locksResumed_sameBut b .seq (by decide), fun k => ?_⟩
      rw [locksResumed_get]
      exact lockBack_cases b k
    · exact sameBut_join (roadResumed_sameBut b) road (by decide) (by decide)

end Sys2Proof.Proofs

/-! The publication of an event's input changes (R61), and the hunting and confirming of a field link (R30, R31). -/

namespace Sys2Proof.Proofs

open Sys2Proof.Machine Sys2Proof.Safety

/-! ## What a publication can change (R61) -/

theorem estopEvent_sameBut (b : Blocks) :
    SameBut [.sil, .leaves, .brakes, .locks, .barriers, .notes] b (estopEvent b) := by
  have latched : SameBut [.sil] b (setHeld .estop { b with sil := { b.sil with latch := true } }) :=
    sameBut_trans (sil_sameBut _ b) (setHeld_sameBut .estop _)
  have leaves : ∀ x, SameBut [.leaves, .brakes] x
      (brakeSetRequest .south (brakeSetRequest .north (estopLeaf .south (estopLeaf .north x)))) := fun x =>
    sameBut_join (sameBut_trans (estopLeaf_sameBut .north x) (estopLeaf_sameBut .south _))
      (sameBut_trans (brakeSetRequest_sameBut .north _) (brakeSetRequest_sameBut .south _)) (by decide) (by decide)
  have stopped : ∀ x, SameBut [.locks, .barriers] x
      (BarrierId.all.foldl (fun x i => barrierEstop i x) (interruptLocks x)) := fun x =>
    sameBut_join (interruptLocks_sameBut x)
      (sameBut_foldl (fun x i => barrierEstop i x) (fun x i => barrierEstop_sameBut i x) _ _) (by decide) (by decide)
  exact sameBut_join (sameBut_join latched (leaves _) (hs := [.sil, .leaves, .brakes]) (by decide) (by decide))
    (sameBut_join (stopped _) (note_sameBut _ _) (hs := [.locks, .barriers, .notes]) (by decide) (by decide))
    (by decide) (by decide)

/-- A publication leaves the links, the inputs, the parameters and the clock alone. -/
theorem publish_sameBut (s0 b : Blocks) :
    SameBut [.sil, .slu, .barriers, .leaves, .brakes, .locks, .notes] b (publish s0 b) := by
  have leaves := sameBut_mono (publishLeaves_sameBut s0 b) (gs := [.sil, .slu, .barriers, .leaves, .brakes, .locks, .notes])
    (by decide)
  have estop : ∀ x, SameBut [.sil, .leaves, .brakes, .locks, .barriers, .notes] x (publishEstop s0 x) := fun x =>
    sameBut_ite (estopEvent_sameBut x) (sameBut_refl _ x)
  refine sameBut_ite (sameBut_trans leaves ?_) leaves
  exact sameBut_join (sameBut_foldl (publishLock s0) (publishLock_sameBut s0) LockId.all _)
    (sameBut_join (estop _)
      (sameBut_join (sameBut_foldl (publishBarrier s0) (publishBarrier_sameBut s0) BarrierId.all _)
        (sameBut_foldl (publishLamp s0) (publishLamp_sameBut s0) lampGroups _) (hs := [.barriers, .slu])
        (by decide) (by decide))
      (hs := [.sil, .slu, .barriers, .leaves, .brakes, .locks, .notes]) (by decide) (by decide)) (by decide) (by decide)

/-! ## A publication without a change (R61) -/

/-- The input records are those of the start of the event. -/
def InputsStand (s0 b : Blocks) : Prop := b.iq.recs = s0.iq.recs

section
variable {s0 b : Blocks}

theorem inputRec_of_stand (h : InputsStand s0 b) (f : InputFn) : inputRec b f = inputRec s0 f := by
  unfold InputsStand at h
  rw [inputRec, inputRec, h]

theorem inputRises_of_stand (h : InputsStand s0 b) (f : InputFn) : inputRises s0 b f = false := by
  rw [inputRises, made, made, inputRec_of_stand h, Bool.not_and_self]

theorem inputFalls_of_stand (h : InputsStand s0 b) (f : InputFn) : inputFalls s0 b f = false := by
  rw [inputFalls, made, made, inputRec_of_stand h, Bool.and_not_self]

theorem inputMoves_of_stand (h : InputsStand s0 b) (f : InputFn) : inputMoves s0 b f = false := by
  rw [inputMoves, made, made, inputRec_of_stand h]
  simp

/-- A fold of operations that leave `b` as it is leaves it so. -/
theorem foldl_still {α : Type} {op : Blocks → α → Blocks} (h : ∀ x, op b x = b) : ∀ xs : List α, xs.foldl op b = b
  | [] => rfl
  | x :: xs => by rw [List.foldl_cons, h x, foldl_still h xs]

theorem skewStands_of_skewOk (h : SkewOk b) (hm : b.sil.mode = .operate) : skewStands b = false := by
  refine Bool.eq_false_of_not_eq_true fun stands => ?_
  simp only [skewStands, Bool.and_eq_true, anyLeaf_iff, bothLeaves_iff, Bool.or_eq_true, beq_iff_eq,
    decide_eq_true_eq] at stands
  obtain ⟨⟨⟨l, hl, kind⟩, certain⟩, apart⟩ := stands
  exact Nat.not_le.mpr (h hm l hl kind (certain .north) (certain .south)) apart

/-- A finding SKEW is made in OPERATE alone, where no leaf moves in a skew (R142). -/
theorem skewFinding_still (h : SkewOk b) : skewFinding b (skewStands b) b = b := by
  by_cases hm : b.sil.mode = .operate
  · rw [skewStands_of_skewOk h hm]
    rfl
  · simp only [skewFinding, leafFault_outside _ _ _ hm, ite_self]

/-- Where no input has changed and no leaf moves in a skew a publication does nothing. -/
theorem publish_still (h : InputsStand s0 b) (hs : SkewOk b) : publish s0 b = b := by
  have position : ∀ l, publishPosition s0 b l = b := fun l => by
    simp [publishPosition, inputRises_of_stand h, inputFalls_of_stand h]
  have drive : ∀ l, publishDrive s0 b l = b := fun l => by
    simp [publishDrive, inputRises_of_stand h, inputFalls_of_stand h]
  have lock : ∀ k, publishLock s0 b k = b := fun k => by simp [publishLock, inputMoves_of_stand h]
  have barrier : ∀ i, publishBarrier s0 b i = b := fun i => by simp [publishBarrier, inputMoves_of_stand h]
  have lamp : ∀ g, publishLamp s0 b g = b := fun g => by
    simp [publishLamp, inputRises_of_stand h, inputFalls_of_stand h]
  have estop : publishEstop s0 b = b := by simp [publishEstop, inputFalls_of_stand h]
  have leaves : publishLeaves s0 b = b := by
    rw [publishLeaves, foldl_still position, foldl_still drive, skewFinding_still hs]
  unfold publish
  dsimp only
  rw [leaves, foldl_still lock, estop, foldl_still barrier, foldl_still lamp, ite_self]

end

/-- The skew is read from the mode, the leaves and the parameters. -/
theorem skewOk_of_sameBut {fs : List BlockField} {a b : Blocks} (k : SameBut fs a b) (h : SkewOk a)
    (hm : BlockField.sil ∉ fs := by decide) (hl : BlockField.leaves ∉ fs := by decide)
    (hp : BlockField.par ∉ fs := by decide) : SkewOk b := by
  have sil : b.sil = a.sil := k .sil hm
  exact fun mode => noSkew_of_sameBut k (h (sil ▸ mode)) hl hp

/-! ## Hunting and confirming (R30, R31) -/

theorem frameFound_iff (f : BitVec 80) : frameFound f = true ↔
    framePattern f = 0b1011#4 ∧ crc8 ((frameOctets f).take 9) = frameOctet f 9 := by
  simp [frameFound, frameCheckOk]

theorem setLastGood_recs (l : Link) (b : Blocks) : InputsStand b (setLastGood l b) := rfl

/-- An event of the blocks that leaves the records of the inputs is published as it stands. -/
theorem inputEvent_still (f : Blocks → Blocks) {c : Blocks} (s : State) (hf : f s.blocks = c)
    (hi : InputsStand s.blocks c) {fs : List BlockField} (hc : SameBut fs s.blocks c)
    (hm : BlockField.sil ∉ fs := by decide) (hl : BlockField.leaves ∉ fs := by decide)
    (hp : BlockField.par ∉ fs := by decide) :
    inputEvent f s = eventEnd s (publish s.blocks c) ∧ (SkewOk s.blocks → inputEvent f s = eventEnd s c) := by
  have led : inputEvent f s = eventEnd s (publish s.blocks c) := by rw [← hf]; rfl
  refine ⟨led, fun h => ?_⟩
  rw [led, publish_still hi (skewOk_of_sameBut hc h hm hl hp)]

/-- A candidate in CONFIRM that confirms, the first time or the second (R31). -/
theorem confirmCandidate_confirms {l : Link} {f : BitVec 80} {b : Blocks} (hs : (b.links.get l).state = .confirm)
    (hf : frameFound f = true) (he : (b.links.get l).expected = some (frameNumber f)) : confirmCandidate l f b =
      if 1 ≤ (b.links.get l).confirmations then setLastGood l (setLink l ((b.links.get l).align f) b)
      else setLink l { b.links.get l with
        confirmations := (b.links.get l).confirmations + 1, expected := some (frameNumber f + 1#4) } b := by
  simp [confirmCandidate, hs, hf, he]

theorem confirmCandidate_fails {l : Link} {f : BitVec 80} {b : Blocks} (hs : (b.links.get l).state = .confirm)
    (hf : ¬ (frameFound f = true ∧ (b.links.get l).expected = some (frameNumber f))) :
    confirmCandidate l f b = setLink l (b.links.get l).confirmFailed b := by
  rw [confirmCandidate, if_pos hs, if_neg hf]

theorem exec_foundFrame (l : Link) (fr : BitVec 80) (s : State) :
    exec (.foundFrame l fr) s = .next (inputEvent (huntCandidate l fr) s) := rfl

theorem exec_confirmingFrame (l : Link) (fr : BitVec 80) (s : State) :
    exec (.confirmingFrame l fr) s = .next (inputEvent (confirmCandidate l fr) s) := rfl

/-- Settles O39: a frame of a link that is not aligned writes that link's record and no input, so its publication has nothing to
publish. -/
theorem linksFindAndConfirmFrames : Obligations.LinksFindAndConfirmFrames := by
  intro l fr s r good leads found confirming
  have hgood : frameFound fr = true ↔ good := frameFound_iff fr
  have finds : ∀ {c : Blocks}, huntCandidate l fr s.blocks = c → InputsStand s.blocks c → found c := by
    intro c hc stand
    obtain ⟨led, still⟩ := inputEvent_still _ s hc stand (hc ▸ huntCandidate_sameBut l fr s.blocks)
    exact ⟨(exec_foundFrame l fr s).trans (congrArg _ led), fun h => (exec_foundFrame l fr s).trans (congrArg _ (still h))⟩
  have confirms : ∀ {c : Blocks}, confirmCandidate l fr s.blocks = c → InputsStand s.blocks c → confirming c := by
    intro c hc stand
    obtain ⟨led, still⟩ := inputEvent_still _ s hc stand (hc ▸ confirmCandidate_sameBut l fr s.blocks)
    exact ⟨(exec_confirmingFrame l fr s).trans (congrArg _ led),
      fun h => (exec_confirmingFrame l fr s).trans (congrArg _ (still h))⟩
  refine ⟨fun hs hg => finds (if_pos ⟨hs, hgood.mpr hg⟩) rfl,
    fun hn => finds (if_neg fun h => hn ⟨h.1, hgood.mp h.2⟩) rfl, fun hs hg he h0 => confirms ?_ rfl,
    fun hs hg he h1 => confirms ?_ rfl,
    fun hs hn => confirms (confirmCandidate_fails hs fun h => hn ⟨hgood.mp h.1, h.2⟩) rfl,
    fun hs => confirms (if_neg hs) rfl⟩
  · have none : (s.blocks.links.get l).confirmations = 0 := h0
    rw [confirmCandidate_confirms hs (hgood.mpr hg) he, none]
    rfl
  · rw [confirmCandidate_confirms hs (hgood.mpr hg) he, if_pos h1]
    rfl

end Sys2Proof.Proofs

/-! The boundaries of an aligned link: the judgement of a frame, the error window, the loss of the link, and what its input
records become (R32 to R41, R53 to R60). -/

namespace Sys2Proof.Proofs

open Sys2Proof.Machine Sys2Proof.Safety

/-! ## The event of a boundary -/

/-- An event of the inputs keeps what its own work leaves in the records that no publication and nothing that follows can
change. -/
theorem inputEvent_sameBut (f : Blocks → Blocks) {s : State} (h : s.cpt.buffer = []) :
    SameBut [.sil, .slu, .rsq, .barriers, .leaves, .brakes, .locks, .seq, .nav, .par, .pend, .presence, .notes]
      (f s.blocks) (inputEvent f s).blocks := by
  obtain ⟨-, blocks, -⟩ := eventLeads_eventEnd s (publish s.blocks (f s.blocks)) h
  rw [show (inputEvent f s).blocks = _ from blocks]
  exact sameBut_join (publish_sameBut s.blocks (f s.blocks)) (following_sameBut s.blocks _) (by decide) (by decide)

theorem linkAligned_iff (r : LinkRec) : linkAligned r = true ↔ r.state = .aligned ∨ r.state = .degraded := by
  simp [linkAligned]

theorem exec_alignedFrameBoundary (l : Link) (fr : BitVec 80) (s : State) :
    exec (.alignedFrameBoundary l fr) s = .next (inputEvent (boundaryFrame l fr) s) := rfl

/-- A boundary of an aligned link leaves the links and the inputs as its own work does. -/
theorem alignedFrameBoundary_event {l : Link} (fr : BitVec 80) {s : State} (h : s.cpt.buffer = [])
    (ha : (s.blocks.links.get l).state = .aligned ∨ (s.blocks.links.get l).state = .degraded) :
    ∃ t : State, exec (.alignedFrameBoundary l fr) s = .next t ∧
      t.blocks.links = (alignedBoundary l fr s.blocks).links ∧ t.blocks.iq = (alignedBoundary l fr s.blocks).iq := by
  have boundary : boundaryFrame l fr s.blocks = alignedBoundary l fr s.blocks := if_pos ((linkAligned_iff _).mpr ha)
  have kept := inputEvent_sameBut (boundaryFrame l fr) h
  rw [boundary] at kept
  exact ⟨_, exec_alignedFrameBoundary l fr s, kept .links (by decide), kept .iq (by decide)⟩

/-! ## The records of a link's inputs -/

theorem PerLink.set_set {α : Type} (r : PerLink α) (l : Link) (x y : α) : (r.set l x).set l y = r.set l y := by
  cases l <;> rfl

theorem mapLinkInputs_get (l : Link) (f : Bool → InputRec → InputRec) (b : Blocks) (i : Fin 41) :
    (mapLinkInputs l f b).iq.recs.get i =
      if sourceOnLink b i l then f (failSafe (inputAt i)) (b.iq.recs.get i) else b.iq.recs.get i := mapInputs_get _ b i

/-- A good frame is one sample of every record of its link (R53). -/
theorem takeGoodFrame_get (l : Link) (f : BitVec 80) (b : Blocks) (i : Fin 41) :
    (takeGoodFrame l f b).iq.recs.get i =
      if sourceOnLink b i l then (b.iq.recs.get i).frameSample (debounceCount b i) (frameSampleOf b i f)
      else b.iq.recs.get i := by
  unfold takeGoodFrame
  rw [show (setLastGood l _).iq.recs = _ from setLastGood_recs l _, mapInputs_get]

/-- A link that is lost hunts with its record left, and its input records are lost with it (R34, R57). -/
theorem leaveAlignment_links (l : Link) (c : HuntCause) (r : LinkRec) (b : Blocks) :
    (leaveAlignment l c r b).links = b.links.set l (r.leave c) := mapInputs_links _ _

theorem leaveAlignment_get (l : Link) (c : HuntCause) (r : LinkRec) (b : Blocks) (i : Fin 41) :
    (leaveAlignment l c r b).iq.recs.get i =
      if sourceOnLink b i l then (b.iq.recs.get i).lose b.par.holdMs b.now (failSafe (inputAt i))
      else b.iq.recs.get i := mapLinkInputs_get l _ _ i

/-- The status of the station is followed at frame 15 (R40). -/
def statusTaken (r : LinkRec) (number : BitVec 4) (good : Bool) (w : BitVec 4) : LinkRec :=
  if number = lastNumber then r.takeStatus good w else r

section
variable (l : Link) (number : BitVec 4) (j : FrameJudgement) (f : BitVec 80) (r : LinkRec) (b : Blocks)

/-- What handing on works on: the blocks with the link's record, its station status followed. -/
theorem handOn_eq : handOn l number j f (setLink l r b) =
    if j.good then takeGoodFrame l f (setLink l (statusTaken r number j.good (frameCodeword f)) b)
    else starveTest l (setLink l (statusTaken r number j.good (frameCodeword f)) b) := by
  have status : (if number = lastNumber then setLink l (r.takeStatus j.good (frameCodeword f)) (setLink l r b)
      else setLink l r b) = setLink l (statusTaken r number j.good (frameCodeword f)) b := by
    unfold statusTaken
    split
    · simp only [setLink, PerLink.set_set]
    · rfl
  unfold handOn
  simp only [setLink_links, PerLink.get_set_same, status]

theorem handOn_links : (handOn l number j f (setLink l r b)).links =
    b.links.set l (statusTaken r number j.good (frameCodeword f)) := by
  rw [handOn_eq]
  split
  · exact takeGoodFrame_sameBut l f _ .links (by decide)
  · exact starveTest_sameBut l _ .links (by decide)

/-- A good frame is a sample of each record of the link (R53, R60). -/
theorem handOn_get_good (h : j.good = true) (i : Fin 41) : (handOn l number j f (setLink l r b)).iq.recs.get i =
    if sourceOnLink b i l then (b.iq.recs.get i).frameSample (debounceCount b i) (frameSampleOf b i f)
    else b.iq.recs.get i := by
  rw [handOn_eq, if_pos h, takeGoodFrame_get]
  rfl

theorem handOn_lastGood (h : j.good = true) : (handOn l number j f (setLink l r b)).iq.lastGood =
    b.iq.lastGood.set l (some b.now) := by
  rw [handOn_eq, if_pos h]
  simp only [takeGoodFrame, setLastGood, mapInputs, setLink_iq, setLink_now]

/-- A frame that is not handed on starves the link where the last good one is HOLD_MS old (R59). -/
theorem handOn_get_bad (h : j.good = false) (i : Fin 41) : (handOn l number j f (setLink l r b)).iq.recs.get i =
    if sourceOnLink b i l = true ∧ ∃ u, b.iq.lastGood.get l = some u ∧ b.par.holdMs ≤ b.now - u then
      (b.iq.recs.get i).starve (failSafe (inputAt i))
    else b.iq.recs.get i := by
  rw [handOn_eq, if_neg (by simp [h])]
  generalize hb : setLink l (statusTaken r number j.good (frameCodeword f)) b = c
  have recs : c.iq = b.iq := hb ▸ rfl
  have par : c.par = b.par := hb ▸ rfl
  have now : c.now = b.now := hb ▸ rfl
  have source : sourceOnLink c i l = sourceOnLink b i l := hb ▸ rfl
  unfold starveTest
  rw [recs, par, now]
  cases hu : b.iq.lastGood.get l with
  | none => simp [recs]
  | some u =>
    by_cases hh : b.par.holdMs ≤ b.now - u
    · simp [hh, mapLinkInputs_get, recs, source]
    · simp [hh, recs]

end

/-! ## The judgement of a frame (R32, R33) -/

theorem judgeFrame_marker (number : BitVec 4) (f : BitVec 80) : (judgeFrame number f).markerError = true ↔
    ¬ (framePattern f = 0b1011#4 ∧ frameNumber f = number) := by
  rw [← Bool.not_eq_false, not_iff_not]
  simp [judgeFrame]

theorem judgeFrame_check (number : BitVec 4) (f : BitVec 80) : (judgeFrame number f).checkError = true ↔
    crc8 ((frameOctets f).take 9) ≠ frameOctet f 9 := by
  simp [judgeFrame, frameCheckOk]

theorem good_iff (j : FrameJudgement) : j.good = true ↔ ¬ (j.markerError = true ∨ j.checkError = true) := by
  simp [FrameJudgement.good]

theorem countsAsError_iff (c : Nat) (j : FrameJudgement) : countsAsError c j = true ↔
    j.markerError = true ∨ (c ≠ 0 ∧ j.checkError = true) := by
  by_cases hc : c = 0 <;> simp [countsAsError, hc]

/-! ## The window (R36, R38) -/

theorem endWindow_eq (r : LinkRec) (limit : Nat) : r.endWindow limit = { r with
    state := if 1000 ≤ r.windowFrames ∧ r.state = .degraded ∧ r.windowErrors < limit then .aligned else r.state
    windowFrames := if 1000 ≤ r.windowFrames then 0 else r.windowFrames
    windowErrors := if 1000 ≤ r.windowFrames then 0 else r.windowErrors
    excess := if 1000 ≤ r.windowFrames then false else r.excess } := by
  by_cases h : 1000 ≤ r.windowFrames <;> simp [LinkRec.endWindow, h]

theorem statusTaken_eq (r : LinkRec) (number : BitVec 4) (good : Bool) (w : BitVec 4) : statusTaken r number good w =
    { r with
      prevStatus := if number ≠ 15#4 then r.prevStatus else if good then some w else none
      status := if number = 15#4 ∧ good = true ∧ r.prevStatus = some w then stationStatusOf w else r.status } := by
  by_cases h : number = 15#4 <;> cases good <;> simp [statusTaken, LinkRec.takeStatus, lastNumber, h]

/-! ## One boundary (R32 to R38) -/

/-- The record of an aligned link with a judged frame counted (R32, R33, R36). -/
def frameCounted (p : Params) (r : LinkRec) (number : BitVec 4) (j : FrameJudgement) : LinkRec :=
  { r with
    expected := some number
    errors := if countsAsError p.lossCriterion j then r.errors + 1 else 0
    windowFrames := r.windowFrames + 1
    windowErrors := if j.checkError then r.windowErrors + 1 else r.windowErrors }

/-- The third error in a row (R33). -/
def FrameLoses (p : Params) (r : LinkRec) (j : FrameJudgement) : Prop :=
  countsAsError p.lossCriterion j = true ∧ 2 ≤ r.errors

/-- A first excess of check errors in a window (R36). -/
def frameExceeds (p : Params) (r : LinkRec) (j : FrameJudgement) : Bool :=
  !r.excess && decide (p.errLimit ≤ if j.checkError then r.windowErrors + 1 else r.windowErrors)

theorem frameExceeds_iff (p : Params) (r : LinkRec) (j : FrameJudgement) : frameExceeds p r j = true ↔
    r.excess = false ∧ p.errLimit ≤ if j.checkError then r.windowErrors + 1 else r.windowErrors := by
  simp [frameExceeds]

/-- The record of a link that a judged frame keeps: the frame counted, an excess marked and the window ended (R36, R38). -/
def frameWindowed (p : Params) (r : LinkRec) (number : BitVec 4) (j : FrameJudgement) : LinkRec :=
  { frameCounted p r number j with
    excess := if frameExceeds p r j then true else r.excess
    state := if frameExceeds p r j then .degraded else r.state }.endWindow p.errLimit

section
variable {l : Link} {f : BitVec 80} {b : Blocks} {r : LinkRec} {number : BitVec 4} {j : FrameJudgement}
  (hr : b.links.get l = r) (hn : r.expected.getD 0#4 + 1#4 = number) (hj : judgeFrame number f = j)
include hr hn hj

theorem alignedBoundary_lost (h : FrameLoses b.par r j) : alignedBoundary l f b = leaveAlignment l .loss r b := by
  subst hr hn hj
  obtain ⟨error, two⟩ := h
  unfold alignedBoundary
  simp only [error, if_true]
  exact if_pos (by omega)

theorem alignedBoundary_kept (h : ¬ FrameLoses b.par r j) : alignedBoundary l f b =
    if frameExceeds b.par r j then
      if b.par.rehuntOnExcess = 1 then
        leaveAlignment l .excessive { frameCounted b.par r number j with excess := true } b
      else
        handOn l number j f (setLink l
          ({ frameCounted b.par r number j with excess := true, state := .degraded }.endWindow b.par.errLimit) b)
    else handOn l number j f (setLink l ((frameCounted b.par r number j).endWindow b.par.errLimit) b) := by
  have two : ¬ 3 ≤ if countsAsError b.par.lossCriterion j then r.errors + 1 else 0 := fun three => by
    by_cases error : countsAsError b.par.lossCriterion j = true
    · rw [if_pos error] at three
      exact h ⟨error, by omega⟩
    · rw [if_neg error] at three
      omega
  simp only [frameExceeds_iff]
  subst hr hn hj
  exact if_neg two

theorem alignedBoundary_rehunts (h : ¬ FrameLoses b.par r j) (he : frameExceeds b.par r j = true)
    (h1 : b.par.rehuntOnExcess = 1) : alignedBoundary l f b =
      leaveAlignment l .excessive { frameCounted b.par r number j with excess := true } b := by
  rw [alignedBoundary_kept hr hn hj h, if_pos he, if_pos h1]

/-- A frame that keeps the link is counted and handed on. -/
theorem alignedBoundary_counts (h : ¬ FrameLoses b.par r j)
    (hk : ¬ (frameExceeds b.par r j = true ∧ b.par.rehuntOnExcess = 1)) : alignedBoundary l f b =
      handOn l number j f (setLink l (frameWindowed b.par r number j) b) := by
  rw [alignedBoundary_kept hr hn hj h, frameWindowed]
  cases he : frameExceeds b.par r j
  · rfl
  · rw [if_pos rfl, if_neg fun h1 => hk ⟨he, h1⟩]
    rfl

end

/-! ## The loss and the starvation of a record (R57, R59) -/

theorem lose_eq (r : InputRec) (holdMs now : Nat) (safe : Bool) : r.lose holdMs now safe =
    if r.pendingFirst then { r with candidate := none, agreement := 0 }
    else if r.freshness ≠ .fresh then r
    else if holdMs = 0 then
      { r with qualified := safe, freshness := .failsafe, heldSince := none, candidate := none, agreement := 0 }
    else { r with freshness := .held, heldSince := some now, candidate := none, agreement := 0 } := by
  unfold InputRec.lose
  cases h : r.freshness <;> simp [InputRec.fallSafe]

theorem starve_fresh {r : InputRec} (safe : Bool) (h : r.freshness = .fresh) : r.starve safe =
    { r with qualified := safe, freshness := .failsafe, heldSince := none, candidate := none, agreement := 0 } := by
  simp [InputRec.starve, h, InputRec.fallSafe]

theorem starve_rests {r : InputRec} (safe : Bool) (h : r.freshness ≠ .fresh) : r.starve safe = r := by
  unfold InputRec.starve
  split
  · next hf => exact absurd hf h
  · rfl
  · rfl

/-! ## What a boundary makes of the link and its inputs -/

/-- Settles O40: a boundary loses the link, hunts for its excess, or counts the frame and hands it on; each writes this link and
the records of its inputs. -/
theorem alignedLinksJudgeEveryFrame : Obligations.AlignedLinksJudgeEveryFrame := by
  intro l fr s r p number marker check error checkErrors lost excess hunts ends state
  refine ⟨fun hs => ?_, fun hb ha => ?_⟩
  · have rests : boundaryFrame l fr s.blocks = s.blocks := if_neg fun h => by
      rcases (linkAligned_iff _).mp h with h | h <;> rcases hs with hs | hs <;> cases h.symm.trans hs
    obtain ⟨led, still⟩ := inputEvent_still (boundaryFrame l fr) s rests rfl (sameBut_refl [] _)
    exact ⟨(exec_alignedFrameBoundary l fr s).trans (congrArg _ led),
      fun h => (exec_alignedFrameBoundary l fr s).trans (congrArg _ (still h))⟩
  obtain ⟨t, ht, links, iq⟩ := alignedFrameBoundary_event fr hb ha
  obtain ⟨j, hj⟩ : ∃ j, judgeFrame number fr = j := ⟨_, rfl⟩
  have hmarker : j.markerError = true ↔ marker := hj ▸ judgeFrame_marker number fr
  have hcheck : j.checkError = true ↔ check := hj ▸ judgeFrame_check number fr
  have hgood : j.good = true ↔ ¬ (marker ∨ check) := by rw [good_iff, hmarker, hcheck]
  have herror : countsAsError p.lossCriterion j = true ↔ error := by rw [countsAsError_iff, hmarker, hcheck]
  have hlost : FrameLoses p r j ↔ lost := and_congr_left' herror
  have hcheckErrors : (if j.checkError then r.windowErrors + 1 else r.windowErrors) = checkErrors :=
    if_congr hcheck rfl rfl
  have hexcess : ¬ lost → (frameExceeds p r j = true ↔ excess) := fun h => by
    rw [frameExceeds_iff, hcheckErrors]
    exact (and_iff_right h).symm
  have hunting : hunts → ∃ c x, alignedBoundary l fr s.blocks = leaveAlignment l c x s.blocks ∧
      x.leave c = r.leave (if lost then .loss else .excessive) := by
    rintro (h | ⟨h, h1⟩)
    · exact ⟨_, _, alignedBoundary_lost rfl rfl hj (hlost.mpr h), by rw [if_pos h]⟩
    · exact ⟨_, _, alignedBoundary_rehunts rfl rfl hj (mt hlost.mp h.1) ((hexcess h.1).mpr h) h1, by
        rw [if_neg h.1]; rfl⟩
  refine ⟨t, ht, ?_⟩
  rw [links, iq]
  by_cases hh : hunts
  · obtain ⟨c, x, left, record⟩ := hunting hh
    rw [left, leaveAlignment_links, record]
    refine ⟨fun k hk => PerLink.get_set_other _ _ _ _ hk, fun i hi => ?_, fun _ => PerLink.get_set_same _ _ _,
      fun h => absurd hh h, fun i hi => ⟨fun _ => ?_, fun h => absurd hh h⟩⟩
    · rw [leaveAlignment_get, hi]
      rfl
    · rw [leaveAlignment_get, if_pos hi]
      exact lose_eq _ _ _ _
  · have kept : ¬ lost := fun h => hh (.inl h)
    have counts : alignedBoundary l fr s.blocks = handOn l number j fr (setLink l (frameWindowed p r number j) s.blocks) :=
      alignedBoundary_counts rfl rfl hj (mt hlost.mp kept) fun h => hh (.inr ⟨(hexcess kept).mp h.1, h.2⟩)
    rw [counts, handOn_links]
    refine ⟨fun k hk => PerLink.get_set_other _ _ _ _ hk, fun i hi => ?_, fun h => absurd h hh, fun _ => ?_,
      fun i hi => ⟨fun h => absurd h hh, fun _ hbad => ?_⟩⟩
    · cases hg : j.good
      · rw [handOn_get_bad _ _ _ _ _ _ hg, if_neg (by simp [hi])]
      · rw [handOn_get_good _ _ _ _ _ _ hg, hi]
        rfl
    · have degraded : (if frameExceeds p r j then LinkState.degraded else r.state) = state :=
        if_congr (hexcess kept) rfl rfl
      have filled : 1000 ≤ r.windowFrames + 1 ↔ ends := Nat.succ_le_succ_iff
      rw [PerLink.get_set_same, statusTaken_eq, frameWindowed, endWindow_eq]
      simp only [frameCounted, hcheckErrors, degraded, filled]
      congr 1
      · exact if_congr herror rfl rfl
      · exact if_congr Iff.rfl rfl (if_congr (hexcess kept) rfl rfl)
      · refine if_congr Iff.rfl rfl ?_
        rw [← ite_not]
        exact if_congr hgood.not_left rfl rfl
      · exact if_congr (and_congr_right' (by rw [hgood, not_or, and_assoc])) rfl rfl
    · have bad : j.good = false := Bool.eq_false_of_not_eq_true fun h => hgood.mp h hbad
      rw [handOn_get_bad _ _ _ _ _ _ bad]
      refine ⟨fun hs hf => ?_, fun hs => ?_⟩
      · rw [if_pos ⟨hi, hs⟩]
        exact starve_fresh _ hf
      · split
        · next h => exact starve_rests _ (hs.resolve_left fun hn => hn h.2)
        · rfl

/-! ## A good frame (R53 to R56, R60) -/

section
variable {r : InputRec} {n : Nat} {sample : Bool}

theorem frameSample_equal (hp : r.pendingFirst = false) (h : sample = r.qualified) : r.frameSample n sample =
    { r with freshness := .fresh, heldSince := none, candidate := none, agreement := 0 } := by
  simp [InputRec.frameSample, InputRec.laterSample, hp, h]

theorem frameSample_other (hp : r.pendingFirst = false) (h : sample ≠ r.qualified) : r.frameSample n sample =
    if n ≤ if r.candidate = some sample then r.agreement + 1 else 1 then
      { r with qualified := sample, freshness := .fresh, heldSince := none, candidate := none, agreement := 0 }
    else
      { r with freshness := .fresh, heldSince := none, candidate := some sample
               agreement := if r.candidate = some sample then r.agreement + 1 else 1 } := by
  simp [InputRec.frameSample, InputRec.laterSample, hp, h]

theorem frameSample_pending (hp : r.pendingFirst = true) : r.frameSample n sample =
    if n ≤ if r.candidate = some sample then r.agreement + 1 else 1 then
      { r with qualified := sample, freshness := .fresh, pendingFirst := false, candidate := none, agreement := 0 }
    else
      { r with candidate := some sample
               agreement := if r.candidate = some sample then r.agreement + 1 else 1 } := by
  simp [InputRec.frameSample, InputRec.firstSample, hp]

end

/-- A good frame in a link without an excess is handed on (R35). -/
theorem alignedBoundary_good {l : Link} {f : BitVec 80} {b : Blocks} (hp : framePattern f = 0b1011#4)
    (hn : (b.links.get l).expected = some (frameNumber f - 1#4)) (hc : crc8 ((frameOctets f).take 9) = frameOctet f 9)
    (he : (b.links.get l).excess = true ∨ (b.links.get l).windowErrors < b.par.errLimit) :
    ∃ (j : FrameJudgement) (x : LinkRec), j.good = true ∧
      alignedBoundary l f b = handOn l (frameNumber f) j f (setLink l x b) := by
  have number : (b.links.get l).expected.getD 0#4 + 1#4 = frameNumber f := by
    rw [hn, Option.getD_some, BitVec.sub_add_cancel]
  have marker : (judgeFrame (frameNumber f) f).markerError = false :=
    Bool.eq_false_of_not_eq_true fun h => (judgeFrame_marker _ _).mp h ⟨hp, rfl⟩
  have check : (judgeFrame (frameNumber f) f).checkError = false :=
    Bool.eq_false_of_not_eq_true fun h => (judgeFrame_check _ _).mp h hc
  generalize hj : judgeFrame (frameNumber f) f = j at marker check
  refine ⟨j, _, by simp [FrameJudgement.good, marker, check], alignedBoundary_counts rfl number hj ?_ ?_⟩
  · rintro ⟨error, -⟩
    rw [countsAsError_iff, marker, check] at error
    simp at error
  · rintro ⟨exceeds, -⟩
    rw [frameExceeds_iff, check] at exceeds
    exact he.elim (fun h => by simp [h] at exceeds) (Nat.not_lt.mpr exceeds.2)

/-- What the record of an assigned field input reads from its entry. -/
theorem fieldEntry_reads {b : Blocks} {i : Fin 24} {l : Link} {p : Position} {n : Nat} {invert report : Bool}
    (he : b.cat.inputs.get i = some (.position p n invert report)) (hl : inputLink (fieldFn i) = some l) :
    sourceOnLink b (fieldRec i) l = true ∧ debounceCount b (fieldRec i) = n ∧
      ∀ f : BitVec 80, frameSampleOf b (fieldRec i) f =
        xor ((frameOctet f (p.val / 8 + 1)).getLsbD (p.val % 8)) invert := by
  have entry : inputEntryAt b (fieldRec i) = some (.position p n invert report) := (dif_pos i.isLt).trans he
  have source : sourcePosition b (fieldRec i) = some p := by rw [sourcePosition, entry]
  refine ⟨?_, ?_, fun f => ?_⟩
  · rw [sourceOnLink, source, show inputLink (inputAt (fieldRec i)) = some l from hl]
    simp
  · rw [debounceCount, if_pos (show (fieldRec i).val < 24 from i.isLt), entry]
  · rw [frameSampleOf, entry]
    rfl

/-- Settles O41: a good frame keeps the link and is handed on, one sample of each record of the link. -/
theorem goodFramesSampleTheInputs : Obligations.GoodFramesSampleTheInputs := by
  intro l fr i p n invert report s hb r x sample agreeing ha hp hn hc he entry link
  obtain ⟨t, ht, -, iq⟩ := alignedFrameBoundary_event fr hb ha
  obtain ⟨j, y, good, handed⟩ := alignedBoundary_good hp hn hc he
  obtain ⟨source, count, sampled⟩ := fieldEntry_reads entry link
  have record : t.blocks.iq.recs.get (fieldRec i) = x.frameSample n sample := by
    rw [iq, handed, handOn_get_good _ _ _ _ _ _ good, if_pos source, count, sampled]
  refine ⟨t, ht, fun h0 hs => record.trans (frameSample_equal h0 hs),
    fun h0 hs => record.trans (frameSample_other h0 hs), fun h1 => record.trans (frameSample_pending h1), ?_⟩
  rw [iq, handed, handOn_lastGood _ _ _ _ _ _ good]

end Sys2Proof.Proofs

/-! The frames sent on a field link and the outputs they carry (R43 to R46). -/

namespace Sys2Proof.Proofs

open Sys2Proof.Machine Sys2Proof.Safety

/-! ## Octets of the output image -/

/-- The octet packed so far holds the bits of the places gone through. -/
theorem packed_getLsbD (bit : Nat → Bool) {k : Nat} (hk : k < 8) : ∀ n : Nat,
    ((List.range n).foldl (fun o i => if bit i then o ||| (1#8 <<< i) else o) 0#8).getLsbD k = (decide (k < n) && bit k)
  | 0 => by simp
  | n + 1 => by
    have placed : (if bit n then 1#8 <<< n else 0#8).getLsbD k = (decide (k = n) && bit k) := by
      by_cases h : k = n
      · subst h
        cases bit k <;> simp [hk]
      · cases bit n
        · simp [h]
        · by_cases hn : k < n
          · simp [h, hn]
          · simp [h, show k - n ≠ 0 by omega]
    have packed : ∀ o : Octet, (if bit n then o ||| (1#8 <<< n) else o) = o ||| if bit n then 1#8 <<< n else 0#8 :=
      fun o => by cases bit n <;> simp
    have next : decide (k < n + 1) = (decide (k < n) || decide (k = n)) := by
      rw [← Bool.decide_or, decide_eq_decide, Nat.lt_succ_iff_lt_or_eq]
    rw [List.range_succ, List.foldl_append, List.foldl_cons, List.foldl_nil, packed, BitVec.getLsbD_or,
      packed_getLsbD bit hk n, placed, next, Bool.and_or_distrib_right]

theorem packOctet_getLsbD (bit : Nat → Bool) {k : Nat} (hk : k < 8) : (packOctet bit).getLsbD k = bit k := by
  rw [packOctet, packed_getLsbD bit hk, decide_eq_true hk, Bool.true_and]

/-- The marker octet: the pattern and the frame number (R26, R43). -/
theorem marker_octet : ∀ n : BitVec 4, 0xB0#8 ||| n.setWidth 8 = (0b1011#4 ++ n : BitVec 8) := by decide

section
variable {b : Blocks} (l : Link)

theorem imageOctet_rest (h : b.sil.mode ≠ .operate) (channel : Nat) : imageOctet b l channel = 0#8 := if_neg h

theorem imageOctet_getLsbD (h : b.sil.mode = .operate) (channel : Nat) {k : Nat} (hk : k < 8) :
    (imageOctet b l channel).getLsbD k = (decide (8 * channel + k < 60) && imageBit b l (8 * channel + k)) := by
  rw [imageOctet, if_pos h, packOctet_getLsbD _ hk]

/-- A position carries the value of its output function (R44). -/
theorem imageBit_position (b : Blocks) (p : Position) : imageBit b l p.val =
    match (b.cat.outputs.get l).get p with
    | some f => outputValue b f
    | none => false := by
  have entry : (b.cat.outputs.get l).toList[p.val]? = some ((b.cat.outputs.get l).get p) := by
    simp [Vector.get]
  rw [imageBit, entry]
  cases (b.cat.outputs.get l).get p <;> rfl

/-- The eight channel octets of a frame, the codeword in the last (R27, R43). -/
def channelOctets (b : Blocks) (l : Link) : List Octet :=
  (List.range 7).map (imageOctet b l) ++ [imageOctet b l 7 ||| codewordOctet (codewordOf b.sil.mode)]

theorem frameBody_eq (b : Blocks) (number : BitVec 4) :
    frameBody b l number = (0b1011#4 ++ number : BitVec 8) :: channelOctets b l := by
  rw [frameBody, marker_octet]
  rfl

theorem channelOctets_length (b : Blocks) : (channelOctets b l).length = 8 := by simp [channelOctets]

theorem codewordOf_eq (m : Mode) : codewordOf m = if m = .operate then .operate else .hold := by cases m <;> rfl

theorem channelOctets_rest (h : b.sil.mode ≠ .operate) :
    channelOctets b l = [0#8, 0#8, 0#8, 0#8, 0#8, 0#8, 0#8, 0x90#8] := by
  have image : imageOctet b l = fun _ => 0#8 := funext (imageOctet_rest l h)
  rw [channelOctets, codewordOf_eq, if_neg h, image]
  rfl

theorem channelOctets_getD (b : Blocks) {channel : Nat} (h : channel < 7) :
    (channelOctets b l).getD channel 0#8 = imageOctet b l channel := by
  simp [channelOctets, List.getD, List.getElem?_append, h]

theorem channelOctets_last (h : b.sil.mode = .operate) :
    (channelOctets b l).getD 7 0#8 = imageOctet b l 7 ||| 0x60#8 := by
  rw [channelOctets, codewordOf_eq, if_pos h]
  rfl

/-- Above its four positions the last channel octet holds OPERATE (R46). -/
theorem channelOctets_codeword (h : b.sil.mode = .operate) :
    ((channelOctets b l).getD 7 0#8).extractLsb' 4 4 = 0x6#4 := by
  have unused : (imageOctet b l 7).extractLsb' 4 4 = 0#4 := by
    refine BitVec.eq_of_getLsbD_eq fun k hk => ?_
    rw [BitVec.getLsbD_extractLsb', imageOctet_getLsbD l h 7 (by omega), decide_eq_false (show ¬ 8 * 7 + (4 + k) < 60 by omega)]
    simp
  rw [channelOctets_last l h, BitVec.extractLsb'_or, unused]
  rfl

theorem channelOctets_position (h : b.sil.mode = .operate) (p : Position) :
    ((channelOctets b l).getD (p.val / 8) 0#8).getLsbD (p.val % 8) = imageBit b l p.val := by
  have place : 8 * (p.val / 8) + p.val % 8 = p.val := Nat.div_add_mod _ _
  have bit : (imageOctet b l (p.val / 8)).getLsbD (p.val % 8) = imageBit b l p.val := by
    rw [imageOctet_getLsbD l h _ (Nat.mod_lt _ (by decide)), place, decide_eq_true p.isLt, Bool.true_and]
  by_cases hc : p.val / 8 < 7
  · rw [channelOctets_getD l b hc, bit]
  · have last : p.val / 8 = 7 := by have := p.isLt; omega
    have low : ∀ k < 4, (0x60#8).getLsbD k = false := by decide
    rw [last] at bit ⊢
    rw [channelOctets_last l h, BitVec.getLsbD_or, bit, low _ (by have := p.isLt; omega), Bool.or_false]

end

/-- Settles O42: the start of a frame writes its link's record, and the channel octets are read bit by bit. -/
theorem framesCarryTheOutputs : Obligations.FramesCarryTheOutputs := by
  intro l s hb b r number
  obtain ⟨-, blocks, -⟩ := eventLeads_eventEnd s (startFrame l s.blocks) hb
  have links : (eventEnd s (startFrame l s.blocks)).blocks.links = (startFrame l s.blocks).links := by
    rw [blocks]
    exact following_sameBut s.blocks _ .links (by decide)
  refine ⟨eventEnd s (startFrame l s.blocks), channelOctets b l, rfl, channelOctets_length l b, ?_,
    channelOctets_rest l, fun hm => ⟨channelOctets_codeword l hm, fun p => ?_⟩⟩
  · rw [links, startFrame]
    simp only [setLink_links, frameBody_eq, codewordOf_eq]
    rfl
  · exact (channelOctets_position l hm p).trans (imageBit_position l b p)

end Sys2Proof.Proofs

/-! The queries: what each reply spells (R49, R62, R86, R145, R159, R179, R187, R203, R206). -/

namespace Sys2Proof.Proofs

open Sys2Proof.Machine Sys2Proof.Safety

/-! ## Encodings (R206) -/

theorem encodeCertainty_eq (c : Bool) : encodeCertainty c = [if c then 0#8 else 1#8] := by cases c <;> rfl

theorem encodeLampCommand_eq (on : Bool) : encodeLampCommand on = [if on then 0#8 else 1#8] := by cases on <;> rfl

theorem encodeFirst_eq (k : Option LeafFault) :
    encodeFirst k = [BitVec.ofNat 8 ((k.map fun k => k.number + 1).getD 0)] := by cases k <;> rfl

theorem encodeKinds_eq (ks : List LeafFault) : encodeKinds ks = u16 ((ks.map fun k => 2 ^ k.number).sum) := by
  rw [encodeKinds, List.sum_eq_foldl]

theorem optFlag_eq (x : Option Bool) : optFlag x = [(x.map fun v => if v then 1#8 else 0#8).getD 0xFF#8] := by
  cases x <;> rfl

theorem opt8_nibble (x : Option (BitVec 4)) :
    opt8 (x.map BitVec.toNat) = [(x.map (BitVec.setWidth 8)).getD 0xFF#8] := by
  cases x with
  | none => rfl
  | some v => simp [opt8, u8]

theorem encodeMovement_eq (m : Option Movement) : encodeMovement m = match m with
    | none => [0#8, 0#8, 0#8, 0#8]
    | some (.raise .full) => [1#8, 0#8, 0#8, 0#8]
    | some (.raise (.angle cd)) => 1#8 :: 1#8 :: u16 cd
    | some .lower => [2#8, 0#8, 0#8, 0#8]
    | some .recoveryLower => [3#8, 0#8, 0#8, 0#8] := by
  rcases m with _ | ⟨_ | _⟩ | _ | _ <;> rfl

theorem encodeLeafTarget_eq (t : Option RaiseTarget) : encodeLeafTarget t = match t with
    | none => [0#8, 0#8, 0#8]
    | some .full => [1#8, 0#8, 0#8]
    | some (.angle cd) => 2#8 :: u16 cd := by
  rcases t with _ | _ | _ <;> rfl

theorem encodeUpdate_eq (u : Option UpdateRec) : encodeUpdate u = match u with
    | none => List.replicate 12 0#8
    | some u => 1#8 :: (s24 u.distance ++ u16 u.zone ++ u16 u.cap ++ u24 u.lead.toNat ++ flag u.trimmed) := by
  cases u <;> rfl

theorem encodeGroupTarget_eq (t : GroupTarget) : encodeGroupTarget t = match t with
    | .none => [0#8, 0#8, 0#8]
    | .full => [1#8, 0#8, 0#8]
    | .passage cd => 2#8 :: u16 cd := by
  cases t <;> rfl

theorem encodeGap_eq (t : Option Nat) : encodeGap t = match t with
    | none => 0#8 :: u24 0
    | some ms => 1#8 :: u24 ms := by
  cases t <;> rfl

/-- The gap of the candidate, from the timer and the direction last cleared (R170, R179). -/
theorem candidateGap_eq (b : Blocks) : candidateGap b = match candidate b.nav with
    | none => 0
    | some v => if b.nav.gap = none then 0
      else if b.nav.lastCleared = some v.dir then b.par.followMs else b.par.reverseMs := by
  unfold candidateGap gapRequired
  cases candidate b.nav with
  | none => rfl
  | some v => simp only [Option.isNone_iff_eq_none]

/-! ## Queries on a quiet port -/

/-- A query of a subject and a part that it has is answered with the fields of that part (R203). -/
theorem exec_query {i : Instr} {kind tag subject part : Octet} {s : State} {ps : List (List Octet)}
    {fields data : List Octet} (parts : Nat → Option (List (List Octet))) (hq : QuietPort s)
    (hf : requestFrame i = some { kind := kind, tag := tag, body := [subject, part] })
    (ht : takeRequest { kind := kind, tag := tag, body := [subject, part] } (atTaking s) =
      answerQuery [subject, part] parts (atTaking s))
    (hs : parts subject.toNat = some ps) (hp : ps[part.toNat]? = some fields)
    (hd : queryData part.toNat ps.length fields = data) :
    exec i s = .next (answered s { kind := kind, tag := tag, body := [subject, part] } (atTaking s) (.ok data)) := by
  refine exec_answered hf (Nat.le_of_ble_eq_true rfl) hq (ht.trans ?_)
  simp only [answerQuery, num, hs, hp, hd]

theorem leafOf_number (l : LeafId) : leafOf (leafNumber l) = some l := by cases l <;> rfl

theorem linkOf_number (l : Link) : linkOf (linkNumber l) = some l := by cases l <;> rfl

theorem inputNumbered_succ (i : Fin 41) : inputNumbered (i.val + 1) = some i := by simp [inputNumbered]

/-! ## The source of an input (R52, R62) -/

/-- What GET_INPUT shows of an input's entry: its source, its debounce count and its two flags. -/
def InputShows (b : Blocks) (i : Fin 41) (source : List Octet) (n : Nat) (invert report : Bool) : Prop :=
  encodeSource b i = source ∧ debounceCount b i = n ∧ invertFlag b i = invert ∧ reportFlag b i = report

theorem inputShows_direct (b : Blocks) {i : Fin 41} (h : 24 ≤ i.val) :
    InputShows b i [1#8, 0#8, 0#8, 0#8] (if i.val = 40 then 2 else b.par.directDebounce) false true := by
  have entry : inputEntryAt b i = none := dif_neg (Nat.not_lt.mpr h)
  refine ⟨if_pos h, if_neg (Nat.not_lt.mpr h), ?_, ?_⟩
  · rw [invertFlag, entry]
  · rw [reportFlag, entry]

section
variable {b : Blocks} {j : Fin 24}

theorem inputEntryAt_field {e : Option InputEntry} (h : b.cat.inputs.get j = e) : inputEntryAt b (fieldRec j) = e :=
  (dif_pos j.isLt).trans h

theorem field_not_direct (j : Fin 24) : ¬ 24 ≤ (fieldRec j).val := Nat.not_le.mpr j.isLt

theorem inputShows_none (h : b.cat.inputs.get j = none) :
    InputShows b (fieldRec j) [3#8, 0#8, 0#8, 0#8] 1 false true := by
  have entry := inputEntryAt_field h
  refine ⟨?_, ?_, ?_, ?_⟩
  · rw [encodeSource, if_neg (field_not_direct j), entry]
    rfl
  · rw [debounceCount, if_pos (show (fieldRec j).val < 24 from j.isLt), entry]
  · rw [invertFlag, entry]
  · rw [reportFlag, entry]

theorem inputShows_notFitted (h : b.cat.inputs.get j = some .notFitted) :
    InputShows b (fieldRec j) [2#8, 0#8, 0#8, 0#8] 1 false true := by
  have entry := inputEntryAt_field h
  refine ⟨?_, ?_, ?_, ?_⟩
  · rw [encodeSource, if_neg (field_not_direct j), entry]
    rfl
  · rw [debounceCount, if_pos (show (fieldRec j).val < 24 from j.isLt), entry]
  · rw [invertFlag, entry]
  · rw [reportFlag, entry]

theorem inputShows_position {k : Link} {p : Position} {n : Nat} {invert report : Bool}
    (hk : inputLink (fieldFn j) = some k) (h : b.cat.inputs.get j = some (.position p n invert report)) :
    InputShows b (fieldRec j)
      [0#8, BitVec.ofNat 8 (linkNumber k), BitVec.ofNat 8 (p.val / 8 + 1), BitVec.ofNat 8 (p.val % 8)] n invert
      report := by
  have entry := inputEntryAt_field h
  obtain ⟨-, count, -⟩ := fieldEntry_reads h hk
  refine ⟨?_, count, ?_, ?_⟩
  · rw [encodeSource, if_neg (field_not_direct j), entry, show inputLink (inputAt (fieldRec j)) = some k from hk]
    rfl
  · rw [invertFlag, entry]
  · rw [reportFlag, entry]

end

/-! ## What the queries spell -/

/-- Settles O38: each query names a part that it has, and the fields of that part are spelled octet by octet. -/
theorem queriesSpellTheRecords : Obligations.QueriesSpellTheRecords := by
  intro tag subject s hq b f yes w left travel movement
  have hleft : left = optTimer := funext fun t => by cases t <;> rfl
  have htravel : travel = encodeTravel := funext fun t => by cases t <;> rfl
  have hmovement : movement = encodeMovement := funext fun m => by rcases m with _ | ⟨_ | _⟩ | _ | _ <;> rfl
  clear_value left travel movement
  subst hleft htravel hmovement
  refine ⟨?span, ?locks, ?link, ?wind, ?rest⟩
  case span =>
    intro cause overrides
    have hcause : cause = encodeCause b.sil.cause := by
      simp only [cause]
      cases b.sil.cause <;> rfl
    have hoverrides : overrides = b.sil.overrides.map encodeOverride :=
      List.map_congr_left fun o _ => by cases o <;> rfl
    refine exec_query (onlyZero [spanFields b]) hq rfl rfl rfl rfl ?_
    simp only [queryData, spanFields, u8, flag, listOf, hcause, hoverrides, yes, List.cons_append, List.nil_append,
      List.append_assoc]
    rfl
  case locks =>
    intro lock brake
    refine exec_query (onlyZero [locksPart b]) hq rfl rfl rfl rfl ?_
    simp only [queryData, locksPart, LockId.all, LeafId.all, lockRecord, sequenceFields, brakeFields, u8, flag, lock,
      brake, yes, List.map_cons, List.map_nil, List.flatten_cons, List.flatten_nil, List.cons_append, List.nil_append,
      List.append_assoc]
    rfl
  case link =>
    intro l hl r
    have number : BitVec.ofNat 8 r.txNumber.toNat = r.txNumber.setWidth 8 := BitVec.ofNat_toNat 8 _
    have codeword : BitVec.ofNat 8 r.txCodeword.number = if r.txCodeword = .hold then 0#8 else 1#8 := by
      cases r.txCodeword <;> rfl
    refine exec_query (fun n => (linkOf n).map fun l => [linkPart b l]) hq rfl rfl
      (by rw [hl, linkOf_number]; rfl) rfl ?_
    simp only [queryData, linkPart, u8, flag, opt8_nibble, yes, List.cons_append, List.nil_append, List.append_assoc]
    rw [← number, ← codeword]
    rfl
  case wind =>
    refine exec_query (onlyZero [windPart b]) hq rfl rfl rfl rfl ?_
    simp only [queryData, windPart, windFields, u8, opt24, apply_ite (BitVec.ofNat 8), List.cons_append,
      List.nil_append, List.append_assoc]
    rfl
  intro g o known
  have hknown : known = optS24 := funext fun v => by cases v <;> rfl
  clear_value known
  subst hknown
  refine ⟨?road, ?leaf, ?input, ?queue⟩
  case road =>
    intro road bar lamp
    have taken : ∀ part : Octet, takeRequest (g 0x31#8 0#8 part) (atTaking s) = takeGetRoad [0#8, part] b :=
      fun _ => rfl
    refine ⟨exec_query _ hq rfl (taken _) rfl rfl ?_, exec_query _ hq rfl (taken _) rfl rfl ?_,
      exec_query _ hq rfl (taken _) rfl rfl ?_, exec_query _ hq rfl (taken _) rfl rfl ?_⟩
    · simp only [queryData, roadPart, roadFields, u8, flag, yes, o, List.cons_append, List.nil_append,
        List.append_assoc]
      rfl
    · simp only [queryData, BarrierId.all, barrierRecord, u8, bar, o, List.map_cons, List.map_nil, List.flatten_cons,
        List.flatten_nil, List.cons_append, List.nil_append, List.append_assoc]
      rfl
    · simp only [queryData, generatorFields, lampGroups, lampRecord, encodeLampCommand_eq, u8, flag, timer16, opt8,
        lamp, o, yes, List.take, List.map_cons, List.map_nil, List.flatten_cons, List.flatten_nil, List.cons_append,
        List.nil_append, List.append_assoc]
      rfl
    · simp only [queryData, lampGroups, lampRecord, encodeLampCommand_eq, u8, flag, timer16, lamp, o, yes, List.drop,
        List.map_cons, List.map_nil, List.flatten_cons, List.flatten_nil, List.cons_append, List.nil_append,
        List.append_assoc]
      rfl
  case leaf =>
    intro l hl leaf p x y m
    have parts : (fun n => (leafOf n).map fun l => [leafPart0 b l, leafPart1 b l]) subject.toNat =
        some [leafPart0 b l, leafPart1 b l] := by
      rw [hl]
      exact congrArg _ (leafOf_number l)
    have taken : ∀ part : Octet, takeRequest (g 0x32#8 subject part) (atTaking s) = takeGetLeaf [subject, part] b :=
      fun _ => rfl
    refine ⟨exec_query _ hq rfl (taken _) parts rfl ?_, exec_query _ hq rfl (taken _) parts rfl ?_⟩
    · delta leafPart0
      simp only [queryData, encodeCertainty_eq, encodeAngle, encodeFirst_eq, encodeKinds_eq, optFlag_eq, u8, flag, yes,
        o, List.cons_append, List.nil_append, List.append_assoc]
      rfl
    · delta leafPart1
      simp only [queryData, encodeLeafTarget_eq, encodeUpdate_eq, opt16, opt8, u8, flag, yes, o, List.cons_append,
        List.nil_append, List.append_assoc]
      rfl
  case input =>
    intro i hi x input
    have shows : ∀ (source : List Octet) (n : Nat) (invert report : Bool), InputShows b i source n invert report →
        input source n invert report := by
      rintro source n invert report ⟨rfl, rfl, rfl, rfl⟩
      refine exec_query (fun n => (inputNumbered n).map fun i => [inputPart b i]) hq rfl rfl
        (by rw [hi, inputNumbered_succ]; rfl) rfl ?_
      simp only [queryData, inputPart, opt16, optFlag_eq, u8, flag, yes, o, List.cons_append, List.nil_append,
        List.append_assoc]
      rfl
    refine ⟨fun h => shows _ _ _ _ (inputShows_direct b h), fun j hj => ?_⟩
    obtain rfl : i = fieldRec j := Fin.ext hj.symm
    exact ⟨fun h => shows _ _ _ _ (inputShows_none h), fun h => shows _ _ _ _ (inputShows_notFitted h),
      fun k p n invert report hk h => shows _ _ _ _ (inputShows_position hk h)⟩
  case queue =>
    intro queue n vessel slot listed direction
    have taken : ∀ part : Octet, takeRequest (g 0x36#8 0#8 part) (atTaking s) = takeGetQueue [0#8, part] b :=
      fun _ => rfl
    have hslot : slot = fun k => encodeSlot n.slots[k]? := funext fun k => by
      simp only [slot]
      cases n.slots[k]? <;> rfl
    refine ⟨exec_query _ hq rfl (taken _) rfl rfl ?_, exec_query _ hq rfl (taken _) rfl rfl rfl,
      exec_query _ hq rfl (taken _) rfl rfl rfl, exec_query _ hq rfl (taken _) rfl rfl ?_⟩
    · rw [hslot]
      delta queuePart0
      simp only [queryData, placesInUse, waitingSlots, encodeGroupTarget_eq, encodeOptDir, encodeGap_eq,
        candidateGap_eq, clearanceFields, opt8, u8, o, direction, List.range, List.range.loop, List.map_cons,
        List.map_nil, List.flatten_cons, List.flatten_nil, List.cons_append, List.nil_append, List.append_assoc]
      rfl
    · simp only [queryData, queuePart3, listOf, flag, yes, o, opt16, opt24, u8, List.cons_append, List.nil_append,
        List.append_assoc]
      rfl

end Sys2Proof.Proofs

/-! The report queue: its priorities and its order, and what an event posts under each key (R204, R205). -/

namespace Sys2Proof.Proofs

open Sys2Proof.Machine Sys2Proof.Safety

/-! ## The best entry (R204, R205) -/

theorem reportPriority_le (k : ReportKind) : reportPriority k ≤ 3 := by cases k <;> decide

/-- An entry found at a priority has it, lies within the floor, and no other of its priority stands before it. -/
theorem eligibleAt_eq_some {floor p : Nat} {rq : List Entry} {e : Entry} : eligibleAt floor rq p = some e ↔
    p ≤ floor ∧ reportPriority e.kind = p ∧
      ∃ before after, rq = before ++ e :: after ∧ ∀ x ∈ before, reportPriority x.kind ≠ p := by
  unfold eligibleAt
  split
  · simp [List.find?_eq_some_iff_append, *]
  · simp [*]

theorem eligibleAt_eq_none {floor p : Nat} {rq : List Entry} : eligibleAt floor rq p = none ↔
    (p ≤ floor → ∀ x ∈ rq, reportPriority x.kind ≠ p) := by
  unfold eligibleAt
  split <;> simp [*]

/-- The best entry is found at the first priority at which any is found. -/
theorem firstEligible_eq_some {floor : Nat} {rq : List Entry} {e : Entry} (h : firstEligible floor rq = some e) :
    ∃ p, eligibleAt floor rq p = some e ∧ ∀ q < p, eligibleAt floor rq q = none := by
  obtain ⟨before, p, after, split, found, none⟩ := List.findSome?_eq_some_iff.mp h
  refine ⟨p, found, fun q hq => none q ?_⟩
  have sorted : (before ++ p :: after).Pairwise (· < ·) := split ▸ by decide
  have le : p ≤ 3 := (by decide : ∀ x ∈ [0, 1, 2, 3], x ≤ 3) p (by simp [split])
  have mem : q ∈ before ++ p :: after := split ▸ by simp; omega
  rcases List.mem_append.mp mem with hb | ha
  · exact hb
  · rcases List.mem_cons.mp ha with rfl | ha
    · exact absurd hq (Nat.lt_irrefl _)
    · exact absurd hq (Nat.lt_asymm (List.rel_of_pairwise_cons (List.pairwise_append.mp sorted).2.1 ha))

/-- The best entry lies within the floor, none stands before its priority, and none of its own stands before it. -/
theorem firstEligible_best {floor : Nat} {rq : List Entry} {e : Entry} (h : firstEligible floor rq = some e) :
    reportPriority e.kind ≤ floor ∧ ∃ before after : List Entry, rq = before ++ e :: after ∧
      (∀ x ∈ before, reportPriority e.kind < reportPriority x.kind) ∧
        ∀ x ∈ after, reportPriority e.kind ≤ reportPriority x.kind := by
  obtain ⟨p, found, first⟩ := firstEligible_eq_some h
  obtain ⟨within, rfl, before, after, split, other⟩ := eligibleAt_eq_some.mp found
  have least : ∀ x ∈ rq, reportPriority e.kind ≤ reportPriority x.kind := fun x hx => by
    by_contra better
    exact eligibleAt_eq_none.mp (first (reportPriority x.kind) (by omega)) (by omega) x hx rfl
  refine ⟨within, before, after, split, fun x hx => ?_, fun x hx => least x (by simp [split, hx])⟩
  exact lt_of_le_of_ne (least x (by simp [split, hx])) (other x hx).symm

theorem firstEligible_eq_none {floor : Nat} {rq : List Entry} : firstEligible floor rq = none ↔
    ∀ e ∈ rq, floor < reportPriority e.kind := by
  have found : firstEligible floor rq = none ↔ ∀ p ∈ [0, 1, 2, 3], eligibleAt floor rq p = none :=
    List.findSome?_eq_none_iff
  simp only [found, eligibleAt_eq_none]
  constructor
  · intro h e he
    by_contra hf
    have := reportPriority_le e.kind
    exact h (reportPriority e.kind) (by simp; omega) (by omega) e he rfl
  · rintro h p - hp x hx rfl
    exact absurd (h x hx) (by omega)

/-! ## One posting (R204) -/

/-- In a queue in order a posting under a key that stands rewrites its entry alone. -/
theorem post_stands {before after : List Entry} {e : Entry} {p : Posting}
    (hk : (e.kind, e.subject) = (p.kind, p.subject)) (h : QueueOk (before ++ e :: after)) :
    post (before ++ e :: after) p = before ++ { e with body := p.body, count := min (e.count + 1) 255 } :: after := by
  have key : e.hasKey p.kind p.subject = true := (hasKey_iff _ _ _).mpr hk
  have others : ∀ x, x ∈ before ∨ x ∈ after → x.hasKey p.kind p.subject = false := fun x hx => by
    refine Bool.eq_false_of_not_eq_true fun same => ?_
    have nodup := h.1
    rw [List.map_append, List.map_cons, List.nodup_append, List.nodup_cons, hk, ← (hasKey_iff _ _ _).mp same] at nodup
    obtain ⟨-, ⟨fresh, -⟩, apart⟩ := nodup
    rcases hx with hx | hx
    · exact apart _ (List.mem_map_of_mem hx) _ (List.mem_cons_self ..) rfl
    · exact fresh (List.mem_map_of_mem hx)
  have rest : ∀ xs : List Entry, (∀ x ∈ xs, x ∈ before ∨ x ∈ after) →
      xs.map (fun x => if x.hasKey p.kind p.subject then x.again p.body else x) = xs := fun xs hxs =>
    (List.map_congr_left fun x hx => by rw [others x (hxs x hx)]; rfl).trans (List.map_id _)
  rw [post_present _ _ (by simp [key]), List.map_append, List.map_cons, if_pos key, rest before fun x => .inl,
    rest after fun x => .inr]
  rfl

theorem post_fresh {rq : List Entry} {p : Posting} (h : ∀ e ∈ rq, (e.kind, e.subject) ≠ (p.kind, p.subject)) :
    post rq p = rq ++ [{ kind := p.kind, subject := p.subject, count := 1, body := p.body }] := by
  refine post_absent rq p (Bool.eq_false_of_not_eq_true fun stands => ?_)
  obtain ⟨e, he, key⟩ := List.any_eq_true.mp stands
  exact h e he ((hasKey_iff _ _ _).mp key)

end Sys2Proof.Proofs

/-! What an event posts: under each key of R204's table at most once, at the changes that its rule names. -/

namespace Sys2Proof.Proofs

open Sys2Proof.Machine Sys2Proof.Safety

/-! ## The keys of R204 -/

/-- The keys under which an event posts, in the order of its postings; PORT is posted by the port. -/
inductive ReportKey where
  | estop | clearanceLost
  | leaf (l : LeafId)
  | span | road
  | barrier (i : BarrierId)
  | lock (k : LockId)
  | passage (slot : Fin 4)
  | nav (d : Dir)
  | console
  | link (l : Link)
  | station (l : Link)
  | lamp (g : Lamp)
  | wind
  | input (i : Fin 41)

namespace ReportKey

def kind : ReportKey → ReportKind
  | estop => .estop
  | clearanceLost => .clearanceLost
  | leaf _ => .leaf
  | span => .span
  | road => .road
  | barrier _ => .barrier
  | lock _ => .lock
  | passage _ => .passage
  | nav _ => .nav
  | console => .console
  | link _ => .link
  | station _ => .station
  | lamp _ => .lamp
  | wind => .wind
  | input _ => .input

def subject : ReportKey → Nat
  | leaf l => leafNumber l
  | barrier i => barrierNumber i
  | lock k => lockNumber k
  | passage slot => slot.val
  | nav d => dirNumber d
  | link l => linkNumber l
  | station l => linkNumber l
  | lamp g => (lampIndex g).val
  | input i => i.val + 1
  | estop | clearanceLost | span | road | console | wind => 0

def pair (k : ReportKey) : ReportKind × Nat := (k.kind, k.subject)

/-- The posting under a key, if there is one. -/
def posting (s0 b : Blocks) : ReportKey → List Posting
  | estop => estopPosting b
  | clearanceLost => clearanceLostPosting b
  | leaf l => leafPosting s0 b l
  | span => spanPosting s0 b
  | road => roadPosting s0 b
  | barrier i => barrierPosting s0 b i
  | lock k => lockPosting s0 b k
  | passage slot => passagePosting s0 b slot.val
  | nav d => navPosting s0 b d
  | console => consolePosting b
  | link l => linkPosting s0 b l
  | station l => stationPosting s0 b l
  | lamp g => lampPosting s0 b g
  | wind => windPosting s0 b
  | input i => inputPosting s0 b i

def all : List ReportKey :=
  [[estop], [clearanceLost], LeafId.all.map leaf, [span], [road], BarrierId.all.map barrier, LockId.all.map lock,
    (List.finRange 4).map passage, Dir.all.map nav, [console], Link.all.map link, Link.all.map station,
    lampGroups.map lamp, [wind], (List.finRange 41).map input].flatten

theorem mem_all (k : ReportKey) : k ∈ all := by
  cases k
  case leaf l => cases l <;> simp [all, LeafId.all]
  case barrier i => cases i <;> simp [all, BarrierId.all]
  case lock k => cases k <;> simp [all, LockId.all]
  case nav d => cases d <;> simp [all, Dir.all]
  case link l => cases l <;> simp [all, Link.all]
  case station l => cases l <;> simp [all, Link.all]
  case lamp g =>
    have listed : g ∈ lampGroups := by rcases g with a | a | a | d | d | d <;> cases ‹_› <;> decide
    simp [all, listed]
  all_goals simp [all]

theorem all_pairs_nodup : (all.map pair).Nodup := by decide +kernel

/-- A key is known by its kind and its subject. -/
theorem eq_of_pair_eq {k j : ReportKey} (h : k.pair = j.pair) : k = j :=
  List.inj_on_of_nodup_map all_pairs_nodup (mem_all k) (mem_all j) h

end ReportKey

/-! ## The postings of an event, key by key -/

theorem postIf_cases (c : Bool) (p : Posting) : postIf c p = [] ∨ postIf c p = [p] := by
  cases c
  · exact .inl rfl
  · exact .inr rfl

/-- A posting by a rule that posts the last note of its kind. -/
theorem last_cases {P : Posting → Prop} {ps : List Posting} (h : ∀ p ∈ ps, P p) :
    ps.getLast?.toList = [] ∨ ∃ p, ps.getLast?.toList = [p] ∧ P p := by
  cases hl : ps.getLast? with
  | none => exact .inl rfl
  | some p => exact .inr ⟨p, rfl, h p (List.mem_of_getLast? hl)⟩

section
variable (s0 b : Blocks)

/-- Each key has one posting at most. -/
theorem posting_cases (k : ReportKey) : k.posting s0 b = [] ∨
    ∃ body, k.posting s0 b = [{ kind := k.kind, subject := k.subject, body := body }] := by
  have conditional : ∀ (c : Bool) (body : List Octet), postIf c { kind := k.kind, subject := k.subject, body := body } = [] ∨
      ∃ x, postIf c { kind := k.kind, subject := k.subject, body := body } =
        [{ kind := k.kind, subject := k.subject, body := x }] := fun c body =>
    (postIf_cases c _).imp_right fun h => ⟨body, h⟩
  cases k
  case estop =>
    refine (last_cases (P := fun p => ∃ x, p = { kind := .estop, subject := 0, body := x }) fun p hp => ?_).imp_right ?_
    · obtain ⟨n, -, hn⟩ := List.mem_filterMap.mp hp
      cases n <;> cases hn
      exact ⟨_, rfl⟩
    · rintro ⟨p, hp, x, rfl⟩
      exact ⟨x, hp⟩
  case clearanceLost =>
    refine (last_cases (P := fun p => ∃ x, p = { kind := .clearanceLost, subject := 0, body := x }) fun p hp => ?_).imp_right ?_
    · obtain ⟨n, -, hn⟩ := List.mem_filterMap.mp hp
      cases n <;> cases hn
      exact ⟨_, rfl⟩
    · rintro ⟨p, hp, x, rfl⟩
      exact ⟨x, hp⟩
  case link l =>
    have judged : linkPosting s0 b l = [] ∨
        ∃ body, linkPosting s0 b l = [{ kind := .link, subject := linkNumber l, body := body }] := by
      unfold linkPosting
      split
      · exact .inr ⟨_, rfl⟩
      · exact conditional _ _
    exact judged
  all_goals exact conditional _ _

theorem posting_pair {k : ReportKey} {p : Posting} (h : p ∈ k.posting s0 b) : (p.kind, p.subject) = k.pair := by
  rcases posting_cases s0 b k with hk | ⟨body, hk⟩
  · simp [hk] at h
  · rw [hk, List.mem_singleton] at h
    rw [h]
    rfl

theorem eventPostings_eq : eventPostings s0 b = (ReportKey.all.map (ReportKey.posting s0 b)).flatten := by
  have slots : (List.range 4).map (passagePosting s0 b) = (List.finRange 4).map fun k => passagePosting s0 b k.val := rfl
  simp only [eventPostings, ReportKey.all, slots, List.flatten_cons, List.flatten_nil, List.map_append, List.map_cons,
    List.map_nil, List.map_map, List.flatten_append, List.append_nil]
  rfl

theorem mem_eventPostings {p : Posting} : p ∈ eventPostings s0 b ↔ ∃ k, p ∈ ReportKey.posting s0 b k := by
  rw [eventPostings_eq, List.mem_flatten]
  simp [ReportKey.mem_all]

/-- A posting under a key is the posting of that key. -/
theorem mem_eventPostings_key (k : ReportKey) (x : List Octet) :
    ({ kind := k.kind, subject := k.subject, body := x } : Posting) ∈ eventPostings s0 b ↔
      { kind := k.kind, subject := k.subject, body := x } ∈ k.posting s0 b := by
  rw [mem_eventPostings]
  refine ⟨fun ⟨j, hj⟩ => ?_, fun h => ⟨k, h⟩⟩
  obtain rfl := ReportKey.eq_of_pair_eq (k := k) (posting_pair s0 b hj)
  exact hj

/-- Relations between the keys of two postings follow from the order of the keys. -/
theorem eventPostings_pairwise {R : ReportKind × Nat → ReportKind × Nat → Prop}
    (h : (ReportKey.all.map ReportKey.pair).Pairwise R) :
    (eventPostings s0 b).Pairwise fun p q => R (p.kind, p.subject) (q.kind, q.subject) := by
  rw [eventPostings_eq, List.pairwise_flatten, List.pairwise_map]
  refine ⟨fun ps hps => ?_, (List.pairwise_map.mp h).imp fun hr p hp q hq => ?_⟩
  · obtain ⟨k, -, rfl⟩ := List.mem_map.mp hps
    rcases posting_cases s0 b k with hk | ⟨body, hk⟩ <;> simp [hk]
  · rw [posting_pair s0 b hp, posting_pair s0 b hq]
    exact hr

end

/-! ## Conditions, notes and bodies -/

theorem mem_postIf {c : Bool} {p q : Posting} : q ∈ postIf c p ↔ c = true ∧ q = p := by
  cases c <;> simp [postIf]

/-- A rule that posts on a condition. -/
theorem posts_iff {s0 b : Blocks} (k : ReportKey) {c : Bool} {on : Prop} {body spelled : List Octet}
    (hk : k.posting s0 b = postIf c { kind := k.kind, subject := k.subject, body := body }) (hc : c = true ↔ on)
    (hb : body = spelled) (x : List Octet) :
    ({ kind := k.kind, subject := k.subject, body := x } : Posting) ∈ eventPostings s0 b ↔ on ∧ x = spelled := by
  rw [mem_eventPostings_key, hk, mem_postIf, hc, ← hb]
  simp

/-- What the last of the notes of a kind says. -/
theorem lastNoted_eq {α : Type} {f : Note → Option α} {ns before after : List Note} {n : Note} {y : α}
    (h : ns = before ++ n :: after) (hn : f n = some y) (ha : ∀ m ∈ after, f m = none) :
    (ns.filterMap f).getLast? = some y := by
  rw [h, List.filterMap_append, List.filterMap_cons_some hn, List.filterMap_eq_nil_iff.mpr ha, List.getLast?_concat]

theorem lastNoted_none {α : Type} {f : Note → Option α} {ns : List Note} (h : ∀ m ∈ ns, f m = none) :
    (ns.filterMap f).getLast? = none := by
  rw [List.filterMap_eq_nil_iff.mpr h, List.getLast?_nil]

end Sys2Proof.Proofs

/-! The report queue as a whole: its order and the postings of an event with their fields (R47 to R205). -/

namespace Sys2Proof.Proofs

open Sys2Proof.Machine Sys2Proof.Safety

/-! ## The changes that the rules name -/

section
variable (s0 b : Blocks)

theorem leafChanged_iff (l : LeafId) : leafChanged s0 b l = true ↔
    ¬ ((s0.leaves.get l).mot.state = (b.leaves.get l).mot.state ∧
      (s0.leaves.get l).mot.arrived = (b.leaves.get l).mot.arrived ∧
      (s0.leaves.get l).pos.certain = (b.leaves.get l).pos.certain ∧
      (s0.leaves.get l).pos.angleKnown = (b.leaves.get l).pos.angleKnown ∧
      (s0.leaves.get l).flt.first = (b.leaves.get l).flt.first ∧
      (s0.leaves.get l).flt.kinds = (b.leaves.get l).flt.kinds ∧
      (s0.brakes.get l).state = (b.brakes.get l).state ∧ (s0.brakes.get l).fault = (b.brakes.get l).fault ∧
      (s0.brakes.get l).mismatch = (b.brakes.get l).mismatch) ∨ .leaf l ∈ b.notes := by
  simp only [leafChanged, leafMoved, Bool.or_eq_true, bne_iff_ne, List.contains_iff_mem, not_and_or, ← ne_eq, or_assoc]

theorem spanChanged_iff : spanChanged s0 b = true ↔
    ¬ (s0.sil.mode = b.sil.mode ∧ s0.sil.phase = b.sil.phase ∧ s0.sil.held = b.sil.held ∧
      s0.sil.cause = b.sil.cause ∧ s0.sil.overrides = b.sil.overrides ∧ s0.sil.latch = b.sil.latch ∧
      s0.sil.consoleLost = b.sil.consoleLost) ∨ .span ∈ b.notes := by
  simp only [spanChanged, Bool.or_eq_true, bne_iff_ne, List.contains_iff_mem, not_and_or, ← ne_eq, or_assoc]

theorem roadChanged_iff : roadChanged s0 b = true ↔
    ¬ (s0.rsq.phase = b.rsq.phase ∧ s0.rsq.wait = b.rsq.wait ∧ s0.rsq.cause = b.rsq.cause) ∨ .road ∈ b.notes := by
  simp only [roadChanged, Bool.or_eq_true, bne_iff_ne, List.contains_iff_mem, not_and_or, ← ne_eq, or_assoc]

theorem lockRecordChanged_eq_false_iff (k : LockId) : lockRecordChanged s0 b k = false ↔
    (s0.locks.get k).state = (b.locks.get k).state ∧ (s0.locks.get k).command = (b.locks.get k).command ∧
      (s0.locks.get k).fault = (b.locks.get k).fault := by
  simp only [lockRecordChanged, Bool.or_eq_false_iff, bne_eq_false_iff_eq, and_assoc]

/-- A LOCK report follows a change of its record, and under the key CENTRE also one of the sequence alone (R159). -/
theorem lockChanged_iff (k : LockId) : lockChanged s0 b k = true ↔
    ¬ lockRecordChanged s0 b k = false ∨
      (k = .centre ∧ (∀ j, lockRecordChanged s0 b j = false) ∧ (s0.seq ≠ b.seq ∨ .lock .centre ∈ b.notes)) := by
  rw [forall_lock]
  simp only [lockChanged, sequenceChangedAlone, LockId.all, List.all_cons, List.all_nil, Bool.or_eq_true,
    Bool.and_eq_true, bne_iff_ne, beq_iff_eq, List.contains_iff_mem, Bool.not_eq_true', Bool.not_eq_false, and_true]
  tauto

theorem reportFlag_eq (i : Fin 41) : reportFlag b i = match inputEntryAt b i with
    | some (.position _ _ _ report) => report
    | some .notFitted => true
    | none => true := by
  unfold reportFlag
  rcases inputEntryAt b i with _ | _ | _ <;> rfl

end

/-! ## Fields of the reports -/

theorem encodeSlot_eq (x : Option Slot) : encodeSlot x = match x with
    | none => List.replicate 9 0#8
    | some x => BitVec.ofNat 8 (x.state.number + 1) :: encodeVessel x.vessel := by
  cases x <;> rfl

/-- The vessel PROCEEDING, in the direction of a NAV report (R178). -/
theorem navVessel_eq (v : Option Vessel) (d : Dir) : opt24 ((v.filter fun v => v.dir == d).map Vessel.ident) =
    match v with
    | none => u24 0xFFFFFF
    | some v => u24 (if v.dir = d then v.ident else 0xFFFFFF) := by
  cases v with
  | none => rfl
  | some v =>
    simp only [Option.filter_some, beq_iff_eq]
    by_cases h : v.dir = d
    · simp only [if_pos h]
      rfl
    · simp only [if_neg h]
      rfl

theorem listOf_octets {α : Type} (g : α → Nat) (xs : List α) : listOf (fun x => u8 (g x)) xs =
    BitVec.ofNat 8 xs.length :: xs.map fun x => BitVec.ofNat 8 (g x) := by
  rw [List.map_eq_flatMap]
  rfl

/-- The link of a field input's station is that of its place in the list of R51 (R65). -/
theorem inputLink_place : ∀ i : Fin 41, i.val < 24 →
    inputLink (inputAt i) = some (if i.val < 9 then .n else if i.val < 18 then .s else .p) := by decide

theorem encodeSource_eq (b : Blocks) (i : Fin 41) : encodeSource b i =
    if 24 ≤ i.val then [1#8, 0#8, 0#8, 0#8]
    else match inputEntryAt b i with
      | some (.position p _ _ _) => [0#8, if i.val < 9 then 0#8 else if i.val < 18 then 1#8 else 2#8,
          BitVec.ofNat 8 (p.val / 8 + 1), BitVec.ofNat 8 (p.val % 8)]
      | some .notFitted => [2#8, 0#8, 0#8, 0#8]
      | none => [3#8, 0#8, 0#8, 0#8] := by
  unfold encodeSource
  by_cases h : 24 ≤ i.val
  · rw [if_pos h, if_pos h]
    rfl
  · rw [if_neg h, if_neg h, inputLink_place i (Nat.not_le.mp h)]
    rcases inputEntryAt b i with _ | p | _
    · rfl
    · by_cases h9 : i.val < 9
      · simp only [if_pos h9]
        rfl
      · by_cases h18 : i.val < 18
        · simp only [if_neg h9, if_pos h18]
          rfl
        · simp only [if_neg h9, if_neg h18]
          rfl
    · rfl

/-! ## Subject numbers -/

theorem leafNumber_lt (l : LeafId) : leafNumber l < 2 := by cases l <;> decide

theorem barrierNumber_lt (i : BarrierId) : barrierNumber i < 4 := by cases i <;> decide

theorem lockNumber_lt (k : LockId) : lockNumber k < 3 := by cases k <;> decide

theorem dirNumber_lt (d : Dir) : dirNumber d < 2 := by cases d <;> decide

theorem linkNumber_lt (l : Link) : linkNumber l < 3 := by cases l <;> decide

/-! ## Postings that a note of the event carries -/

section
variable {b : Blocks}

theorem linkNote_none {l : Link} (h : ∀ frames errors : Nat, .link l frames errors ∉ b.notes) : linkNote b l = none :=
  lastNoted_none fun n hn => by
    cases n
    case link k frames errors =>
      by_cases hk : k = l
      · subst hk
        exact absurd hn (h frames errors)
      · exact if_neg hk
    all_goals rfl

theorem linkNote_last {l : Link} {frames errors : Nat} {before after : List Note}
    (hn : b.notes = before ++ .link l frames errors :: after) (ha : ∀ n m : Nat, .link l n m ∉ after) :
    linkNote b l = some (frames, errors) :=
  lastNoted_eq hn (if_pos rfl) fun n hm => by
    cases n
    case link k n m =>
      by_cases hk : k = l
      · subst hk
        exact absurd hm (ha n m)
      · exact if_neg hk
    all_goals rfl

theorem estopPosting_none (h : ∀ leaves locks barriers, .estop leaves locks barriers ∉ b.notes) :
    estopPosting b = [] := by
  unfold estopPosting
  rw [lastNoted_none fun n hn => ?none]
  case none =>
    cases n
    case estop leaves locks barriers => exact absurd hn (h leaves locks barriers)
    all_goals rfl
  rfl

theorem estopPosting_last {leaves : List LeafId} {locks : List LockId} {barriers : List BarrierId}
    {before after : List Note} (hn : b.notes = before ++ .estop leaves locks barriers :: after)
    (ha : ∀ x y z, .estop x y z ∉ after) :
    estopPosting b = [{ kind := .estop, subject := 0, body := estopFields b leaves locks barriers }] := by
  unfold estopPosting
  rw [lastNoted_eq hn ?found fun n hm => ?later]
  case found => rfl
  case later =>
    cases n
    case estop x y z => exact absurd hm (ha x y z)
    all_goals rfl
  rfl

theorem clearanceLostPosting_none (h : ∀ v low, .clearanceLost v low ∉ b.notes) : clearanceLostPosting b = [] := by
  unfold clearanceLostPosting
  rw [lastNoted_none fun n hn => ?none]
  case none =>
    cases n
    case clearanceLost v low => exact absurd hn (h v low)
    all_goals rfl
  rfl

theorem clearanceLostPosting_last {v : Vessel} {low : Bool} {before after : List Note}
    (hn : b.notes = before ++ .clearanceLost v low :: after) (ha : ∀ x y, .clearanceLost x y ∉ after) :
    clearanceLostPosting b =
      [{ kind := .clearanceLost, subject := 0, body := clearanceLostFields b v low }] := by
  unfold clearanceLostPosting
  rw [lastNoted_eq hn ?found fun n hm => ?later]
  case found => rfl
  case later =>
    cases n
    case clearanceLost x y => exact absurd hm (ha x y)
    all_goals rfl
  rfl

end

/-! ## The statement -/

/-- Settles O11: the transmitter's choice and a posting are the rules of RQ, and each posting of an event has its own key. -/
theorem reportQueueKeepsItsOrder : Obligations.ReportQueueKeepsItsOrder := by
  refine ⟨fun k => by cases k <;> rfl, fun floor rq e => firstEligible_best, fun floor rq => firstEligible_eq_none,
    ⟨fun rq p => post_fresh, fun before after e p => post_stands⟩, fun s0 b => ?_⟩
  intro P posts o yes left travel known certain
  have hleft : left = optTimer := funext fun t => by cases t <;> rfl
  have htravel : travel = encodeTravel := funext fun t => by cases t <;> rfl
  have hknown : known = optS24 := funext fun v => by cases v <;> rfl
  clear_value left travel known
  subst hleft htravel hknown
  refine ⟨?nodup, ?subjects, ?order, ?onLeaf, ?onSpan, ?onRoad, ?onBarrier, ?onLock, ?onPassage, ?onNav, ?onLink, ?onLamp,
    ?onWind, ?onConsole, ?onInput, ?noEstop, ?onEstop, ?noClearanceLost, ?onClearanceLost⟩
  case nodup => exact List.pairwise_map.mpr (eventPostings_pairwise s0 b ReportKey.all_pairs_nodup)
  case subjects =>
    intro p hp
    obtain ⟨k, hk⟩ := (mem_eventPostings s0 b).mp hp
    obtain ⟨kind, subject⟩ := Prod.mk.inj (posting_pair s0 b hk)
    rw [kind, subject]
    cases k
    case leaf l => exact leafNumber_lt l
    case barrier i => exact barrierNumber_lt i
    case lock k => exact lockNumber_lt k
    case passage slot => exact slot.isLt
    case nav d => exact dirNumber_lt d
    case link l => exact linkNumber_lt l
    case station l => exact linkNumber_lt l
    case lamp g => exact (lampIndex g).isLt
    case input i => exact ⟨Nat.succ_pos _, i.isLt⟩
    all_goals rfl
  case order =>
    exact eventPostings_pairwise s0 b (R := fun p q => ¬ (p.1 = .nav ∧ q.1 = .passage)) (by decide +kernel)
  case onLeaf =>
    intro l x y p q same
    have number : (if l = .north then 0 else 1) = leafNumber l := by cases l <;> rfl
    rw [number]
    refine posts_iff (.leaf l) rfl (leafChanged_iff s0 b l) ?_
    delta leafFields
    simp only [encodeCertainty_eq, encodeAngle, encodeFirst_eq, encodeKinds_eq, encodeLeafTarget_eq, brakeFields,
      u8, flag, o, yes, certain, List.cons_append, List.nil_append, List.append_assoc]
    rfl
  case onSpan =>
    intro x y
    refine posts_iff .span rfl (spanChanged_iff s0 b) ?_
    simp only [spanFields, encodeMovement_eq, u8, flag, o, yes, listOf, List.cons_append, List.nil_append,
      List.append_assoc]
    rfl
  case onRoad =>
    intro x y
    refine posts_iff .road rfl (roadChanged_iff s0 b) ?_
    simp only [roadFields, u8, flag, o, yes, List.cons_append, List.nil_append]
    rfl
  case onBarrier =>
    intro i y switch
    refine posts_iff (.barrier i) rfl ?_ ?_
    · simp only [Bool.or_eq_true, bne_iff_ne, not_and_or, ← ne_eq]
      rfl
    · simp only [barrierFields, barrierOverridden, List.contains_eq_mem, u8, flag, o, yes, switch, List.cons_append,
        List.nil_append, List.append_assoc]
      rfl
  case onLock =>
    intro k same y
    refine posts_iff (.lock k) rfl ?_ ?_
    · rw [lockChanged_iff]
      simp only [lockRecordChanged_eq_false_iff]
      rfl
    · simp only [lockFields, sequenceFields, u8, flag, o, yes, List.cons_append, List.nil_append, List.append_assoc]
      rfl
  case onPassage =>
    intro k
    refine posts_iff (.passage k) rfl ?_ ?_
    · simp only [Bool.or_eq_true, Bool.and_eq_true, bne_iff_ne, beq_iff_eq, List.contains_iff_mem, or_assoc]
    · simp only [passageFields, encodeSlot_eq, encodeVessel, encodeGroupTarget_eq, u8, o, List.append_assoc]
        <;> rfl
  case onNav =>
    intro d
    have number : (if d = .inbound then 0 else 1) = dirNumber d := by cases d <;> rfl
    rw [number]
    refine posts_iff (.nav d) rfl ?_ ?_
    · simp only [Bool.or_eq_true, bne_iff_ne, List.contains_iff_mem]
    · simp only [navFields, navVessel_eq, clearanceFields, u8, o, List.cons_append, List.nil_append, List.append_assoc]
        <;> rfl
  case onLink =>
    intro l x y body
    refine ⟨fun h => ?_, fun frames errors before after hn ha => ?_, ?_⟩
    · refine posts_iff (.link l) (c := (s0.links.get l).state != y.state) ?_ bne_iff_ne rfl
      show linkPosting s0 b l = _
      rw [linkPosting, linkNote_none h]
      rfl
    · refine posts_iff (.link l) (c := true) ?_ (by simp) rfl
      show linkPosting s0 b l = _
      rw [linkPosting, linkNote_last hn ha]
      rfl
    · exact posts_iff (.station l) rfl bne_iff_ne rfl
  case onLamp =>
    intro g y red
    refine posts_iff (.lamp g) rfl ?_ ?_
    · simp only [Bool.and_eq_true, bne_iff_ne]
      rfl
    · simp only [lampFields, encodeLampCommand_eq, u8, flag, o, yes, List.cons_append, List.nil_append]
      cases g <;> rfl
  case onWind =>
    intro w
    refine posts_iff .wind rfl ?_ ?_
    · simp only [Bool.or_eq_true, bne_iff_ne, not_and_or, ← ne_eq]
      rfl
    · simp only [windFields, opt24, u8, apply_ite (BitVec.ofNat 8), o, List.cons_append, List.nil_append,
        List.append_assoc]
      rfl
  case onConsole => exact posts_iff .console rfl List.contains_iff_mem rfl
  case onInput =>
    intro i x y entry reports
    refine posts_iff (.input i) rfl ?_ ?_
    · simp only [inputChanged, reportFlag_eq, Bool.or_eq_true, Bool.and_eq_true, bne_iff_ne, not_and_or,
        ← ne_eq, List.contains_iff_mem]
      rfl
    · simp only [inputFields, encodeSource_eq, u8, flag, o, yes, List.cons_append, List.nil_append]
      rfl
  case noEstop =>
    exact fun h => posts_iff .estop (c := false) (estopPosting_none h) (by simp) rfl
  case onEstop =>
    intro leaves locks barriers before after hn ha
    refine posts_iff .estop (c := true) (estopPosting_last hn ha) (by simp) ?_
    simp only [estopFields, listOf_octets, flag, o, yes, List.cons_append, List.nil_append]
  case noClearanceLost =>
    exact fun h => posts_iff .clearanceLost (c := false) (clearanceLostPosting_none h) (by simp) rfl
  case onClearanceLost =>
    intro v low before after hn ha
    refine posts_iff .clearanceLost (c := true) (clearanceLostPosting_last hn ha) (by simp) ?_
    simp only [clearanceLostFields, encodeCertainty_eq, u8, apply_ite (BitVec.ofNat 8), o, yes, certain,
      List.cons_append, List.nil_append, List.append_assoc]
    rfl

end Sys2Proof.Proofs

/-! The flash generator: its demand, its phases, and the sum of its phases (R71, R72). -/

namespace Sys2Proof.Proofs

open Sys2Proof.Machine Sys2Proof.Safety

/-! ## The demand for the generator (R71) -/

theorem generatorNeeded_iff (b : Blocks) : generatorNeeded b = true ↔
    (∃ a : Approach, b.slu.aspects.get a = .redFlash) ∨ ∃ d : Dir, b.nav.aspects.get d = .standby := by
  have approach : (∃ a : Approach, b.slu.aspects.get a = .redFlash) ↔
      b.slu.aspects.get .north = .redFlash ∨ b.slu.aspects.get .south = .redFlash :=
    ⟨fun ⟨a, h⟩ => by cases a <;> simp [h], fun h => h.elim (⟨_, ·⟩) (⟨_, ·⟩)⟩
  have direction : (∃ d : Dir, b.nav.aspects.get d = .standby) ↔
      b.nav.aspects.get .inbound = .standby ∨ b.nav.aspects.get .outbound = .standby :=
    ⟨fun ⟨d, h⟩ => by cases d <;> simp [h], fun h => h.elim (⟨_, ·⟩) (⟨_, ·⟩)⟩
  rw [approach, direction]
  simp [generatorNeeded, Approach.all, Dir.all]

theorem followDemand_start {b : Blocks} (hn : generatorNeeded b = true) (hr : b.slu.running = false) :
    followDemand b = startGenerator b := by simp only [followDemand, hn, hr]

theorem followDemand_stop {b : Blocks} (hn : generatorNeeded b = false) (hr : b.slu.running = true) :
    followDemand b = stopGenerator b := by simp only [followDemand, hn, hr]

/-- A generator that runs where it is needed, or rests where it is not, is left alone. -/
theorem followDemand_met {b : Blocks} (h : generatorNeeded b = b.slu.running) : followDemand b = b := by
  unfold followDemand
  rw [h]
  cases b.slu.running <;> rfl

/-! ## Phases (R72) -/

theorem phaseBoundary_rest {b : Blocks} (h : b.slu.running = false) : phaseBoundary b = b := by
  simp [phaseBoundary, h]

theorem phaseBoundary_runs {b : Blocks} (h : b.slu.running = true) : phaseBoundary b =
    beginPhase (!b.slu.phaseB) (if b.pend.flashFpm = none then b.slu.residue else 0) (applyCadence b) := by
  cases hp : b.pend.flashFpm <;> simp [phaseBoundary, h, hp]

/-- The residue that the phases of one cadence carry after `n` of them. -/
def phaseResidueAfter (f n : Nat) : Nat := iter (fun e => (30000 + e) % f) n 0

theorem iter_succ_outer {α : Type} (f : α → α) : ∀ (n : Nat) (a : α), iter f (n + 1) a = f (iter f n a)
  | 0, _ => rfl
  | n + 1, a => iter_succ_outer f n (f a)

theorem phaseResidueAfter_succ (f n : Nat) : phaseResidueAfter f (n + 1) = (30000 + phaseResidueAfter f n) % f :=
  iter_succ_outer _ n 0

theorem phaseResidueAfter_lt {f : Nat} (hf : 0 < f) : ∀ n, phaseResidueAfter f n < f
  | 0 => hf
  | n + 1 => by
    rw [phaseResidueAfter_succ]
    exact Nat.mod_lt _ hf

/-- Nothing is lost: the phases so far, in units of the cadence, and the residue make up the time of that many phases. -/
theorem phases_and_residue (f k : Nat) :
    f * ((List.range k).map fun n => (30000 + phaseResidueAfter f n) / f).sum + phaseResidueAfter f k = k * 30000 := by
  induction k with
  | zero => rfl
  | succ k ih =>
    have next := Nat.div_add_mod (30000 + phaseResidueAfter f k) f
    rw [List.sum_range_succ, Nat.mul_add, phaseResidueAfter_succ]
    omega

theorem phases_sum {f : Nat} (hf : 0 < f) (k : Nat) :
    ((List.range k).map fun n => (30000 + phaseResidueAfter f n) / f).sum = k * 30000 / f := by
  rw [← phases_and_residue f k, Nat.mul_add_div hf, Nat.div_eq_of_lt (phaseResidueAfter_lt hf k), Nat.add_zero]

/-- Settles O44: the demand decides start, stop and rest, a boundary begins the other phase, and the residues carry what the
rounding leaves. -/
theorem flashPhasesKeepTheCadence : Obligations.FlashPhasesKeepTheCadence := by
  refine ⟨fun b => ?_, fun s => ?_, fun f k hf => phases_sum hf k⟩
  · intro needed f
    have demand : generatorNeeded b = true ↔ needed := generatorNeeded_iff b
    refine ⟨fun hn hr => ?_, fun hn hr => ?_, fun h => ?_, rfl⟩
    · exact followDemand_start (demand.mpr hn) hr
    · exact followDemand_stop (Bool.eq_false_of_not_eq_true (mt demand.mp hn)) hr
    · exact followDemand_met (Bool.eq_iff_iff.mpr (demand.trans h))
  · intro b
    refine ⟨fun hr => ?_, fun hr => ?_⟩
    · show Host.Outcome.next (eventEnd s (phaseBoundary b)) = _
      rw [phaseBoundary_rest hr]
    · show Host.Outcome.next (eventEnd s (phaseBoundary b)) = _
      rw [phaseBoundary_runs hr, beginPhase]
      simp only [applyCadence, phaseResidue, phaseDuration, hr]

end Sys2Proof.Proofs

/-! The lamp groups: what a finding, an edge, a change of the current and an expiry make of a group's record (R76 to R81). -/

namespace Sys2Proof.Proofs

open Sys2Proof.Machine Sys2Proof.Safety

/-! ## Findings (R81) -/

theorem LampRec.proof_eq (r : LampRec) : r.proof = { r with
    state := if (r.state = .failed ∧ r.proofs < 2) ∨ (r.state = .stuckOn ∧ r.absentSeen = false) then r.state else .proven
    proofs := if r.state ≠ .failed then r.proofs else if r.proofs < 2 then r.proofs + 1 else 0
    absentSeen := if r.state = .stuckOn then false else r.absentSeen } := by
  obtain ⟨fitted, command, state, proofs, timer, remaining, absentSeen⟩ := r
  cases state
  case untested => rfl
  case proven => rfl
  case failed =>
    by_cases h : proofs < 2
    · simp [LampRec.proof, h]
    · simp [LampRec.proof, h, Nat.not_lt.mp h]
  case stuckOn => cases absentSeen <;> rfl

theorem LampRec.failedPhase_eq (r : LampRec) : r.failedPhase = { r with
    state := .failed, proofs := 0, absentSeen := if r.state = .stuckOn then false else r.absentSeen } := by
  obtain ⟨fitted, command, state, proofs, timer, remaining, absentSeen⟩ := r
  cases state <;> rfl

theorem LampRec.stuck_eq (r : LampRec) : r.stuck = { r with
    state := .stuckOn, absentSeen := false, proofs := if r.state = .failed then 0 else r.proofs } := by
  obtain ⟨fitted, command, state, proofs, timer, remaining, absentSeen⟩ := r
  cases state <;> rfl

theorem LampRec.seenAbsent_eq (r : LampRec) : r.seenAbsent = { r with
    absentSeen := if r.state = .stuckOn then true else r.absentSeen } := by
  obtain ⟨fitted, command, state, proofs, timer, remaining, absentSeen⟩ := r
  cases state <;> rfl

/-! ## Edges of the command (R76, R78, R80) -/

/-- A proof neither reads nor writes the command and the timer. -/
theorem LampRec.proof_idleTimer (r : LampRec) : r.idleTimer.proof = r.proof.idleTimer := by
  rw [LampRec.proof_eq, LampRec.proof_eq]
  rfl

theorem LampRec.proof_command (r : LampRec) (c : Bool) : { r with command := c }.proof = { r.proof with command := c } := by
  rw [LampRec.proof_eq, LampRec.proof_eq]

theorem LampRec.openWindow_command (r : LampRec) (c present : Bool) (ms : Nat) :
    { r with command := c }.openWindow present ms = { r.openWindow present ms with command := c } := by
  cases present
  · rfl
  · simp only [LampRec.openWindow, LampRec.proof_command, LampRec.startTimer, if_true]

theorem LampRec.openWindow_idleTimer (r : LampRec) (present : Bool) (ms : Nat) :
    r.idleTimer.openWindow present ms = r.openWindow present ms := by
  cases present
  · rfl
  · simp only [LampRec.openWindow, LampRec.proof_idleTimer, if_true]
    rfl

/-- An on-edge: a settle period that is over is judged, then the window opens, which starts the timer afresh. -/
theorem LampRec.onEdge_eq (r : LampRec) (present : Bool) (ms : Nat) : r.onEdge present ms =
    { (if r.timer = .settle ∧ r.remaining = 0 then (if present then r.stuck else r.seenAbsent) else r).openWindow present ms
      with command := true } := by
  unfold LampRec.onEdge
  dsimp only
  rw [LampRec.openWindow_command]
  split
  · cases present <;> simp only [LampRec.settleCheck, if_true, Bool.false_eq_true, if_false, LampRec.openWindow_idleTimer]
  · rfl

section
variable {b : Blocks} {g : Lamp}

theorem takeCommand_still (h : lampCommand b g = (lampRec b g).command) : takeCommand b g = b := if_pos h

theorem takeCommand_unfitted (h : lampCommand b g ≠ (lampRec b g).command) (hf : (lampRec b g).fitted = false) :
    takeCommand b g = setLamp g { lampRec b g with command := lampCommand b g } b :=
  (if_neg h).trans (if_pos hf)

theorem takeCommand_on (hf : (lampRec b g).fitted = true) (ho : lampCommand b g = true)
    (hc : (lampRec b g).command = false) : takeCommand b g =
      setLamp g ((lampRec b g).onEdge (made b (lampInput g)) b.par.lampProveMs) b := by
  simp [takeCommand, hf, ho, hc]

theorem takeCommand_off (hf : (lampRec b g).fitted = true) (ho : lampCommand b g = false)
    (hc : (lampRec b g).command = true) : takeCommand b g = setLamp g ((lampRec b g).offEdge b.par.lampProveMs) b := by
  simp [takeCommand, hf, ho, hc]

end

/-! ## Changes of the current (R78 to R80) -/

theorem LampRec.current_on {r : LampRec} (h : r.command = true) (present : Bool) (ms : Nat) : r.current present ms =
    if r.timer = .edge ∧ present = true then r.proof.startTimer .present ms
    else if r.timer = .present ∧ present = false then r.startTimer .absent ms
    else if (r.timer = .absent ∨ r.timer = .idle) ∧ present = true then r.startTimer .present ms else r := by
  unfold LampRec.current
  rw [if_pos h]
  cases ht : r.timer <;> cases present <;> simp

theorem LampRec.current_off {r : LampRec} (h : r.command = false) (present : Bool) (ms : Nat) : r.current present ms =
    if r.timer = .settle then r else if present then r.stuck else r.seenAbsent := by
  unfold LampRec.current
  rw [if_neg (Bool.eq_false_iff.mp h)]
  cases ht : r.timer <;> cases present <;> simp

theorem inputChanges_iff (s0 b : Blocks) (f : InputFn) :
    (inputRises s0 b f || inputFalls s0 b f) = true ↔ made s0 f ≠ made b f := by
  unfold inputRises inputFalls
  cases made s0 f <;> cases made b f <;> simp

section
variable {s0 b : Blocks} {g : Lamp}

theorem onFitted_acts (u : LampRec → LampRec) (h : (lampRec b g).fitted = true ∧ b.sil.mode = .operate) :
    onFitted g u b = setLamp g (u (lampRec b g)) b := if_pos h

theorem onFitted_rest (u : LampRec → LampRec) (h : ¬ ((lampRec b g).fitted = true ∧ b.sil.mode = .operate)) :
    onFitted g u b = b := if_neg h

theorem publishLamp_rest (h : ¬ made s0 (lampInput g) ≠ made b (lampInput g) ∨
    ¬ ((lampRec b g).fitted = true ∧ b.sil.mode = .operate)) : publishLamp s0 b g = b := by
  unfold publishLamp lampCurrent
  split
  next hc => exact onFitted_rest _ (h.resolve_left (not_not_intro ((inputChanges_iff _ _ _).mp hc)))
  next => rfl

theorem publishLamp_changes (h : made s0 (lampInput g) ≠ made b (lampInput g))
    (ha : (lampRec b g).fitted = true ∧ b.sil.mode = .operate) : publishLamp s0 b g =
      setLamp g ((lampRec b g).current (made b (lampInput g)) b.par.lampProveMs) b :=
  (if_pos ((inputChanges_iff _ _ _).mpr h)).trans (onFitted_acts _ ha)

end

/-! ## Expiries (R78 to R80) -/

section
variable {r : LampRec}

theorem LampRec.proveExpiry_absent (h : r.timer = .absent) (ms : Nat) : r.proveExpiry ms = r.failedPhase.idleTimer := by
  simp only [LampRec.proveExpiry, h]

theorem LampRec.proveExpiry_present (h : r.timer = .present) (ms : Nat) :
    r.proveExpiry ms = r.proof.startTimer .present ms := by
  simp only [LampRec.proveExpiry, h]

theorem LampRec.settleExpiry_settle (h : r.timer = .settle) (present : Bool) :
    r.settleExpiry present = r.settleCheck present := if_pos h

end

/-- Settles O45: edge by edge, change by change and expiry by expiry, each from what it makes of the group's record. -/
theorem lampTimersJudgeTheGroups : Obligations.LampTimersJudgeTheGroups := by
  refine ⟨fun g s0 b => ?edges, fun g s hm hf => ?expiries⟩
  case edges =>
    intro r on present times proof stuck absent dark settled changes acts
    have hproof : ∀ x : LampRec, x.proof = proof x := LampRec.proof_eq
    have hstuck : ∀ x : LampRec, x.stuck = stuck x := LampRec.stuck_eq
    have habsent : ∀ x : LampRec, x.seenAbsent = absent x := LampRec.seenAbsent_eq
    have hdark : r.failedPhase = dark := LampRec.failedPhase_eq r
    refine ⟨takeCommand_still, takeCommand_unfitted, fun hf ho hc => ?on, fun hf ho hc => ?off,
      publishLamp_rest, fun hc ha hr => ?lit, fun hc ha hr => ?unlit⟩
    case on =>
      rw [takeCommand_on hf ho hc, LampRec.onEdge_eq, LampRec.openWindow, hstuck, habsent, hproof]
      rfl
    case off =>
      rw [takeCommand_off hf ho hc, LampRec.offEdge, hdark]
      rfl
    case lit =>
      rw [publishLamp_changes hc ha, LampRec.current_on hr, hproof]
      rfl
    case unlit =>
      rw [publishLamp_changes hc ha, LampRec.current_off hr, hstuck, habsent]
  case expiries =>
    intro r becomes idle failed
    have leads : ∀ {i : Instr} {u : LampRec → LampRec} {x : LampRec},
        exec i s = .next (eventEnd s (onFitted g u s.blocks)) → u r = x → becomes i x := fun he hx => by
      rw [onFitted_acts _ ⟨hf, hm⟩] at he
      exact hx ▸ he
    have hfailed : r.failedPhase.idleTimer = failed := by rw [LampRec.failedPhase_eq]; rfl
    refine ⟨fun h => leads rfl ?_, fun h => leads rfl ?_, fun h => leads rfl ?_, fun h hs => leads rfl ?_,
      fun h hs => leads rfl ?_, fun h hs => leads rfl ?_, fun h hp => leads rfl ?_, fun h hp => leads rfl ?_⟩
    · exact (if_pos h).trans hfailed
    · exact if_neg h
    · exact (LampRec.proveExpiry_absent h _).trans hfailed
    · rw [LampRec.proveExpiry_present h, LampRec.proof_eq]
      rcases hs with hs | hs <;> simp [LampRec.startTimer, h, hs]
    · rw [LampRec.proveExpiry_present h, LampRec.proof_eq]
      simp [LampRec.startTimer, h, hs]
    · rw [LampRec.proveExpiry_present h, LampRec.proof_eq]
      cases r.absentSeen <;> simp [LampRec.startTimer, h, hs]
    · rw [LampRec.settleExpiry_settle h, hp, LampRec.settleCheck, LampRec.stuck_eq]
      rfl
    · rw [LampRec.settleExpiry_settle h, hp, LampRec.settleCheck, LampRec.seenAbsent_eq]
      rfl

end Sys2Proof.Proofs

/-! Adoption: the barriers, the locks and the leaves as they are found, and the phases that follow from them (R195, R196). -/

namespace Sys2Proof.Proofs

open Sys2Proof.Machine Sys2Proof.Safety

/-! ## Barriers and locks as found (R101, R150, R195) -/

/-- A barrier's record by what its switches show. -/
def foundBarrier : Proven → BarrierRec
  | .first => { command := .raise, state := .up }
  | .second => { command := .lower, state := .down }
  | .between => { command := .stop, state := .fault, fault := .lostPosition }
  | .conflict => { command := .stop, state := .fault, fault := .switchConflict }

/-- A lock's record by what its switches show. -/
def foundLock : Proven → LockRec
  | .first => { command := .drive, state := .driven }
  | .second => { command := .withdraw, state := .withdrawn }
  | .between => { command := .off, state := .fault, fault := .lostPosition }
  | .conflict => { command := .off, state := .fault, fault := .switchConflict }

theorem adoptBarrier_eq (i : BarrierId) (b : Blocks) :
    adoptBarrier i b = setBarrier i (foundBarrier (barrierShows b i)) b := by
  unfold adoptBarrier
  cases barrierShows b i <;> rfl

theorem adoptLock_eq (k : LockId) (b : Blocks) : adoptLock k b = setLock k (foundLock (lockShows b k)) b := by
  unfold adoptLock
  cases lockShows b k <;> rfl

theorem barrierShows_congr {a b : Blocks} (h : b.iq = a.iq) (i : BarrierId) : barrierShows b i = barrierShows a i := by
  rw [barrierShows, barrierShows, made_congr h, made_congr h]

theorem lockShows_congr {a b : Blocks} (h : b.iq = a.iq) (k : LockId) : lockShows b k = lockShows a k := by
  rw [lockShows, lockShows, made_congr h, made_congr h]

theorem ownBarrier_adopt : OwnBarrier fun b i => adoptBarrier i b where
  frame b i := adoptBarrier_sameBut i b
  other b i j h := by rw [adoptBarrier_eq, setBarrier_get_other i _ b h]
  own a b i k _ := by
    rw [adoptBarrier_eq, adoptBarrier_eq, setBarrier_get, setBarrier_get, barrierShows_congr (k .iq (by decide))]

theorem ownLock_adopt : OwnLock fun b k => adoptLock k b where
  frame b k := adoptLock_sameBut k b
  other b k j h := by rw [adoptLock_eq, setLock_get_other k _ b h]
  own a b k s _ := by
    rw [adoptLock_eq, adoptLock_eq, setLock_get, setLock_get, lockShows_congr (s .iq (by decide))]

/-! ## The machinery as found (R195) -/

section
variable (b : Blocks)

/-- The blocks once the barriers and the locks are set, and once the brakes are. -/
def barriersFound : Blocks := BarrierId.all.foldl (fun x i => adoptBarrier i x) b

def locksFound : Blocks := LockId.all.foldl (fun x k => adoptLock k x) (barriersFound b)

def brakesFound : Blocks := brakeSetRequest .south (brakeSetRequest .north (locksFound b))

theorem adoptMachinery_eq : adoptMachinery b = adoptLeaf .south (adoptLeaf .north (brakesFound b)) := rfl

theorem barriersFound_sameBut : SameBut [.barriers] b (barriersFound b) :=
  sameBut_foldl _ (fun x i => adoptBarrier_sameBut i x) _ b

theorem locksFound_sameBut : SameBut [.locks] (barriersFound b) (locksFound b) :=
  sameBut_foldl _ (fun x k => adoptLock_sameBut k x) _ _

theorem adoptLeaves_sameBut : SameBut [.leaves] (brakesFound b) (adoptMachinery b) :=
  sameBut_trans (setLeaf_sameBut .north _ _) (setLeaf_sameBut .south _ _)

theorem brakesFound_sameBut : SameBut [.brakes] (locksFound b) (brakesFound b) :=
  sameBut_trans (brakeSetRequest_sameBut .north _) (brakeSetRequest_sameBut .south _)

theorem adoptMachinery_barrier (i : BarrierId) :
    (adoptMachinery b).barriers.get i = foundBarrier (barrierShows b i) := by
  have after : (adoptMachinery b).barriers = (barriersFound b).barriers :=
    sameBut_join (locksFound_sameBut b) (sameBut_join (brakesFound_sameBut b) (adoptLeaves_sameBut b)
      (hs := [.brakes, .leaves]) (by decide) (by decide)) (hs := [.locks, .brakes, .leaves]) (by decide) (by decide)
      .barriers (by decide)
  rw [after, barriersFound, ownBarrier_adopt.all_get, adoptBarrier_eq, setBarrier_get]

theorem adoptMachinery_lock (k : LockId) : (adoptMachinery b).locks.get k = foundLock (lockShows b k) := by
  have after : (adoptMachinery b).locks = (locksFound b).locks :=
    sameBut_join (brakesFound_sameBut b) (adoptLeaves_sameBut b) (hs := [.brakes, .leaves]) (by decide) (by decide)
      .locks (by decide)
  have inputs : (barriersFound b).iq = b.iq := barriersFound_sameBut b .iq (by decide)
  rw [after, locksFound, locks_foldl_get ownLock_adopt _ _ (by decide) (by cases k <;> decide), adoptLock_eq, setLock_get,
    lockShows_congr inputs]

/-- A leaf's records by its SEATED and OPEN_LIMIT inputs (R195). -/
def foundLeaf (l : LeafId) : LeafRec :=
  (b.leaves.get l).adopted (made b (.seated l)) (made b (.openLimit l)) (b.par.fullCounts.get l)

theorem adoptLeaves_get (l : LeafId) : (adoptLeaf .south (adoptLeaf .north b)).leaves.get l = foundLeaf b l := by
  cases l <;> rfl

theorem adoptMachinery_leaf (l : LeafId) : (adoptMachinery b).leaves.get l = foundLeaf b l := by
  have before : SameBut [.barriers, .locks, .brakes] b (brakesFound b) :=
    sameBut_join (barriersFound_sameBut b) (sameBut_join (locksFound_sameBut b) (brakesFound_sameBut b)
      (hs := [.locks, .brakes]) (by decide) (by decide)) (by decide) (by decide)
  have same : foundLeaf (brakesFound b) l = foundLeaf b l := by
    have inputs := made_congr (before .iq (by decide))
    rw [foundLeaf, foundLeaf, inputs, inputs, before .leaves (by decide), before .par (by decide)]
  rw [← same, adoptMachinery_eq, adoptLeaves_get]

theorem foundLeaf_seated {l : LeafId} (h : made b (.seated l) = true) : foundLeaf b l = { b.leaves.get l with
    pos := { (b.leaves.get l).pos with position := 0, certain := true, angleKnown := true }
    mot := { (b.leaves.get l).mot with state := .seated, arrived := false } } := by
  rw [foundLeaf, LeafRec.adopted, h, if_pos rfl]

theorem foundLeaf_unseated {l : LeafId} (h : made b (.seated l) = false) : foundLeaf b l = { b.leaves.get l with
    pos := { (b.leaves.get l).pos with
      position := if made b (.openLimit l) then (b.par.fullCounts.get l : Int) else 0
      certain := false
      angleKnown := made b (.openLimit l) }
    mot := { (b.leaves.get l).mot with state := .parked, arrived := false }
    win := (b.leaves.get l).win.start } := by
  rw [foundLeaf, LeafRec.adopted, h]
  rfl

theorem foundLeaf_state (l : LeafId) :
    (foundLeaf b l).mot.state = if made b (.seated l) then .seated else .parked := by
  cases h : made b (.seated l)
  · rw [foundLeaf_unseated b h]
    rfl
  · rw [foundLeaf_seated b h]
    rfl

/-! ## The adopted phases (R196) -/

/-- Every leaf is seated, and every lock and every barrier shows one position. -/
def seatsShow : Bool := LeafId.all.all fun l => made b (.seated l)

def locksShow (x : Proven) : Bool := LockId.all.all fun k => decide (lockShows b k = x)

def barriersShow (x : Proven) : Bool := BarrierId.all.all fun i => decide (barrierShows b i = x)

theorem bothSeated_found : bothSeated (adoptMachinery b) = seatsShow b := by
  have leaf : ∀ l, leafState (adoptMachinery b) l = .seated ↔ made b (.seated l) = true := fun l => by
    rw [leafState, adoptMachinery_leaf, foundLeaf_state]
    cases made b (.seated l) <;> simp
  rw [Bool.eq_iff_iff, bothSeated_iff, seatsShow]
  simp [leaf, LeafId.all, forall_leaf]

theorem allLocks_found {s : LockState} {x : Proven} (h : ∀ p, ((foundLock p).state == s) = decide (p = x)) :
    allLocks (adoptMachinery b) s = locksShow b x := by
  simp only [allLocks, adoptMachinery_lock, h, locksShow]

theorem allBarriers_found {s : BarrierState} {x : Proven}
    (h : ∀ p, ((foundBarrier p).state == s) = decide (p = x)) :
    allBarriers (adoptMachinery b) s = barriersShow b x := by
  simp only [allBarriers, adoptMachinery_barrier, h, barriersShow]

/-- The span phase of R196, from the inputs alone. -/
def spanShown : SpanPhase :=
  if seatsShow b ∧ locksShow b .first ∧ barriersShow b .first then .traffic
  else if seatsShow b ∧ locksShow b .first ∧ barriersShow b .second then .closed
  else if seatsShow b ∧ locksShow b .second ∧ barriersShow b .second then .unlocked else .recovery

/-- The road phase of R196, from the inputs alone. -/
def roadShown : RoadPhase :=
  if seatsShow b ∧ locksShow b .first ∧ barriersShow b .first then .roadOpen
  else if seatsShow b ∧ (locksShow b .first ∨ locksShow b .second) ∧ barriersShow b .second then .roadClosed else .alert

/-- The road is closed in the two cases of the span in which every barrier is DOWN. -/
theorem adoptedPhases_found : adoptedPhases (adoptMachinery b) = (spanShown b, roadShown b) := by
  have closed : (seatsShow b = true ∧ (locksShow b .first = true ∨ locksShow b .second = true) ∧
      barriersShow b .second = true) ↔
      (seatsShow b = true ∧ locksShow b .first = true ∧ barriersShow b .second = true) ∨
        seatsShow b = true ∧ locksShow b .second = true ∧ barriersShow b .second = true := by
    rw [or_and_right, and_or_left]
  have driven : allLocks (adoptMachinery b) .driven = locksShow b .first := allLocks_found b fun p => by cases p <;> rfl
  have withdrawn : allLocks (adoptMachinery b) .withdrawn = locksShow b .second :=
    allLocks_found b fun p => by cases p <;> rfl
  have up : allBarriers (adoptMachinery b) .up = barriersShow b .first := allBarriers_found b fun p => by cases p <;> rfl
  have down : allBarriers (adoptMachinery b) .down = barriersShow b .second :=
    allBarriers_found b fun p => by cases p <;> rfl
  rw [adoptedPhases, bothSeated_found, driven, withdrawn, up, down, spanShown, roadShown]
  simp only [closed, ite_or, Bool.and_eq_true, and_assoc]
  split_ifs <;> rfl

end

end Sys2Proof.Proofs

/-! Steps of the decision of adoption: the outcome that nothing reads, the leaves whose OVERTRAVEL is made, and the lamps
with the generator (R71, R76, R121, R194). -/

namespace Sys2Proof.Proofs

open Sys2Proof.Machine Sys2Proof.Safety

/-! ## The outcome is recorded and read by nothing (R194) -/

/-- The blocks with another outcome in the adoption record. -/
def withOutcome (o : AdoptOutcome) (b : Blocks) : Blocks := { b with sil := { b.sil with adoptOutcome := o } }

/-- An operation that neither reads nor writes the outcome. -/
def IgnoresOutcome (op : Blocks → Blocks) : Prop := ∀ o b, op (withOutcome o b) = withOutcome o (op b)

theorem IgnoresOutcome.comp {f g : Blocks → Blocks} (hf : IgnoresOutcome f) (hg : IgnoresOutcome g) :
    IgnoresOutcome fun b => f (g b) := fun o b =>
  (congrArg f (hg o b)).trans (hf o (g b))

theorem ignoresOutcome_foldl {α : Type} {op : Blocks → α → Blocks} (h : ∀ x, IgnoresOutcome fun b => op b x) :
    ∀ xs : List α, IgnoresOutcome fun b => xs.foldl op b
  | [], _, _ => rfl
  | x :: xs, o, b => (congrArg (xs.foldl op) (h x o b)).trans (ignoresOutcome_foldl h xs o (op b x))

theorem brakeSetRequest_ignoresOutcome (l : LeafId) : IgnoresOutcome (brakeSetRequest l) := fun o b => by
  have feedback : made (withOutcome o b) = made b := rfl
  have brakes : (withOutcome o b).brakes = b.brakes := rfl
  unfold brakeSetRequest
  rw [feedback, brakes]
  dsimp only
  cases (b.brakes.get l).state
  case set | setting | released => rfl
  case releasing | fault => cases made b (.brakeReleased l) <;> rfl

theorem stopLeaf_ignoresOutcome (l : LeafId) : IgnoresOutcome (stopLeaf l) := fun o b => by
  have leaves : (withOutcome o b).leaves = b.leaves := rfl
  unfold stopLeaf
  rw [leaves]
  dsimp only
  cases (b.leaves.get l).mot.state <;> rfl

theorem leafFault_ignoresOutcome (l : LeafId) (k : LeafFault) : IgnoresOutcome (leafFault l k) := fun o b => by
  by_cases hm : b.sil.mode = .operate
  · by_cases hf : (b.leaves.get l).mot.state = .fault
    · rw [leafFault_leaf_faulted hm hf, leafFault_leaf_faulted (b := withOutcome o b) hm hf, apply_ite (withOutcome o)]
      rfl
    · rw [leafFault_leaf_sound hm hf, leafFault_leaf_sound (b := withOutcome o b) hm hf,
        ← stopLeaf_ignoresOutcome, ← brakeSetRequest_ignoresOutcome]
      rfl
  · rw [leafFault_outside l k b hm, leafFault_outside l k (withOutcome o b) hm]

theorem overtravelAtEntry_ignoresOutcome (l : LeafId) : IgnoresOutcome (overtravelAtEntry l) := fun o b => by
  unfold overtravelAtEntry
  rw [apply_ite (withOutcome o), ← leafFault_ignoresOutcome]
  rfl

theorem adoptRoad_ignoresOutcome (p : RoadPhase) : IgnoresOutcome (adoptRoad p) := fun o b => by
  unfold adoptRoad
  rw [apply_ite (withOutcome o)]
  rfl

theorem selectAspect_ignoresOutcome (d : Dir) : IgnoresOutcome fun b => selectAspect b d := fun o b => by
  dsimp only
  unfold selectAspect
  dsimp only
  rw [apply_ite (withOutcome o)]
  rfl

theorem selectAspects_ignoresOutcome : IgnoresOutcome selectAspects :=
  (selectAspect_ignoresOutcome .outbound).comp (selectAspect_ignoresOutcome .inbound)

theorem followDemand_ignoresOutcome : IgnoresOutcome followDemand := fun o b => by
  have needed : generatorNeeded (withOutcome o b) = generatorNeeded b := rfl
  have slu : (withOutcome o b).slu = b.slu := rfl
  unfold followDemand
  rw [needed, slu]
  cases generatorNeeded b <;> cases b.slu.running <;> rfl

theorem beginSupervision_ignoresOutcome (g : Lamp) : IgnoresOutcome fun b => beginSupervision b g := fun o b => by
  dsimp only
  unfold beginSupervision
  dsimp only
  rw [apply_ite (withOutcome o), apply_ite (withOutcome o)]
  rfl

theorem beginLamps_ignoresOutcome : IgnoresOutcome beginLamps :=
  (ignoresOutcome_foldl beginSupervision_ignoresOutcome lampGroups).comp followDemand_ignoresOutcome

theorem adoptionNotes_ignoresOutcome : IgnoresOutcome adoptionNotes := fun o b => by
  unfold adoptionNotes
  dsimp only
  rw [apply_ite (withOutcome o)]
  rfl

theorem adoptionEntered_withOutcome (o p : AdoptOutcome) (b : Blocks) :
    adoptionEntered o b = withOutcome o (adoptionEntered p b) := by
  have set : adoptionSet o b = withOutcome o (adoptionSet p b) := by
    simp only [adoptionSet, withOutcome, adoptedSil]
  rw [adoptionEntered, set, adoptRoad_ignoresOutcome, overtravelAtEntry_ignoresOutcome, overtravelAtEntry_ignoresOutcome]
  rfl

/-- A decision with another outcome differs in the outcome alone. -/
theorem adopt_withOutcome (o p : AdoptOutcome) (b : Blocks) : adopt o b = withOutcome o (adopt p b) := by
  rw [adopt_eq, adopt_eq, adoptionEntered_withOutcome o p, ← adoptionNotes_ignoresOutcome, ← beginLamps_ignoresOutcome,
    selectAspects_ignoresOutcome]

/-! ## OVERTRAVEL at the entry to OPERATE (R121) -/

theorem stopped_still {m : MotionRec} (h : m.state = .seated ∨ m.state = .parked ∨ m.state = .fault) : stopped m = m := by
  unfold stopped
  rcases h with h | h | h <;> rw [h]

/-- A leaf's records once its OVERTRAVEL has been judged. -/
def overtravelled (b : Blocks) (l : LeafId) : LeafRec :=
  if made b (.overtravel l) then faultedLeaf .overtravel (b.leaves.get l) else b.leaves.get l

section
variable {l : LeafId} {b : Blocks} (hm : b.sil.mode = .operate) (hf : (b.leaves.get l).mot.state ≠ .fault)
include hm hf

theorem overtravelAtEntry_get : (overtravelAtEntry l b).leaves.get l = overtravelled b l := by
  unfold overtravelAtEntry overtravelled
  split
  · exact leafFault_get hm hf
  · rfl

/-- The other leaf, at rest, takes nothing from a finding. -/
theorem overtravelAtEntry_get_other
    (h : stopped (b.leaves.get (otherLeaf l)).mot = (b.leaves.get (otherLeaf l)).mot) :
    (overtravelAtEntry l b).leaves.get (otherLeaf l) = b.leaves.get (otherLeaf l) := by
  unfold overtravelAtEntry
  split
  · rw [leafFault_get_other hm hf, h]
  · rfl

end

theorem overtravelled_still {b : Blocks} {l : LeafId} (h : stopped (b.leaves.get l).mot = (b.leaves.get l).mot) :
    stopped (overtravelled b l).mot = (overtravelled b l).mot := by
  unfold overtravelled
  split
  · rfl
  · exact h

/-- Both leaves once each OVERTRAVEL has been judged: found at rest, neither takes anything from the other's finding. -/
theorem overtravelBoth_get {b : Blocks} (hm : b.sil.mode = .operate)
    (hr : ∀ l, (b.leaves.get l).mot.state = .seated ∨ (b.leaves.get l).mot.state = .parked) (l : LeafId) :
    (overtravelAtEntry .south (overtravelAtEntry .north b)).leaves.get l = overtravelled b l := by
  have sound : ∀ l, (b.leaves.get l).mot.state ≠ .fault := fun l => by rcases hr l with h | h <;> simp [h]
  have still : ∀ l, stopped (b.leaves.get l).mot = (b.leaves.get l).mot := fun l =>
    stopped_still ((hr l).imp_right .inl)
  have frame := overtravelAtEntry_sameBut .north b
  have mode : (overtravelAtEntry .north b).sil.mode = .operate := by
    rw [show (overtravelAtEntry .north b).sil = b.sil from frame .sil (by decide), hm]
  have north : (overtravelAtEntry .north b).leaves.get .north = overtravelled b .north :=
    overtravelAtEntry_get hm (sound .north)
  have south : (overtravelAtEntry .north b).leaves.get .south = b.leaves.get .south :=
    overtravelAtEntry_get_other hm (sound .north) (still .south)
  have sound' : ((overtravelAtEntry .north b).leaves.get .south).mot.state ≠ .fault := south ▸ sound .south
  cases l
  case north =>
    have kept := overtravelAtEntry_get_other mode sound' (show stopped (LeafRec.mot (PerLeaf.get _ .north)) = _ from
      north ▸ overtravelled_still (still .north))
    exact kept.trans north
  case south =>
    rw [overtravelAtEntry_get mode sound', overtravelled, made_congr (frame .iq (by decide)), south, overtravelled]

/-! ## The lamps at the entry to OPERATE (R76, R82) -/

/-- The groups stand in the order of their numbers. -/
theorem lampGroups_lampIndex (g : Lamp) : lampGroups.getD (lampIndex g).val (.amber .north) = g := by
  rcases g with a | a | a | d | d | d
  case amber | redA | redB => cases a <;> rfl
  case red1 | red2 | green => cases d <;> rfl

theorem lampIndex_injective : Function.Injective lampIndex :=
  Function.LeftInverse.injective (g := fun n : Fin 12 => lampGroups.getD n.val (.amber .north)) lampGroups_lampIndex

theorem lampRec_setLamp_other {g h : Lamp} (r : LampRec) (b : Blocks) (hg : g ≠ h) :
    lampRec (setLamp h r b) g = lampRec b g :=
  Vector.getElem_set_ne (lampIndex h).isLt (lampIndex g).isLt
    fun e => hg (lampIndex_injective (Fin.ext e)).symm

theorem outputFitted_congr {a b : Blocks} (h : b.cat = a.cat) (f : OutputFn) : outputFitted b f = outputFitted a f := by
  rw [outputFitted, outputFitted, h]

/-- The record with which a group begins supervision. -/
def begunLamp (b : Blocks) (g : Lamp) : LampRec :=
  let fresh : LampRec := { fitted := outputFitted b (lampOutput g), command := lampCommand b g }
  if fresh.fitted = false then fresh
  else if fresh.command then fresh.openWindow (made b (lampInput g)) b.par.lampProveMs
  else fresh.startTimer .settle b.par.lampProveMs

theorem beginSupervision_eq (b : Blocks) (g : Lamp) : beginSupervision b g = setLamp g (begunLamp b g) b := by
  unfold beginSupervision begunLamp
  dsimp only
  rw [apply_ite (setLamp g · b), apply_ite (setLamp g · b)]

theorem openWindow_fitted (r : LampRec) (present : Bool) (ms : Nat) : (r.openWindow present ms).fitted = r.fitted := by
  cases present
  · rfl
  · rw [LampRec.openWindow, LampRec.proof_eq]
    rfl

theorem begunLamp_fitted (b : Blocks) (g : Lamp) : (begunLamp b g).fitted = outputFitted b (lampOutput g) := by
  unfold begunLamp
  dsimp only
  split
  · rfl
  · split
    · exact openWindow_fitted _ _ _
    · rfl

/-- A group that has begun supervision is fitted by the table of outputs, whichever groups begin after it. -/
theorem beginSupervisions_fitted (g : Lamp) : ∀ (gs : List Lamp) (b : Blocks),
    g ∈ gs ∨ (lampRec b g).fitted = outputFitted b (lampOutput g) →
      (lampRec (gs.foldl beginSupervision b) g).fitted = outputFitted b (lampOutput g)
  | [], b, h => h.resolve_left List.not_mem_nil
  | x :: xs, b, h => by
    have cat : outputFitted (beginSupervision b x) (lampOutput g) = outputFitted b (lampOutput g) :=
      outputFitted_congr (beginSupervision_sameBut b x .cat (by decide)) _
    rw [List.foldl_cons, beginSupervisions_fitted g xs (beginSupervision b x) ?_, cat]
    rw [cat, beginSupervision_eq]
    by_cases hx : g = x
    · subst hx
      rw [lampRec_setLamp_same]
      exact .inr (begunLamp_fitted b g)
    · rw [lampRec_setLamp_other _ _ hx]
      exact h.imp_left fun hm => (List.mem_cons.mp hm).resolve_left hx

theorem beginLamps_fitted (b : Blocks) (g : Lamp) :
    (lampRec (beginLamps b) g).fitted = outputFitted b (lampOutput g) :=
  (beginSupervisions_fitted g lampGroups _ (.inl (mem_lampGroups g))).trans
    (outputFitted_congr (followDemand_sameBut b .cat (by decide)) _)

/-! ## The generator at the entry to OPERATE (R71) -/

theorem beginSupervisions_running (gs : List Lamp) (b : Blocks) :
    (gs.foldl beginSupervision b).slu.running = b.slu.running := by
  induction gs generalizing b with
  | nil => rfl
  | cons g gs ih => rw [List.foldl_cons, ih, beginSupervision_eq]; rfl

/-- A pending cadence becomes active exactly where the generator starts. -/
structure CadenceAtStart (a b : Blocks) : Prop where
  par : b.par = if b.slu.running = true ∧ a.slu.running = false
    then { a.par with flashFpm := a.pend.flashFpm.getD a.par.flashFpm } else a.par
  pend : b.pend = if b.slu.running = true ∧ a.slu.running = false then { a.pend with flashFpm := none } else a.pend

theorem followDemand_cadence (b : Blocks) : CadenceAtStart b (followDemand b) := by
  by_cases h : generatorNeeded b = b.slu.running
  · rw [followDemand_met h]
    constructor <;> simp
  · cases hr : b.slu.running
    · rw [followDemand_start (by simpa [hr] using h) hr]
      constructor <;> simp [startGenerator, beginPhase, applyCadence, hr]
    · rw [followDemand_stop (by simpa [hr] using h) hr]
      constructor <;> simp [stopGenerator]

theorem beginLamps_cadence (b : Blocks) : CadenceAtStart b (beginLamps b) := by
  have running : (beginLamps b).slu.running = (followDemand b).slu.running := by
    rw [beginLamps, beginSupervisions_running]
  have frame : SameBut [.slu] (followDemand b) (beginLamps b) :=
    sameBut_foldl beginSupervision beginSupervision_sameBut lampGroups (followDemand b)
  obtain ⟨par, pend⟩ := followDemand_cadence b
  constructor
  · rw [running, frame .par (by decide), par]
  · rw [running, frame .pend (by decide), pend]

end Sys2Proof.Proofs

/-! What adoption makes of every block, and the event that decides it (R71, R194 to R196). -/

namespace Sys2Proof.Proofs

open Sys2Proof.Machine Sys2Proof.Safety

/-! ## Every block after the decision (R195, R196) -/

/-- The blocks once the road has its adopted phase, before the OVERTRAVEL inputs are judged. -/
def adoptionOnRoad (o : AdoptOutcome) (b : Blocks) : Blocks := adoptRoad (roadShown b) (adoptionSet o b)

theorem adoptionEntered_eq (o : AdoptOutcome) (b : Blocks) :
    adoptionEntered o b = overtravelAtEntry .south (overtravelAtEntry .north (adoptionOnRoad o b)) := by
  rw [adoptionEntered, adoptedPhases_found, adoptionOnRoad]

theorem adoptionOnRoad_sameBut (o : AdoptOutcome) (b : Blocks) :
    SameBut [.rsq, .slu] (adoptionSet o b) (adoptionOnRoad o b) := adoptRoad_sameBut _ _

/-- The blocks once the channel aspects are selected, before the lamps begin. -/
def adoptionShown (o : AdoptOutcome) (b : Blocks) : Blocks := selectAspects (adoptionEntered o b)

theorem adopt_sameBut_lamps (o : AdoptOutcome) (b : Blocks) :
    SameBut [.notes] (beginLamps (adoptionShown o b)) (adopt o b) := by
  rw [adopt_eq, ← adoptionShown]
  exact adoptionNotes_sameBut _

theorem adopt_sameBut_shown (o : AdoptOutcome) (b : Blocks) :
    SameBut [.slu, .par, .pend, .notes] (adoptionShown o b) (adopt o b) :=
  sameBut_join (beginLamps_sameBut _) (adopt_sameBut_lamps o b) (by decide) (by decide)

theorem adoptionShown_sameBut (o : AdoptOutcome) (b : Blocks) :
    SameBut [.leaves, .brakes, .nav, .notes] (adoptionOnRoad o b) (adoptionShown o b) := by
  rw [adoptionShown, adoptionEntered_eq]
  exact sameBut_join (sameBut_trans (overtravelAtEntry_sameBut .north _) (overtravelAtEntry_sameBut .south _))
    (selectAspects_sameBut _) (by decide) (by decide)

/-- From the road's phase on, adoption touches neither the road nor the span. -/
theorem adopt_sameBut_onRoad (o : AdoptOutcome) (b : Blocks) :
    SameBut [.leaves, .brakes, .nav, .slu, .par, .pend, .notes] (adoptionOnRoad o b) (adopt o b) :=
  sameBut_join (adoptionShown_sameBut o b) (adopt_sameBut_shown o b) (by decide) (by decide)

/-- The machinery is as it was found. -/
theorem adoptionSet_sameBut_found (o : AdoptOutcome) (b : Blocks) :
    SameBut [.sil, .nav, .presence] (adoptMachinery b) (adoptionSet o b) := by
  rw [adoptionSet]
  generalize adoptMachinery b = x
  intro f hf
  cases f <;> first | rfl | exact absurd (by decide) hf

/-- What adoption writes before the road takes its phase, and not after. -/
theorem adopt_sameBut_set (o : AdoptOutcome) (b : Blocks) :
    SameBut [.rsq, .leaves, .brakes, .nav, .slu, .par, .pend, .notes] (adoptionSet o b) (adopt o b) :=
  sameBut_join (adoptionOnRoad_sameBut o b) (adopt_sameBut_onRoad o b) (by decide) (by decide)

section
variable (o : AdoptOutcome) (b : Blocks)

theorem adoptedSil_congr {a c : Blocks} (h : c.iq = a.iq) (p : SpanPhase) : adoptedSil c o p = adoptedSil a o p := by
  rw [adoptedSil, adoptedSil, made_congr h, h]

theorem adopt_sil_shown : (adopt o b).sil = adoptedSil b o (spanShown b) := by
  rw [adopt_sil, adoptedPhases_found, adoptedSil_congr o (adoptMachinery_sameBut b .iq (by decide))]

theorem adopt_presence : (adopt o b).presence = some b.par.presenceMs := by
  rw [show (adopt o b).presence = _ from adopt_sameBut_set o b .presence (by decide), adoptionSet,
    show (adoptMachinery b).par = _ from adoptMachinery_sameBut b .par (by decide)]

theorem adoptRoad_rsq (p : RoadPhase) : (adoptRoad p b).rsq = b.rsq.enter p (if p = .alert then .recovery else .none) := by
  unfold adoptRoad
  split
  next h => rw [h]; rfl
  next => rfl

theorem adoptRoad_running (p : RoadPhase) : (adoptRoad p b).slu.running = b.slu.running := by
  unfold adoptRoad
  split <;> rfl

theorem adopt_rsq : (adopt o b).rsq = b.rsq.enter (roadShown b) (if roadShown b = .alert then .recovery else .none) := by
  rw [show (adopt o b).rsq = _ from adopt_sameBut_onRoad o b .rsq (by decide), adoptionOnRoad, adoptRoad_rsq,
    show (adoptionSet o b).rsq = _ from adoptionSet_sameBut o b .rsq (by decide)]

theorem adopt_barrier (i : BarrierId) : (adopt o b).barriers.get i = foundBarrier (barrierShows b i) := by
  rw [show (adopt o b).barriers = _ from adopt_sameBut_set o b .barriers (by decide),
    show (adoptionSet o b).barriers = _ from adoptionSet_sameBut_found o b .barriers (by decide), adoptMachinery_barrier]

theorem adopt_lock (k : LockId) : (adopt o b).locks.get k = foundLock (lockShows b k) := by
  rw [show (adopt o b).locks = _ from adopt_sameBut_set o b .locks (by decide),
    show (adoptionSet o b).locks = _ from adoptionSet_sameBut_found o b .locks (by decide), adoptMachinery_lock]

/-- A leaf as found, in FAULT where its OVERTRAVEL is made. -/
theorem adopt_leaf (l : LeafId) : (adopt o b).leaves.get l =
    if made b (.overtravel l) then faultedLeaf .overtravel (foundLeaf b l) else foundLeaf b l := by
  have leaf : ∀ l, (adoptionOnRoad o b).leaves.get l = foundLeaf b l := fun l => by
    rw [show (adoptionOnRoad o b).leaves = _ from adoptionOnRoad_sameBut o b .leaves (by decide),
      show (adoptionSet o b).leaves = _ from adoptionSet_sameBut_found o b .leaves (by decide), adoptMachinery_leaf]
  have inputs : (adoptionOnRoad o b).iq = b.iq :=
    (adoptionOnRoad_sameBut o b .iq (by decide)).trans (adoptionSet_sameBut o b .iq (by decide))
  have mode : (adoptionOnRoad o b).sil.mode = .operate := by
    rw [show (adoptionOnRoad o b).sil = _ from adoptionOnRoad_sameBut o b .sil (by decide), adoptionSet, adoptedSil]
  have rest : ∀ l, ((adoptionOnRoad o b).leaves.get l).mot.state = .seated ∨
      ((adoptionOnRoad o b).leaves.get l).mot.state = .parked := fun l => by
    rw [leaf, foundLeaf_state]
    cases made b (.seated l) <;> simp
  rw [show (adopt o b).leaves = _ from adopt_sameBut_entered o b .leaves (by decide), adoptionEntered_eq,
    overtravelBoth_get mode rest, overtravelled, leaf, made_congr inputs]

theorem adopt_nav : (adopt o b).nav =
    { table := b.nav.table, loaded := b.nav.loaded, aspects := (adopt o b).nav.aspects } := by
  have found : (adoptionEntered o b).nav = b.nav.cleared := by
    rw [show (adoptionEntered o b).nav = _ from adoptionEntered_sameBut o b .nav (by decide), adoptionSet,
      show (adoptMachinery b).nav = _ from adoptMachinery_sameBut b .nav (by decide)]
  rw [show (adopt o b).nav = _ from adopt_sameBut_shown o b .nav (by decide), adoptionShown, selectAspects_nav, found]
  rfl

theorem adopt_fitted (g : Lamp) : (lampRec (adopt o b) g).fitted = outputFitted b (lampOutput g) := by
  have cat : (adoptionShown o b).cat = b.cat :=
    (adopt_sameBut_shown o b .cat (by decide)).symm.trans (adopt_sameBut o b .cat (by decide))
  rw [lampRec, show (adopt o b).slu = _ from adopt_sameBut_lamps o b .slu (by decide), ← lampRec, beginLamps_fitted,
    outputFitted_congr cat]

/-- A pending cadence becomes active exactly where the adopted aspects start the generator (R71). -/
theorem adopt_cadence : CadenceAtStart b (adopt o b) := by
  have shown := adoptionShown_sameBut o b
  have running : (adoptionShown o b).slu.running = b.slu.running := by
    rw [show (adoptionShown o b).slu = _ from shown .slu (by decide), adoptionOnRoad, adoptRoad_running,
      show (adoptionSet o b).slu = _ from adoptionSet_sameBut o b .slu (by decide)]
  have params : SameBut [.sil, .barriers, .locks, .brakes, .leaves, .nav, .presence, .rsq, .slu, .notes] b
      (adoptionShown o b) :=
    sameBut_join (adoptionSet_sameBut o b) (sameBut_join (adoptionOnRoad_sameBut o b) shown
      (hs := [.rsq, .slu, .leaves, .brakes, .nav, .notes]) (by decide) (by decide)) (by decide) (by decide)
  obtain ⟨par, pend⟩ := beginLamps_cadence (adoptionShown o b)
  rw [running, show (adoptionShown o b).par = _ from params .par (by decide),
    show (adoptionShown o b).pend = _ from params .pend (by decide)] at par
  rw [running, show (adoptionShown o b).pend = _ from params .pend (by decide)] at pend
  have lamps := adopt_sameBut_lamps o b
  have slu : (adopt o b).slu = _ := lamps .slu (by decide)
  constructor
  · rw [slu, show (adopt o b).par = _ from lamps .par (by decide), par]
  · rw [slu, show (adopt o b).pend = _ from lamps .pend (by decide), pend]

end

/-! ## The event that decides (R194) -/

theorem allFresh_iff (b : Blocks) : allFresh b = true ↔ ∀ i : Fin 41, (b.iq.recs.get i).freshness = .fresh := by
  simp only [allFresh, List.all_eq_true, Vector.mem_toList_iff, Vector.mem_iff_getElem, beq_iff_eq]
  exact ⟨fun h i => h _ ⟨i.val, i.isLt, rfl⟩, fun h r ⟨i, hi, e⟩ => e ▸ h ⟨i, hi⟩⟩

theorem adoptionReady_iff (b : Blocks) : adoptionReady b = true ↔
    (∀ l : Link, (b.links.get l).state = .aligned ∨ (b.links.get l).state = .degraded) ∧
      ∀ i : Fin 41, (b.iq.recs.get i).freshness = .fresh := by
  rw [adoptionReady, Bool.and_eq_true, allFresh_iff]
  simp [Link.all, forall_link, linkAligned_iff]

theorem settle_operate (s0 b : Blocks) (h : b.sil.mode = .operate) : settle s0 b = settleOperate s0 b := by
  simp only [settle, h]

theorem settle_adopt (s0 b : Blocks) (h : b.sil.mode = .adopt) :
    settle s0 b = if adoptionReady b then settleOperate s0 (adopt .allFresh b) else b := by
  simp only [settle, h]

theorem adopt_mode (o : AdoptOutcome) (b : Blocks) : (adopt o b).sil.mode = .operate := by
  rw [adopt_sil_shown]
  rfl

/-- With everything fresh the decision comes first, and what follows it follows in the same event. -/
theorem following_ready (s0 : Blocks) {b : Blocks} (h : b.sil.mode = .adopt) (hr : adoptionReady b = true) :
    following s0 b = following s0 (adopt .allFresh b) := by
  rw [following, following, settle_adopt s0 b h, if_pos hr, settle_operate s0 _ (adopt_mode _ b)]

theorem following_waits (s0 : Blocks) {b : Blocks} (h : b.sil.mode = .adopt) (hr : adoptionReady b ≠ true) :
    following s0 b = { b with notes := [] } := by
  rw [following, settle_adopt s0 b h, if_neg hr]

theorem adoptExpiry_decides {b : Blocks} (h : b.sil.mode = .adopt) (ht : b.sil.adoptTimer ≠ none) :
    adoptExpiry b = adopt .timeout b := if_pos ⟨h, Option.isSome_iff_ne_none.mpr ht⟩

theorem adoptExpiry_rest {b : Blocks} (h : b.sil.mode ≠ .adopt ∨ b.sil.adoptTimer = none) : adoptExpiry b = b :=
  if_neg fun ⟨hm, ht⟩ => h.elim (· hm) (Option.isSome_iff_ne_none.mp ht)

theorem exec_adoptTimeout (s : State) : exec .adoptTimeout s = .next (eventEnd s (adoptExpiry s.blocks)) := rfl

theorem notFresh_allFresh (o : AdoptOutcome) (p : SpanPhase) {b : Blocks} (h : allFresh b = true) :
    (adoptedSil b o p).notFresh = 0 := by
  have fresh : ∀ r ∈ b.iq.recs.toList, (r.freshness == .fresh) = true := List.all_eq_true.mp h
  have none : (b.iq.recs.toList.filter fun r => r.freshness != .fresh) = [] :=
    List.filter_eq_nil_iff.mpr fun r hr => by simp [bne, fresh r hr]
  rw [adoptedSil, none]
  rfl

/-! ## What is found of one leaf (R121, R195) -/

theorem adopt_leafState (o : AdoptOutcome) (b : Blocks) (l : LeafId) : leafState (adopt o b) l =
    if made b (.overtravel l) then .fault else if made b (.seated l) then .seated else .parked := by
  rw [leafState, adopt_leaf]
  split
  · rfl
  · exact foundLeaf_state b l

/-- A finding leaves the position as it was found. -/
theorem adopt_leafPos (o : AdoptOutcome) (b : Blocks) (l : LeafId) :
    ((adopt o b).leaves.get l).pos = (foundLeaf b l).pos := by
  rw [adopt_leaf]
  split <;> rfl

theorem adopt_leafWindow (o : AdoptOutcome) {b : Blocks} {l : LeafId} (h : made b (.seated l) = false) :
    ((adopt o b).leaves.get l).win.running = true := by
  rw [adopt_leaf, foundLeaf_unseated b h]
  split <;> rfl

/-- Settles O57: the outcome apart, both decisions are the same, and each block is read off what adoption makes of it. -/
theorem adoptTimeoutFindsTheBridge : Obligations.AdoptTimeoutFindsTheBridge := by
  refine ⟨fun s0 b hm => ?event, fun s => ?timeout⟩
  case event =>
    intro ready
    have hready : adoptionReady b = true ↔ ready := adoptionReady_iff b
    refine ⟨fun h => following_waits s0 hm (mt hready.mp h), fun h => ⟨adopt .allFresh b,
      following_ready s0 hm (hready.mpr h), fun s hs ht => ?_, ?_⟩⟩
    · rw [exec_adoptTimeout, hs, adoptExpiry_decides hm ht, adopt_withOutcome .timeout .allFresh b, withOutcome]
    · rw [adopt_sil_shown]
      exact ⟨rfl, rfl, notFresh_allFresh _ _ ((allFresh_iff b).mpr h.2), rfl, rfl, adopt_presence _ b⟩
  case timeout =>
    intro b
    refine ⟨fun h => by rw [exec_adoptTimeout, adoptExpiry_rest h], fun hm ht => ?_⟩
    intro seats locks barriers
    refine ⟨adopt .timeout b, by rw [exec_adoptTimeout, adoptExpiry_decides hm ht], adopt_sil_shown _ b, ?road, ?alert,
      adopt_presence _ b, fun i => ?barrier, fun k => ?lock, fun l => ⟨fun h => ?seated, fun h => ?unseated,
        adopt_leafState _ b l⟩, adopt_nav _ b, adopt_fitted _ b, ?cadence,
        sameBut_mono (adopt_sameBut _ b) (by decide)⟩
    case road => rw [adopt_rsq]; rfl
    case alert =>
      rw [adopt_rsq]
      intro h
      have phase : roadShown b = .alert := h
      rw [phase]
      exact ⟨rfl, rfl⟩
    case barrier =>
      rw [adopt_barrier]
      refine ⟨fun h => ?_, fun h => ?_, fun h => ?_, fun h => ?_⟩ <;> rw [h] <;> rfl
    case lock =>
      rw [adopt_lock]
      refine ⟨fun h => ?_, fun h => ?_, fun h => ?_, fun h => ?_⟩ <;> rw [h] <;> rfl
    case seated =>
      rw [adopt_leafPos, foundLeaf_seated b h]
      exact ⟨rfl, rfl⟩
    case unseated =>
      rw [adopt_leafPos, foundLeaf_unseated b h]
      exact ⟨rfl, rfl, rfl, adopt_leafWindow _ h⟩
    case cadence =>
      obtain ⟨par, pend⟩ := adopt_cadence .timeout b
      exact ⟨par, pend⟩

end Sys2Proof.Proofs

/-! The commands of barriers and locks, state by state (R102, R151). -/

namespace Sys2Proof.Proofs

open Sys2Proof.Machine Sys2Proof.Safety

/-! ## LOWER and RAISE taken by a barrier (R102) -/

section
variable {i : BarrierId} {c : BarrierCmd} {b : Blocks}

theorem barrierMove_up (h : (b.barriers.get i).state = .up) : barrierMove i c b = setBarrier i
    (if barrierDone c = .up then { b.barriers.get i with command := c, timer := .idle } else (b.barriers.get i).travel c)
    b := by
  simp only [barrierMove, h]

theorem barrierMove_down (h : (b.barriers.get i).state = .down) : barrierMove i c b = setBarrier i
    (if barrierDone c = .down then { b.barriers.get i with command := c, timer := .idle } else (b.barriers.get i).travel c)
    b := by
  simp only [barrierMove, h]

theorem barrierMove_lowering (h : (b.barriers.get i).state = .lowering) : barrierMove i c b = setBarrier i
    (if barrierTravel c = .lowering then b.barriers.get i else (b.barriers.get i).travel c) b := by
  simp only [barrierMove, h]

theorem barrierMove_raising (h : (b.barriers.get i).state = .raising) : barrierMove i c b = setBarrier i
    (if barrierTravel c = .raising then b.barriers.get i else (b.barriers.get i).travel c) b := by
  simp only [barrierMove, h]

theorem barrierMove_unproven (h : (b.barriers.get i).state = .unproven) :
    barrierMove i c b = setBarrier i { b.barriers.get i with command := c, timer := .running 0 } b := by
  simp only [barrierMove, h]

/-- A movement from rest is done where both switches are FRESH and show its target. -/
theorem moveFromRest_eq (r : BarrierRec) {x : Proven} (hx : barrierTarget c = some x) :
    r.moveFromRest c (provenPosition b i) =
      if barrierFresh b i = true ∧ barrierShows b i = x then { r with command := c, state := barrierDone c, timer := .idle }
      else r.travel c := by
  unfold BarrierRec.moveFromRest provenPosition
  rw [hx]
  refine if_congr ?_ rfl rfl
  by_cases hf : barrierFresh b i = true
  · simp [hf, eq_comm]
  · simp [hf]

theorem barrierMove_stopped (h : (b.barriers.get i).state = .stopped) {x : Proven} (hx : barrierTarget c = some x) :
    barrierMove i c b = setBarrier i (if barrierFresh b i = true ∧ barrierShows b i = x then
      { b.barriers.get i with command := c, state := barrierDone c, timer := .idle } else (b.barriers.get i).travel c) b := by
  simp only [barrierMove, h, moveFromRest_eq _ hx]

theorem barrierConsistent_iff (b : Blocks) (i : BarrierId) :
    barrierConsistent b i = true ↔ barrierFresh b i = true ∧ barrierShows b i ≠ .conflict := by
  simp [barrierConsistent]

theorem barrierMove_inconsistent (h : (b.barriers.get i).state = .fault)
    (hc : ¬ (barrierFresh b i = true ∧ barrierShows b i ≠ .conflict)) :
    barrierMove i c b = setBarrier i { b.barriers.get i with command := c } b := by
  simp only [barrierMove, h, if_neg (mt (barrierConsistent_iff b i).mp hc)]

/-- A LOWER or RAISE takes a barrier with consistent switches out of FAULT. -/
theorem barrierMove_consistent (h : (b.barriers.get i).state = .fault)
    (hc : barrierFresh b i = true ∧ barrierShows b i ≠ .conflict) {x : Proven} (hx : barrierTarget c = some x) :
    barrierMove i c b = setBarrier i (if barrierShows b i = x then
      { command := c, state := barrierDone c, timer := .idle, fault := .none }
      else { command := c, state := barrierTravel c, timer := .running 0, fault := .none }) b := by
  simp only [barrierMove, h, if_pos ((barrierConsistent_iff b i).mpr hc), moveFromRest_eq _ hx, hc.1, true_and]
  rfl

/-! ## STOP taken by a barrier (R102) -/

theorem barrierStop_standing
    (h : (b.barriers.get i).state = .up ∨ (b.barriers.get i).state = .down ∨ (b.barriers.get i).state = .fault) :
    barrierStop i b = setBarrier i { b.barriers.get i with command := .stop } b := by
  rcases h with h | h | h <;> simp only [barrierStop, h]

theorem barrierStop_travelling (h : (b.barriers.get i).state = .lowering ∨ (b.barriers.get i).state = .raising) {ms : Nat}
    (ht : (b.barriers.get i).timer = .running ms) : barrierStop i b =
      setBarrier i { b.barriers.get i with command := .stop, state := .stopped, timer := .halted ms } b := by
  rcases h with h | h <;> simp only [barrierStop, h, ht, TravelTimer.halt]

theorem barrierStop_stopped (h : (b.barriers.get i).state = .stopped) :
    barrierStop i b = setBarrier i (b.barriers.get i) b := by
  simp only [barrierStop, h, setBarrier_self]

theorem barrierStop_unproven (h : (b.barriers.get i).state = .unproven) : barrierStop i b =
    setBarrier i { b.barriers.get i with command := .stop, timer := (b.barriers.get i).timer.halt } b := by
  simp only [barrierStop, h]

end

theorem halt_rest {t : TravelTimer} (h : ∀ ms, t ≠ .running ms) : t.halt = t := by
  cases t with
  | running ms => exact absurd rfl (h ms)
  | halted ms => rfl
  | idle => rfl

/-! ## Commands and interrupts taken by a lock (R151) -/

section
variable {k : LockId} {c : LockCmd} {b : Blocks}

theorem lockCommand_driven (h : (b.locks.get k).state = .driven) : lockCommand k c b = setLock k
    (if lockDone c = .driven then { b.locks.get k with command := c } else (b.locks.get k).travel c) b := by
  simp only [lockCommand, h]

theorem lockCommand_withdrawn (h : (b.locks.get k).state = .withdrawn) : lockCommand k c b = setLock k
    (if lockDone c = .withdrawn then { b.locks.get k with command := c } else (b.locks.get k).travel c) b := by
  simp only [lockCommand, h]

theorem lockCommand_driving (h : (b.locks.get k).state = .driving) : lockCommand k c b = setLock k
    (if lockTravel c = .driving then b.locks.get k else (b.locks.get k).travel c) b := by
  simp only [lockCommand, h]

theorem lockCommand_withdrawing (h : (b.locks.get k).state = .withdrawing) : lockCommand k c b = setLock k
    (if lockTravel c = .withdrawing then b.locks.get k else (b.locks.get k).travel c) b := by
  simp only [lockCommand, h]

/-- A command to an INTERRUPTED lock is done where its switches show the target. -/
theorem lockCommand_rest (h : (b.locks.get k).state = .interrupted) {x : Proven} (hx : lockTarget c = some x) :
    lockCommand k c b = setLock k (if lockShows b k = x then
      { b.locks.get k with command := c, state := lockDone c, timer := .idle } else (b.locks.get k).travel c) b := by
  simp only [lockCommand, h, hx, Option.some.injEq, eq_comm (a := x)]
  split <;> rfl

theorem lockCommand_fault (h : (b.locks.get k).state = .fault) :
    lockCommand k c b = setLock k { b.locks.get k with command := c } b := by
  simp only [lockCommand, h]

theorem lockInterrupt_travelling (h : (b.locks.get k).state = .driving ∨ (b.locks.get k).state = .withdrawing) {ms : Nat}
    (ht : (b.locks.get k).timer = .running ms) : lockInterrupt k b =
      setLock k { b.locks.get k with state := .interrupted, timer := .halted ms } b := by
  simp only [lockInterrupt, (lockTravelling_iff _).mpr h, if_true, ht, TravelTimer.halt]

theorem lockInterrupt_rest {x : LockState} (h : (b.locks.get k).state = x) (hd : x ≠ .driving) (hw : x ≠ .withdrawing) :
    lockInterrupt k b = setLock k (b.locks.get k) b := by
  have rests : ¬ lockTravelling (b.locks.get k) = true :=
    fun ht => ((lockTravelling_iff _).mp ht).elim (fun e => hd (h.symm.trans e)) fun e => hw (h.symm.trans e)
  simp only [lockInterrupt, if_neg rests, setLock_self]

end

/-- Settles O48: each state takes each command by its own rule, and every rule writes one record. -/
theorem barriersAndLocksTakeCommands : Obligations.BarriersAndLocksTakeCommands := by
  refine ⟨fun i b => ?barrier, fun k b => ?lock⟩
  case barrier =>
    intro r takes down up consistent
    refine ⟨fun h => ⟨barrierMove_up h, barrierMove_up h, barrierStop_standing (.inl h)⟩,
      fun h => ⟨barrierMove_down h, barrierMove_down h, barrierStop_standing (.inr (.inl h))⟩,
      fun h => ⟨barrierMove_lowering h, barrierMove_lowering h⟩,
      fun h => ⟨barrierMove_raising h, barrierMove_raising h⟩,
      fun h ms ht => barrierStop_travelling h ht,
      fun h => ⟨barrierMove_stopped h rfl, barrierMove_stopped h rfl, barrierStop_stopped h⟩,
      fun h => ⟨barrierMove_unproven h, barrierMove_unproven h, fun ms ht => ?_, fun ht => ?_⟩,
      fun h => ⟨barrierStop_standing (.inr (.inr h)),
        fun hc => ⟨barrierMove_inconsistent h hc, barrierMove_inconsistent h hc⟩,
        fun hc => ⟨barrierMove_consistent h hc rfl, barrierMove_consistent h hc rfl⟩⟩⟩
    · exact (barrierStop_unproven h).trans (by rw [ht]; rfl)
    · exact (barrierStop_unproven h).trans (by rw [halt_rest ht])
  case lock =>
    intro r takes interrupts out home
    refine ⟨fun h => ⟨lockCommand_driven h, lockCommand_driven h, lockInterrupt_rest h nofun nofun⟩,
      fun h => ⟨lockCommand_withdrawn h, lockCommand_withdrawn h, lockInterrupt_rest h nofun nofun⟩,
      fun h => ⟨lockCommand_driving h, lockCommand_driving h⟩,
      fun h => ⟨lockCommand_withdrawing h, lockCommand_withdrawing h⟩,
      fun h ms ht => lockInterrupt_travelling h ht,
      fun h => ⟨lockInterrupt_rest h nofun nofun, lockCommand_rest h rfl, lockCommand_rest h rfl⟩,
      fun h => ⟨lockCommand_fault h, lockCommand_fault h, lockInterrupt_rest h nofun nofun⟩⟩

end Sys2Proof.Proofs

/-! What barriers and locks make of their switches and of their travel timers, and the brakes' expiries (R101, R103 to R105,
R117, R147, R148, R152). -/

namespace Sys2Proof.Proofs

open Sys2Proof.Machine Sys2Proof.Safety

/-! ## Case distinctions -/

theorem cases_of_eq_ite {α : Type} {p : Prop} [Decidable p] {x y z : α} (h : z = if p then x else y) :
    (p → z = x) ∧ (¬ p → z = y) :=
  ⟨fun hp => h.trans (if_pos hp), fun hp => h.trans (if_neg hp)⟩

/-- A barrier that takes the state its switches show, if they show one. -/
theorem cases_of_eq_elim {α : Type} {p : Proven} {d z : α} {f : BarrierState → α}
    (h : z = (barrierStateAt p).elim d f) :
    (p = .first → z = f .up) ∧ (p = .second → z = f .down) ∧ (p = .between → z = d) := by
  refine ⟨?_, ?_, ?_⟩ <;> rintro rfl <;> exact h

/-! ## The switches of a barrier (R101, R103 to R105) -/

theorem inputMoves_iff (s0 b : Blocks) (f : InputFn) : inputMoves s0 b f = true ↔
    made s0 f ≠ made b f ∨ (inputRec s0 f).freshness ≠ (inputRec b f).freshness := by
  simp [inputMoves]

theorem barrierMoves_iff (s0 b : Blocks) (i : BarrierId) :
    (inputMoves s0 b (upSwitch i) || inputMoves s0 b (downSwitch i)) = true ↔
      made s0 (upSwitch i) ≠ made b (upSwitch i) ∨ made s0 (downSwitch i) ≠ made b (downSwitch i) ∨
        (inputRec s0 (upSwitch i)).freshness ≠ (inputRec b (upSwitch i)).freshness ∨
        (inputRec s0 (downSwitch i)).freshness ≠ (inputRec b (downSwitch i)).freshness := by
  rw [Bool.or_eq_true, inputMoves_iff, inputMoves_iff]
  tauto

section
variable {i : BarrierId} {b : Blocks}

theorem judgeBarrier_fault (h : (b.barriers.get i).state = .fault) : judgeBarrier i b = b := by
  simp only [judgeBarrier, h, if_true]

theorem judgeBarrier_stale (h : (b.barriers.get i).state ≠ .fault) (hf : barrierFresh b i = false) :
    judgeBarrier i b = setBarrier i { b.barriers.get i with state := .unproven } b := by
  simp only [judgeBarrier, h, hf, if_true, if_false]

theorem judgeBarrier_conflict (h : (b.barriers.get i).state ≠ .fault) (hf : barrierFresh b i = true)
    (hc : barrierShows b i = .conflict) : judgeBarrier i b = barrierFault i .switchConflict b := by
  simp [judgeBarrier, rejudgeBarrier, h, hf, hc]

section
variable (hf : barrierFresh b i = true) (hn : barrierShows b i ≠ .conflict)
include hf hn

theorem judgeBarrier_up (h : (b.barriers.get i).state = .up) : judgeBarrier i b =
    if barrierShows b i = .first then setBarrier i (b.barriers.get i) b else barrierFault i .lostPosition b := by
  simp [judgeBarrier, h, hf, hn, setBarrier_self]

theorem judgeBarrier_down (h : (b.barriers.get i).state = .down) : judgeBarrier i b =
    if barrierShows b i = .second then setBarrier i (b.barriers.get i) b else barrierFault i .lostPosition b := by
  simp [judgeBarrier, h, hf, hn, setBarrier_self]

theorem judgeBarrier_lowering (h : (b.barriers.get i).state = .lowering) : judgeBarrier i b =
    if barrierShows b i = .second then barrierArrive i .down b else setBarrier i (b.barriers.get i) b := by
  simp [judgeBarrier, h, hf, hn, setBarrier_self]

theorem judgeBarrier_raising (h : (b.barriers.get i).state = .raising) : judgeBarrier i b =
    if barrierShows b i = .first then barrierArrive i .up b else setBarrier i (b.barriers.get i) b := by
  simp [judgeBarrier, h, hf, hn, setBarrier_self]

theorem judgeBarrier_stopped (h : (b.barriers.get i).state = .stopped) : judgeBarrier i b =
    (barrierStateAt (barrierShows b i)).elim (setBarrier i (b.barriers.get i) b) fun s => barrierArrive i s b := by
  simp only [judgeBarrier, h, hf, hn, setBarrier_self]
  cases barrierStateAt (barrierShows b i) <;> rfl

end

theorem judgeBarrier_unproven (hf : barrierFresh b i = true) (h : (b.barriers.get i).state = .unproven) :
    judgeBarrier i b = rejudgeBarrier i b := by
  simp [judgeBarrier, h, hf]

section
variable (hn : barrierShows b i ≠ .conflict)
include hn

/-- An UNPROVEN barrier whose travel timer runs is on its way to the target of its command. -/
theorem rejudgeBarrier_running {ms : Nat} (ht : (b.barriers.get i).timer = .running ms) {c : BarrierCmd}
    (hc : (b.barriers.get i).command = c) {x : Proven} (hx : barrierTarget c = some x) : rejudgeBarrier i b =
      if barrierShows b i = x then barrierArrive i (barrierDone c) b
      else setBarrier i { b.barriers.get i with state := barrierTravel c } b := by
  simp [rejudgeBarrier, hn, ht, hc, hx, eq_comm]

theorem rejudgeBarrier_halted {ms : Nat} (ht : (b.barriers.get i).timer = .halted ms) : rejudgeBarrier i b =
    (barrierStateAt (barrierShows b i)).elim (setBarrier i { b.barriers.get i with state := .stopped } b)
      fun s => barrierArrive i s b := by
  simp only [rejudgeBarrier, hn, ht, if_false]
  cases barrierStateAt (barrierShows b i) <;> rfl

/-- An UNPROVEN barrier without a travel has to stand at the target of its command. -/
theorem rejudgeBarrier_idle (ht : (b.barriers.get i).timer = .idle) {c : BarrierCmd}
    (hc : (b.barriers.get i).command = c) {x : Proven} (hx : barrierTarget c = some x) : rejudgeBarrier i b =
      if barrierShows b i = x then barrierArrive i (barrierDone c) b else barrierFault i .lostPosition b := by
  simp only [rejudgeBarrier, hn, ht, hc, if_false]
  cases hs : barrierShows b i <;> cases c <;> cases hx <;> rfl

theorem rejudgeBarrier_idle_stop (ht : (b.barriers.get i).timer = .idle) (hc : (b.barriers.get i).command = .stop) :
    rejudgeBarrier i b = (barrierStateAt (barrierShows b i)).elim (barrierFault i .lostPosition b)
      fun s => barrierArrive i s b := by
  simp only [rejudgeBarrier, hn, ht, hc, if_false]
  cases barrierStateAt (barrierShows b i) <;> rfl

end

end

/-! ## The switches of a lock (R152) -/

section
variable {k : LockId} {b : Blocks}

theorem judgeLock_fault (h : (b.locks.get k).state = .fault) : judgeLock k b = b := by
  simp only [judgeLock, h]

theorem judgeLock_conflict (h : (b.locks.get k).state ≠ .fault) (hc : lockShows b k = .conflict) :
    judgeLock k b = lockFault k .switchConflict b := by
  simp only [judgeLock, hc, if_true]
  split
  next e => exact absurd e h
  all_goals rfl

section
variable (hn : lockShows b k ≠ .conflict)
include hn

theorem judgeLock_driven (h : (b.locks.get k).state = .driven) : judgeLock k b =
    if lockShows b k = .first then setLock k (b.locks.get k) b else lockFault k .lostPosition b := by
  simp only [judgeLock, h, hn, if_false, setLock_self]

theorem judgeLock_withdrawn (h : (b.locks.get k).state = .withdrawn) : judgeLock k b =
    if lockShows b k = .second then setLock k (b.locks.get k) b else lockFault k .lostPosition b := by
  simp only [judgeLock, h, hn, if_false, setLock_self]

theorem judgeLock_driving (h : (b.locks.get k).state = .driving) : judgeLock k b =
    if lockShows b k = .first then lockArrive k .driven b else setLock k (b.locks.get k) b := by
  simp only [judgeLock, h, hn, if_false, setLock_self]

theorem judgeLock_withdrawing (h : (b.locks.get k).state = .withdrawing) : judgeLock k b =
    if lockShows b k = .second then lockArrive k .withdrawn b else setLock k (b.locks.get k) b := by
  simp only [judgeLock, h, hn, if_false, setLock_self]

theorem judgeLock_interrupted (h : (b.locks.get k).state = .interrupted) {c : LockCmd} (hc : (b.locks.get k).command = c)
    {x : Proven} (hx : lockTarget c = some x) : judgeLock k b =
      if lockShows b k = x then lockArrive k (lockDone c) b else setLock k (b.locks.get k) b := by
  simp only [judgeLock, h, hn, hc, hx, Option.some.injEq, eq_comm (a := x), if_false, setLock_self]

end

end

/-! ## Travel timeouts (R103, R152) -/

section
variable {i : BarrierId} {b : Blocks}

/-- A barrier at the expiry of its travel timer takes the position it has reached, or goes to FAULT. -/
theorem barrierTimeout_running {ms : Nat} (ht : (b.barriers.get i).timer = .running ms)
    (hs : (b.barriers.get i).state = .lowering ∨ (b.barriers.get i).state = .raising ∨
      (b.barriers.get i).state = .unproven) :
    barrierTimeout i b = (travelProven b i).elim (barrierFault i .travelTimeout b) fun s => barrierArrive i s b := by
  have expires : ((barrierTravelling (b.barriers.get i) || (b.barriers.get i).state == .unproven) &&
      (b.barriers.get i).timer.isRunning) = true := by
    rcases hs with hs | hs | hs <;> simp [barrierTravelling, hs, ht, TravelTimer.isRunning]
  simp only [barrierTimeout, expires, if_true]
  cases travelProven b i <;> rfl

theorem barrierTimeout_rest (ht : ∀ ms, (b.barriers.get i).timer ≠ .running ms) : barrierTimeout i b = b := by
  have rests : (b.barriers.get i).timer.isRunning = false := by
    cases h : (b.barriers.get i).timer with
    | running ms => exact absurd h (ht ms)
    | halted ms => rfl
    | idle => rfl
  simp [barrierTimeout, rests]

theorem travelProven_lowering (h : (b.barriers.get i).state = .lowering) : travelProven b i =
    if barrierFresh b i = true ∧ barrierShows b i = .second then some .down else none := by
  unfold travelProven
  rw [h]
  cases barrierFresh b i <;> cases barrierShows b i <;> rfl

theorem travelProven_raising (h : (b.barriers.get i).state = .raising) : travelProven b i =
    if barrierFresh b i = true ∧ barrierShows b i = .first then some .up else none := by
  unfold travelProven
  rw [h]
  cases barrierFresh b i <;> cases barrierShows b i <;> rfl

theorem travelProven_unproven (h : (b.barriers.get i).state = .unproven) : travelProven b i = none := by
  unfold travelProven
  rw [h]
  cases barrierFresh b i <;> rfl

end

section
variable {k : LockId} {b : Blocks}

theorem lockTimeout_driving (h : (b.locks.get k).state = .driving) : lockTimeout k b =
    if lockShows b k = .first then lockArrive k .driven b else lockFault k .travelTimeout b := by
  simp only [lockTimeout, h]

theorem lockTimeout_withdrawing (h : (b.locks.get k).state = .withdrawing) : lockTimeout k b =
    if lockShows b k = .second then lockArrive k .withdrawn b else lockFault k .travelTimeout b := by
  simp only [lockTimeout, h]

theorem lockTimeout_rest (hd : (b.locks.get k).state ≠ .driving) (hw : (b.locks.get k).state ≠ .withdrawing) :
    lockTimeout k b = b := by
  unfold lockTimeout
  split
  next h => exact absurd h hd
  next h => exact absurd h hw
  all_goals rfl

end

/-! ## Brake expiries (R117, R147, R148) -/

/-- A finding in OPERATE acts on its leaf as R117 says. -/
theorem leafFault_found (l : LeafId) (k : LeafFault) {b : Blocks} (hm : b.sil.mode = .operate) :
    FaultFound k l b (leafFault l k b) := by
  refine ⟨leafFault_state l k hm, fun hf => ?_, fun hf => ?_⟩
  · rw [leafFault_get hm hf]
    refine ⟨rfl, rfl, rfl, rfl, rfl, fun hr => ?_, leafFault_get_other hm hf⟩
    have released : ((setLeaf l (faultedLeaf k (b.leaves.get l)) b).brakes.get l).state = .released := hr
    rw [leafFault_brake hm hf, brakeSetRequest]
    simp only [released]
    exact setBrake_get l _ _
  · have other : (leafFault l k b).leaves.get (otherLeaf l) = b.leaves.get (otherLeaf l) := by
      rw [leafFault_leaf_faulted hm hf]
      split
      · rfl
      · exact setLeaf_get_other l _ b
    refine ⟨?_, ?_, other⟩ <;> rw [leafFault_leaf_faulted hm hf] <;> split <;> simp

/-- The record of a brake whose expiry finds it not proven. -/
def lateBrake (w : BrakeFault) (r : BrakeRec) : BrakeRec :=
  { r with state := .fault, timer := none, fault := w, lastFault := w }

/-- A brake that is late while in motion is a finding on its leaf, which asks the brake to set. -/
theorem lateBrake_found {l : LeafId} (k : LeafFault) (w : BrakeFault) {b : Blocks} (hm : b.sil.mode = .operate)
    (hr : (b.brakes.get l).state ≠ .released) :
    let late := lateBrake w (b.brakes.get l)
    let c := leafFault l k (setBrake l late b)
    FaultFound k l b c ∧ (leafState b l = .fault → c.brakes.get l = late) ∧
      (leafState b l ≠ .fault → c.brakes.get l =
        if made b (.brakeReleased l) then { late with command := .set }
        else { late with command := .set, state := .set, fault := .none, mismatch := false }) ∧
      c.brakes.get (otherLeaf l) = b.brakes.get (otherLeaf l) ∧ SameBut [.leaves, .brakes] b c := by
  intro late c
  obtain ⟨state, sound, faulted⟩ := leafFault_found l k (b := setBrake l late b) hm
  have brake : (setBrake l late b).brakes.get l = late := setBrake_get l late b
  refine ⟨⟨state, fun hf => ?_, faulted⟩, fun hf => ?_, fun hf => ?_, ?_, ?_⟩
  · obtain ⟨first, kinds, stall, command, update, -, other⟩ := sound hf
    exact ⟨first, kinds, stall, command, update, fun h => absurd h hr, other⟩
  · have kept : c = if k ∈ (b.leaves.get l).flt.kinds then setBrake l late b else _ :=
      leafFault_leaf_faulted (b := setBrake l late b) hm hf
    rw [kept]
    split <;> exact brake
  · have asked : c.brakes.get l = _ := leafFault_brake (k := k) (b := setBrake l late b) hm hf
    have fault : (setLeaf l (faultedLeaf k ((setBrake l late b).leaves.get l)) (setBrake l late b)).brakes.get l = late :=
      brake
    rw [asked, brakeSetRequest_fault (congrArg BrakeRec.state fault), fault]
    rfl
  · exact leafFault_brake_other.trans (setBrake_get_other l late b)
  · exact sameBut_join (setBrake_sameBut l late b) (leafFault_sameBut l k _) (by decide) (by decide)

/-- Both expiries of a brake are one rule: the state that has lasted too long gives the finding and the fault. -/
theorem exec_brakeTimeout {l : LeafId} {i : Instr} {q : BrakeState} {k : LeafFault} {w : BrakeFault}
    (h : (i = .brakeReleaseTimeout l ∧ q = .releasing ∧ k = .brakeNotReleased ∧ w = .brakeNotReleased) ∨
      (i = .brakeSetTimeout l ∧ q = .setting ∧ k = .brakeNotSet ∧ w = .brakeNotSet)) (s : State) :
    exec i s = .next (eventEnd s (if (s.blocks.brakes.get l).state = q ∧ (s.blocks.brakes.get l).timer.isSome
      then leafFault l k (setBrake l (lateBrake w (s.blocks.brakes.get l)) s.blocks) else s.blocks)) := by
  rcases h with ⟨rfl, rfl, rfl, rfl⟩ | ⟨rfl, rfl, rfl, rfl⟩ <;> rfl

/-- Settles O49: a change of the switches is judged state by state, and an expiry by the position that is proven. -/
theorem timeoutsAreFaults : Obligations.TimeoutsAreFaults := by
  refine ⟨fun i s0 b => ?barrier, fun k s0 b => ?lock, fun s => ?expiry⟩
  case barrier =>
    intro r shows moves becomes faulted at_
    have judged : moves → publishBarrier s0 b i = judgeBarrier i b := fun hm => if_pos ((barrierMoves_iff s0 b i).mpr hm)
    have still : ¬ moves → publishBarrier s0 b i = b := fun hm => if_neg (mt (barrierMoves_iff s0 b i).mp hm)
    refine ⟨fun h => ?_, fun hm h hf => (judged hm).trans (judgeBarrier_stale h hf),
      fun hm h hf hc => (judged hm).trans (judgeBarrier_conflict h hf hc), fun hm hf hn => ?_⟩
    · by_cases hm : moves
      · exact (judged hm).trans (judgeBarrier_fault (h.resolve_left (not_not_intro hm)))
      · exact still hm
    refine ⟨fun h => cases_of_eq_ite ((judged hm).trans (judgeBarrier_up hf hn h)),
      fun h => cases_of_eq_ite ((judged hm).trans (judgeBarrier_down hf hn h)),
      fun h => cases_of_eq_ite ((judged hm).trans (judgeBarrier_lowering hf hn h)),
      fun h => cases_of_eq_ite ((judged hm).trans (judgeBarrier_raising hf hn h)),
      fun h => cases_of_eq_elim ((judged hm).trans (judgeBarrier_stopped hf hn h)), fun h => ?_⟩
    have again : publishBarrier s0 b i = rejudgeBarrier i b := (judged hm).trans (judgeBarrier_unproven hf h)
    exact ⟨fun ms ht => ⟨fun hc => cases_of_eq_ite (again.trans (rejudgeBarrier_running hn ht hc rfl)),
        fun hc => cases_of_eq_ite (again.trans (rejudgeBarrier_running hn ht hc rfl))⟩,
      fun ms ht => cases_of_eq_elim (again.trans (rejudgeBarrier_halted hn ht)),
      fun ht => ⟨fun hc => cases_of_eq_ite (again.trans (rejudgeBarrier_idle hn ht hc rfl)),
        fun hc => cases_of_eq_ite (again.trans (rejudgeBarrier_idle hn ht hc rfl)),
        fun hc => cases_of_eq_elim (again.trans (rejudgeBarrier_idle_stop hn ht hc))⟩⟩
  case lock =>
    intro r shows moves becomes faulted at_
    have judged : moves → publishLock s0 b k = judgeLock k b := fun hm => if_pos (by
      rw [Bool.or_eq_true, inputMoves_iff, inputMoves_iff]
      exact hm.imp .inl .inl)
    refine ⟨fun h => ?_, fun hm h hc => (judged hm).trans (judgeLock_conflict h hc), fun hm hn => ?_⟩
    · exact (ite_eq_or_eq _ _ _).elim (fun e => Eq.trans e (judgeLock_fault h)) id
    exact ⟨fun h => cases_of_eq_ite ((judged hm).trans (judgeLock_driven hn h)),
      fun h => cases_of_eq_ite ((judged hm).trans (judgeLock_withdrawn hn h)),
      fun h => cases_of_eq_ite ((judged hm).trans (judgeLock_driving hn h)),
      fun h => cases_of_eq_ite ((judged hm).trans (judgeLock_withdrawing hn h)),
      fun h => ⟨fun hc => cases_of_eq_ite ((judged hm).trans (judgeLock_interrupted hn h hc rfl)),
        fun hc => cases_of_eq_ite ((judged hm).trans (judgeLock_interrupted hn h hc rfl))⟩⟩
  case expiry =>
    intro b
    have barrier : ∀ i, exec (.barrierTravelTimeout i) s = .next (eventEnd s (barrierTimeout i b)) := fun _ => rfl
    have lock : ∀ k, exec (.lockTravelTimeout k) s = .next (eventEnd s (lockTimeout k b)) := fun _ => rfl
    refine ⟨fun i ms ht => ?barriers, fun i ht => by rw [barrier, barrierTimeout_rest ht], fun k => ?locks,
      fun k hd hw => by rw [lock, lockTimeout_rest hd hw], fun l i q k w hi => ?brakes⟩
    case barriers =>
      intro r proves expires
      have timeout := fun hs => barrierTimeout_running (b := b) (i := i) ht hs
      refine ⟨fun h hp => ?_, fun h hp => ?_, fun h => ?_⟩
      · exact (barrier i).trans (by rw [timeout (.inl h), travelProven_lowering h, if_pos hp]; rfl)
      · exact (barrier i).trans (by rw [timeout (.inr (.inl h)), travelProven_raising h, if_pos hp]; rfl)
      · rcases h with ⟨h, hp⟩ | ⟨h, hp⟩ | h
        · exact (barrier i).trans (by rw [timeout (.inl h), travelProven_lowering h, if_neg hp]; rfl)
        · exact (barrier i).trans (by rw [timeout (.inr (.inl h)), travelProven_raising h, if_neg hp]; rfl)
        · exact (barrier i).trans (by rw [timeout (.inr (.inr h)), travelProven_unproven h]; rfl)
    case locks =>
      intro r expires
      refine ⟨fun h hp => ?_, fun h hp => ?_, fun h => ?_⟩
      · exact (lock k).trans (by rw [lockTimeout_driving h, if_pos hp]; rfl)
      · exact (lock k).trans (by rw [lockTimeout_withdrawing h, if_pos hp]; rfl)
      · rcases h with ⟨h, hp⟩ | ⟨h, hp⟩
        · exact (lock k).trans (by rw [lockTimeout_driving h, if_neg hp]; rfl)
        · exact (lock k).trans (by rw [lockTimeout_withdrawing h, if_neg hp]; rfl)
    case brakes =>
      intro r late
      have expires := exec_brakeTimeout hi s
      have moving : q ≠ .released := by rcases hi with ⟨-, rfl, -⟩ | ⟨-, rfl, -⟩ <;> nofun
      refine ⟨fun h => ?_, fun hq ht => ?_⟩
      · rw [expires, if_neg fun hx => h.elim (· hx.1) (Option.isSome_iff_ne_none.mp hx.2)]
      rw [expires, if_pos ⟨hq, Option.isSome_iff_ne_none.mpr ht⟩]
      exact ⟨fun hm => by rw [leafFault_outside l k (setBrake l _ b) hm]; rfl,
        fun hm => ⟨_, rfl, lateBrake_found k w hm (by rw [hq]; exact moving)⟩⟩

end Sys2Proof.Proofs

/-! The road by itself and at its timers: the phases of a closure and of a reopening, the loops, the losses and the complement
test (R84, R88 to R98). -/

namespace Sys2Proof.Proofs

open Sys2Proof.Machine Sys2Proof.Safety

/-! ## What the sequencer reads (R84, R89 to R96) -/

theorem exists_approach {p : Approach → Prop} : (∃ a, p a) ↔ p .north ∨ p .south :=
  ⟨fun ⟨a, h⟩ => by cases a <;> simp [h], fun h => h.elim (⟨_, ·⟩) (⟨_, ·⟩)⟩

theorem loopOccupied_iff (b : Blocks) :
    loopOccupied b = true ↔ ∃ a : Approach, made b (.loopA a) = true ∨ made b (.loopB a) = true := by
  simp [loopOccupied, Approach.all, exists_approach]

theorem loopOccupied_congr {a b : Blocks} (h : b.iq = a.iq) : loopOccupied b = loopOccupied a := by
  simp only [loopOccupied, made_congr h]

theorem seatLossStands_iff (b : Blocks) : seatLossStands b = true ↔ ∃ l : LeafId, made b (.seated l) = false := by
  simp [seatLossStands, anyLeaf_iff]

theorem lockLossStands_iff (b : Blocks) : lockLossStands b = true ↔ ∃ k : LockId, made b (.lockDriven k) = false := by
  simp only [lockLossStands, anyLock_iff, Bool.not_eq_true']

theorem lossStands_iff (b : Blocks) : lossStands b = true ↔
    (∃ l : LeafId, made b (.seated l) = false) ∨ ∃ k : LockId, made b (.lockDriven k) = false := by
  rw [lossStands, Bool.or_eq_true, seatLossStands_iff, lockLossStands_iff]

/-- The four causes of ALERT by the two losses. -/
theorem alertCause_cases (b : Blocks) :
    let seatLost := ∃ l : LeafId, made b (.seated l) = false
    let lockLost := ∃ k : LockId, made b (.lockDriven k) = false
    (seatLost → lockLost → alertCause b = .seatAndLock) ∧ (seatLost → ¬ lockLost → alertCause b = .seat) ∧
      (¬ seatLost → lockLost → alertCause b = .lock) ∧ (¬ seatLost → ¬ lockLost → alertCause b = .cleared) := by
  intro seatLost lockLost
  have seat : seatLossStands b = true ↔ seatLost := seatLossStands_iff b
  have lock : lockLossStands b = true ↔ lockLost := lockLossStands_iff b
  rw [← seat, ← lock, alertCause]
  cases seatLossStands b <;> cases lockLossStands b <;> simp

theorem entriesClosed_iff (b : Blocks) : entriesClosed b = true ↔ ∀ i : BarrierId, isEntry i = true →
    (b.barriers.get i).state = .down ∨ Override.barrier i ∈ b.sil.overrides := by
  simp [entriesClosed, BarrierId.all, forall_barrier, isEntry, downOrOverridden_iff]

theorem barriersAre_kind (b : Blocks) (entry : Bool) (s : BarrierState) :
    barriersAre b entry s = true ↔ ∀ i : BarrierId, isEntry i = entry → (b.barriers.get i).state = s := by
  cases entry <;> simp [barriersAre, BarrierId.all, forall_barrier, isEntry]

theorem complementPasses_iff (b : Blocks) (a : Approach) : complementPasses b a = true ↔
    (((lampRec b (.redA a)).fitted = true ∧ (lampRec b (.redA a)).state ≠ .failed) ∨
      ((lampRec b (.redB a)).fitted = true ∧ (lampRec b (.redB a)).state ≠ .failed)) ∨
      Override.complement a ∈ b.sil.overrides := by
  simp [complementPasses, holdsComplement]

/-- The failing set by what passes on each approach. -/
theorem complementFailing_cases (b : Blocks) :
    (complementFailing b = .none ↔ complementPasses b .north = true ∧ complementPasses b .south = true) ∧
      (complementFailing b = .north ↔ ¬ complementPasses b .north = true ∧ complementPasses b .south = true) ∧
      (complementFailing b = .south ↔ complementPasses b .north = true ∧ ¬ complementPasses b .south = true) ∧
      (complementFailing b = .both ↔ ¬ complementPasses b .north = true ∧ ¬ complementPasses b .south = true) := by
  unfold complementFailing
  cases complementPasses b .north <;> cases complementPasses b .south <;> simp

/-! ## Phases entered (R88, R89, R92) -/

theorem enterRedWarn_rsq (b : Blocks) :
    (enterRedWarn b).rsq = { b.rsq.enter .redWarn .none with timer := .running b.par.preEntryMs } := by
  rw [enterRedWarn, setRoadTimer, enterPhase_rsq]

theorem enterRedWarn_slu (b : Blocks) : (enterRedWarn b).slu = { b.slu with aspects := ⟨.redFlash, .redFlash⟩ } :=
  enterPhase_slu .redWarn b

theorem enterClearance_rsq (b : Blocks) : (enterClearance b).rsq = { b.rsq.enter .clearance .none with
    clearance := if loopOccupied b then .full else .running b.par.clearMs } := by
  rw [enterClearance, setClearance, enterPhase_rsq]

/-- A barrier that stands UP under RAISE goes down where its phase calls it to LOWER. -/
theorem enterPhase_lowers {p : RoadPhase} {b : Blocks} {i : BarrierId}
    (hc : roadCall p (b.rsq.exitPaused && closureRunning p) i = some .lower) (hh : b.sil.held = false)
    (hu : (b.barriers.get i).state = .up) (hr : (b.barriers.get i).command = .raise) : (enterPhase p b).barriers.get i =
      { b.barriers.get i with command := .lower, state := .lowering, timer := .running 0 } := by
  rw [enterPhase_turns hc (by rw [hr]; nofun) hh (by rintro ⟨⟨⟩, -⟩), barrierCommand_lower_up hu]
  rfl

/-! ## The pause of the exit barriers (R93) -/

/-- The exit barriers are stopped. -/
def exitsStopped (b : Blocks) : Blocks := barrierStop .southExit (barrierStop .northExit b)

/-- The blocks of a pause before CLEARANCE is entered. -/
def exitsPaused (b : Blocks) : Blocks := { exitsStopped b with rsq := { (exitsStopped b).rsq with exitPaused := true } }

theorem pauseExits_eq (b : Blocks) : pauseExits b = enterClearance (exitsPaused b) := rfl

theorem exitsStopped_sameBut (b : Blocks) : SameBut [.barriers] b (exitsStopped b) :=
  sameBut_trans (barrierStop_sameBut .northExit b) (barrierStop_sameBut .southExit _)

theorem exitsStopped_get {i : BarrierId} (h : isEntry i = false) (b : Blocks) :
    (exitsStopped b).barriers.get i = (barrierStop i b).barriers.get i := by
  cases i with
  | northEntry => cases h
  | southEntry => cases h
  | northExit => exact barrierCommand_get_other .southExit .stop _ nofun
  | southExit =>
    exact barrierCommand_congr .southExit .stop (barrierStop_sameBut .northExit b .iq (by decide))
      (barrierCommand_get_other .northExit .stop b nofun)

theorem pauseExits_rsq (b : Blocks) : (pauseExits b).rsq = { b.rsq.enter .clearance .none with
    exitPaused := true, clearance := if loopOccupied b then .full else .running b.par.clearMs } := by
  have same := exitsStopped_sameBut b
  have loops : loopOccupied (exitsPaused b) = loopOccupied b := loopOccupied_congr (same .iq (by decide))
  have par : (exitsPaused b).par = b.par := same .par (by decide)
  rw [pauseExits_eq, enterClearance_rsq, loops, par]
  rfl

/-- The entry to CLEARANCE finds the exit barriers stopped and calls them no further. -/
theorem pauseExits_get {i : BarrierId} (he : isEntry i = false) {b : Blocks} {r : BarrierRec}
    (hr : (barrierStop i b).barriers.get i = r) (hc : r.command = .stop) (hf : r.state ≠ .fault) :
    (pauseExits b).barriers.get i = r := by
  have stopped : (exitsPaused b).barriers.get i = r := (exitsStopped_get he b).trans hr
  have call : roadCall .clearance ((exitsPaused b).rsq.exitPaused && closureRunning .clearance) i = some .stop := by
    rw [roadCall, he]
    rfl
  have entered : (enterPhase .clearance (exitsPaused b)).barriers.get i = (exitsPaused b).barriers.get i :=
    enterPhase_called call (by rw [stopped, hc]) (by rw [stopped]; exact hf)
  exact entered.trans stopped

/-! ## The complement test (R90) -/

theorem testComplement_passes {b : Blocks} (hc : complementFailing b = .none) (hh : b.sil.held = false) :
    testComplement b = enterPhase .entryLowering b := by
  simp [testComplement, hc, hh]

theorem testComplement_held {b : Blocks} (hc : complementFailing b = .none) (hh : b.sil.held = true) :
    testComplement b = setStep .enterEntryLowering (setWait .none b) := by
  simp only [testComplement, hc, hh, if_true]

theorem testComplement_fails {b : Blocks} (hc : complementFailing b ≠ .none) :
    testComplement b = setWait (complementFailing b) b := by
  unfold testComplement
  cases h : complementFailing b with
  | none => exact absurd h hc
  | north => rfl
  | south => rfl
  | both => rfl

/-! ## One advance, phase by phase (R89 to R98) -/

section
variable {b : Blocks}

theorem roadAdvance_roadOpen (h : b.rsq.phase = .roadOpen) :
    roadAdvance b = if lossStands b then note .road (enterAlert (alertCause b) b) else b := by
  simp only [roadAdvance, h]

theorem roadAdvance_amber (h : b.rsq.phase = .amber) : roadAdvance b = if lossStands b then enterRedWarn b else b := by
  simp only [roadAdvance, h]

theorem roadAdvance_redWarn (h : b.rsq.phase = .redWarn) : roadAdvance b =
    if (b.rsq.timer = .runOut ∧ b.rsq.wait ≠ .none) ∧ b.rsq.wait ≠ complementFailing b then testComplement b else b := by
  simp only [roadAdvance, h, and_assoc]

theorem roadAdvance_entryLowering (h : b.rsq.phase = .entryLowering) :
    roadAdvance b = if entriesClosed b then enterClearance b else b := by
  simp only [roadAdvance, h]

theorem roadAdvance_clearance (h : b.rsq.phase = .clearance) : roadAdvance b = followLoops b := by
  simp only [roadAdvance, h]

theorem roadAdvance_exitLowering (h : b.rsq.phase = .exitLowering) : roadAdvance b =
    if loopOccupied b then pauseExits b else if barriersClosed b then enterPhase .roadClosed b else b := by
  simp only [roadAdvance, h]

theorem roadAdvance_roadClosed (h : b.rsq.phase = .roadClosed) : roadAdvance b = b := by
  simp only [roadAdvance, h]

theorem roadAdvance_exitRaising (h : b.rsq.phase = .exitRaising) : roadAdvance b =
    if barriersAre b false .up then
      if b.sil.held then setStep .enterEntryRaising b else enterPhase .entryRaising b
    else b := by
  simp only [roadAdvance, h]

theorem roadAdvance_entryRaising (h : b.rsq.phase = .entryRaising) :
    roadAdvance b = if barriersAre b true .up then enterRoadOpen b else b := by
  simp only [roadAdvance, h]

theorem roadAdvance_alert (h : b.rsq.phase = .alert) : roadAdvance b =
    if b.rsq.cause = .recovery then b else { b with rsq := { b.rsq with cause := alertCause b } } := by
  simp only [roadAdvance, h]

/-- In CLEARANCE the timer follows the loops: FULL while one is occupied, running while none is. -/
theorem followLoops_cases (b : Blocks) :
    (loopOccupied b = true → ∀ ms, b.rsq.clearance = .running ms →
      followLoops b = { b with rsq := { b.rsq with clearance := .full } }) ∧
    (loopOccupied b = true → b.rsq.clearance = .runOut →
      followLoops b = { b with rsq := { b.rsq with clearance := .full, step := .none } }) ∧
    (loopOccupied b = false → b.rsq.clearance = .full →
      followLoops b = { b with rsq := { b.rsq with clearance := .running b.par.clearMs } }) ∧
    ((loopOccupied b = true ↔ b.rsq.clearance = .full) → followLoops b = b) := by
  refine ⟨fun ho ms ht => ?_, fun ho ht => ?_, fun ho ht => ?_, fun h => ?_⟩
  · simp only [followLoops, ho, ht]
    rfl
  · simp only [followLoops, ho, ht]
    rfl
  · simp only [followLoops, ho, ht]
    rfl
  · unfold followLoops
    split
    next ho ht => rw [h.mp ho] at ht; cases ht
    next ho ht => rw [h.mp ho] at ht; cases ht
    next ho ht => rw [h.mpr ht] at ho; cases ho
    next => rfl

/-- The wait of R90 in RED_WARN: another failing set is noted, and none at all goes on or, under HELD, is pending. -/
theorem redWarn_waits (h : b.rsq.phase = .redWarn) :
    let c := roadAdvance b
    let stands := b.rsq.timer = .runOut ∧ b.rsq.wait ≠ .none
    (¬ stands ∨ b.rsq.wait = complementFailing b → c = b) ∧
      (stands → complementFailing b = .none → b.sil.held = false → c = enterPhase .entryLowering b) ∧
      (stands → complementFailing b = .none → b.sil.held = true →
        c = { b with rsq := { b.rsq with wait := .none, step := .enterEntryLowering } }) ∧
      (stands → complementFailing b ≠ .none → c = { b with rsq := { b.rsq with wait := complementFailing b } }) := by
  intro c stands
  have advance : c = if stands ∧ b.rsq.wait ≠ complementFailing b then testComplement b else b := roadAdvance_redWarn h
  have tested : stands → complementFailing b = .none → c = testComplement b := fun hs hc =>
    advance.trans (if_pos ⟨hs, by rw [hc]; exact hs.2⟩)
  refine ⟨fun hx => advance.trans (if_neg fun ⟨hs, hw⟩ => hx.elim (· hs) hw),
    fun hs hc hh => (tested hs hc).trans (testComplement_passes hc hh),
    fun hs hc hh => (tested hs hc).trans (testComplement_held hc hh), fun hs hc => ?_⟩
  by_cases hw : b.rsq.wait = complementFailing b
  · rw [advance, if_neg fun hx => hx.2 hw, ← hw]
  · rw [advance, if_pos ⟨hs, hw⟩, testComplement_fails hc]
    rfl

end

/-! ## The timers (R89, R90, R92) -/

section
variable {b : Blocks}

theorem amberExpiry_running {ms : Nat} (hp : b.rsq.phase = .amber) (ht : b.rsq.timer = .running ms) : amberExpiry b =
    if b.sil.held then setStep .enterRedWarn (setRoadTimer .runOut b) else enterRedWarn b := by
  simp only [amberExpiry, hp, ht]

theorem amberExpiry_rest (h : b.rsq.phase ≠ .amber ∨ ∀ ms, b.rsq.timer ≠ .running ms) : amberExpiry b = b := by
  unfold amberExpiry
  split
  next hp ht => exact absurd ht (h.elim (absurd hp) fun h => h _)
  next => rfl

theorem redWarnExpiry_running {ms : Nat} (hp : b.rsq.phase = .redWarn) (ht : b.rsq.timer = .running ms) :
    redWarnExpiry b = testComplement (setRoadTimer .runOut b) := by
  simp only [redWarnExpiry, hp, ht]

theorem redWarnExpiry_rest (h : b.rsq.phase ≠ .redWarn ∨ ∀ ms, b.rsq.timer ≠ .running ms) : redWarnExpiry b = b := by
  unfold redWarnExpiry
  split
  next hp ht => exact absurd ht (h.elim (absurd hp) fun h => h _)
  next => rfl

theorem clearanceExpiry_running {ms : Nat} (hp : b.rsq.phase = .clearance) (ht : b.rsq.clearance = .running ms) :
    clearanceExpiry b =
      if b.sil.held then setStep .enterExitLowering (setClearance .runOut b) else enterPhase .exitLowering b := by
  simp only [clearanceExpiry, hp, ht]

theorem clearanceExpiry_rest (h : b.rsq.phase ≠ .clearance ∨ ∀ ms, b.rsq.clearance ≠ .running ms) :
    clearanceExpiry b = b := by
  unfold clearanceExpiry
  split
  next hp ht => exact absurd ht (h.elim (absurd hp) fun h => h _)
  next => rfl

end

/-- Settles O47: each phase reads its own barriers, loops, losses or timer, and the phase that is entered gives the record. -/
theorem roadTimersMoveTheClosure : Obligations.RoadTimersMoveTheClosure := by
  refine ⟨fun b => ?byItself, fun s => ?timers⟩
  case byItself =>
    intro c occupied seatLost lockLost down up entries exits turned
    have loops : loopOccupied b = true ↔ occupied := loopOccupied_iff b
    have losses : lossStands b = true ↔ seatLost ∨ lockLost := lossStands_iff b
    refine ⟨fun h => ?entryLowering, fun h => ?clearance, fun h => ?exitLowering, fun h => ?exitRaising,
      fun h => ?entryRaising, losses, fun h => ?roadOpen, fun h => ?amber, ?complement, fun h => ?redWarn,
      roadAdvance_roadClosed, fun h => ?alert⟩
    case entryLowering =>
      have closed : entriesClosed b = true ↔ entries down := entriesClosed_iff b
      obtain ⟨enters, stays⟩ := cases_of_eq_ite (roadAdvance_entryLowering h)
      refine ⟨fun hd => ?_, fun hd => stays (mt closed.mp hd)⟩
      have rsq : c.rsq = _ := (congrArg Blocks.rsq (enters (closed.mpr hd))).trans (enterClearance_rsq b)
      rw [rsq]
      exact ⟨rfl, rfl, fun ho => if_pos (loops.mpr ho), fun ho => if_neg (mt loops.mp ho)⟩
    case clearance =>
      have follows : c = followLoops b := roadAdvance_clearance h
      obtain ⟨running, runOut, full, rest⟩ := followLoops_cases b
      rw [follows]
      exact ⟨fun ms ho => running (loops.mpr ho) ms, fun ho => runOut (loops.mpr ho),
        fun ho => full (Bool.eq_false_of_not_eq_true (mt loops.mp ho)), fun ho => rest (loops.trans ho)⟩
    case exitLowering =>
      have closed : barriersClosed b = true ↔ ∀ i, down i := barriersClosed_iff b
      obtain ⟨pauses, goes⟩ := cases_of_eq_ite (roadAdvance_exitLowering h)
      have unoccupied : ¬ occupied → _ := fun ho => cases_of_eq_ite (goes (mt loops.mp ho))
      refine ⟨fun ho => ?_, fun ho hd => ?_, fun ho hd => (unoccupied ho).2 (mt closed.mp hd)⟩
      · have paused : c = pauseExits b := pauses (loops.mpr ho)
        rw [paused, pauseExits_rsq, if_pos (loops.mpr ho)]
        refine ⟨rfl, rfl, rfl, fun i he => ⟨fun ms hs ht => ?_, fun hs => ?_⟩⟩
        · exact pauseExits_get he (by rw [barrierStop_travelling (.inl hs) ht, setBarrier_get]) rfl nofun
        · exact pauseExits_get he (by rw [barrierStop_standing (.inr (.inl hs)), setBarrier_get]) rfl (by rw [hs]; nofun)
      · have enters : c = enterPhase .roadClosed b := (unoccupied ho).1 (closed.mpr hd)
        rw [enters, enterPhase_rsq]
        exact ⟨rfl, rfl, fun i hl hf => enterPhase_called (c := .lower) rfl hl hf⟩
    case exitRaising =>
      have raised : barriersAre b false .up = true ↔ exits up := barriersAre_kind b false .up
      obtain ⟨goes, stays⟩ := cases_of_eq_ite (roadAdvance_exitRaising h)
      refine ⟨fun hu hh => ?_, fun hu hh => (cases_of_eq_ite (goes (raised.mpr hu))).1 hh, fun hu => stays (mt raised.mp hu)⟩
      have enters : c = enterPhase .entryRaising b := (cases_of_eq_ite (goes (raised.mpr hu))).2 (by simp [hh])
      refine ⟨by rw [enters, enterPhase_rsq]; rfl, fun i _ hi => ?_⟩
      exact (congrArg (·.barriers.get i) enters).trans (enterPhase_raises rfl rfl hh hi.1 (.inr hi.2))
    case entryRaising =>
      have raised : barriersAre b true .up = true ↔ entries up := barriersAre_kind b true .up
      obtain ⟨goes, stays⟩ := cases_of_eq_ite (roadAdvance_entryRaising h)
      refine ⟨fun hu => ?_, fun hu => stays (mt raised.mp hu)⟩
      have opens : c = enterRoadOpen b := goes (raised.mpr hu)
      obtain ⟨rsq, slu⟩ := enterRoadOpen_road b
      rw [opens, rsq, slu, enterRoadOpen_sil]
      exact ⟨rfl, rfl, rfl⟩
    case roadOpen =>
      obtain ⟨alerts, stays⟩ := cases_of_eq_ite (roadAdvance_roadOpen h)
      refine ⟨fun hl => ?_, fun hl => stays (by simp [hl])⟩
      have alert : c = note .road (enterAlert (alertCause b) b) := alerts hl
      obtain ⟨both, seat, lock, -⟩ := alertCause_cases b
      have bell := roadBell_alertCause b
      rw [alert]
      refine ⟨rfl, ?_, rfl, rfl, both, seat, fun hs => lock hs ((losses.mp hl).resolve_left hs),
        sameBut_join (enterAlert_sameBut _ b) (note_sameBut .road _) (by decide) (by decide)⟩
      simp only [note, enterAlert, showPhase, Rsq.enter, bell]
    case amber =>
      obtain ⟨warns, stays⟩ := cases_of_eq_ite (roadAdvance_amber h)
      refine ⟨fun hl => ?_, fun hl => stays (by simp [hl])⟩
      have rsq : c.rsq = _ := (congrArg Blocks.rsq (warns hl)).trans (enterRedWarn_rsq b)
      rw [rsq]
      exact ⟨rfl, rfl⟩
    case complement =>
      have each := complementFailing_cases b
      rwa [complementPasses_iff, complementPasses_iff] at each
    case redWarn =>
      intro stands
      obtain ⟨still, enters, held, waits⟩ := redWarn_waits h
      refine ⟨still, fun hs hc hh => ?_, held, waits⟩
      have lowering : c = enterPhase .entryLowering b := enters hs hc hh
      rw [lowering, enterPhase_rsq, enterPhase_slu]
      refine ⟨by simp [Rsq.enter, closureRunning, roadBell], rfl, fun i he hu hr => ?_, enterPhase_sameBut _ b⟩
      exact enterPhase_lowers (roadCall_entry he _) hh hu hr
    case alert =>
      obtain ⟨recovery, follows⟩ := cases_of_eq_ite (roadAdvance_alert h)
      refine ⟨recovery, fun hc => ?_⟩
      have cause : c = { b with rsq := { b.rsq with cause := alertCause b } } := follows hc
      rw [cause]
      exact ⟨rfl, alertCause_cases b⟩
  case timers =>
    intro b leads
    have amber : exec .amberExpiry s = .next (eventEnd s (amberExpiry b)) := rfl
    have redWarn : exec .redWarnExpiry s = .next (eventEnd s (redWarnExpiry b)) := rfl
    have clearance : exec .clearanceTimerExpiry s = .next (eventEnd s (clearanceExpiry b)) := rfl
    refine ⟨fun ms hp ht => ?amber, fun ms hp ht => ?redWarn, fun ms hp ht => ?clearance,
      fun h => by rw [amber, amberExpiry_rest h], fun h => by rw [redWarn, redWarnExpiry_rest h],
      fun h => by rw [clearance, clearanceExpiry_rest h]⟩
    case amber =>
      obtain ⟨pending, enters⟩ := cases_of_eq_ite (amberExpiry_running hp ht)
      refine ⟨fun hh => ⟨_, amber, ?_, amberExpiry_sameBut b⟩, fun hh => by rw [amber, pending hh]; rfl⟩
      beta_reduce
      rw [enters (by simp [hh]), enterRedWarn_rsq, enterRedWarn_slu]
      exact ⟨rfl, rfl, rfl, rfl, rfl⟩
    case redWarn =>
      have tested := redWarnExpiry_running hp ht
      refine ⟨fun hc hh => ⟨_, redWarn, ?_, redWarnExpiry_sameBut b⟩, fun hc hh => ?_, fun hc => ?_⟩
      · beta_reduce
        rw [tested, testComplement_passes (b := setRoadTimer .runOut b) hc hh, enterPhase_rsq]
        exact ⟨rfl, rfl, rfl, rfl, fun i he hu hr =>
          enterPhase_lowers (b := setRoadTimer .runOut b) (roadCall_entry he _) hh hu hr⟩
      · rw [redWarn, tested, testComplement_held (b := setRoadTimer .runOut b) hc hh]
        rfl
      · rw [redWarn, tested, testComplement_fails (b := setRoadTimer .runOut b) hc]
        rfl
    case clearance =>
      obtain ⟨pending, enters⟩ := cases_of_eq_ite (clearanceExpiry_running hp ht)
      refine ⟨fun hh => ⟨_, clearance, ?_, clearanceExpiry_sameBut b⟩, fun hh => by rw [clearance, pending hh]; rfl⟩
      beta_reduce
      rw [enters (by simp [hh]), enterPhase_rsq]
      exact ⟨rfl, rfl, rfl, fun i _ hu hr => enterPhase_lowers rfl hh hu hr⟩

end Sys2Proof.Proofs

/-! FAULT_CLEAR of a leaf, a lock and a barrier, with the sequence and the call that follow (R102, R106, R124, R153, R158). -/

namespace Sys2Proof.Proofs

open Sys2Proof.Machine Sys2Proof.Safety

/-! ## Subjects (section 12.6) -/

theorem lockOf_number (k : LockId) : lockOf (lockNumber k) = some k := by cases k <;> rfl

theorem barrierOf_number (i : BarrierId) : barrierOf (barrierNumber i) = some i := by cases i <;> rfl

theorem leafOf_none : ∀ {n : Nat}, 2 ≤ n → leafOf n = none
  | 0, h => absurd h (by decide)
  | 1, h => absurd h (by decide)
  | _ + 2, _ => rfl

theorem lockOf_none : ∀ {n : Nat}, 3 ≤ n → lockOf n = none
  | 0, h => absurd h (by decide)
  | 1, h => absurd h (by decide)
  | 2, h => absurd h (by decide)
  | _ + 3, _ => rfl

theorem barrierOf_none : ∀ {n : Nat}, 4 ≤ n → barrierOf n = none
  | 0, h => absurd h (by decide)
  | 1, h => absurd h (by decide)
  | 2, h => absurd h (by decide)
  | 3, h => absurd h (by decide)
  | _ + 4, _ => rfl

/-! ## FAULT_CLEAR on a quiet port (R2, R124, R158, R106) -/

section
variable {tag n : Octet} {s : State} {c : Blocks} {r : Result} (hq : QuietPort s)
  (hm : (atTaking s).sil.mode = .operate)
include hq hm

theorem exec_faultClearLeaf (h : faultClearLeaf n.toNat (atTaking s) = { blocks := c, result := r }) :
    exec (.faultClearLeaf tag n) s =
      .next (answered s { kind := 0x1A#8, tag := tag, body := [0#8, n] } c r) :=
  exec_answered rfl (Nat.le_of_ble_eq_true rfl) hq ((inMode_same hm).trans h)

theorem exec_faultClearLock (h : faultClearLock n.toNat (atTaking s) = { blocks := c, result := r }) :
    exec (.faultClearLock tag n) s =
      .next (answered s { kind := 0x1A#8, tag := tag, body := [1#8, n] } c r) :=
  exec_answered rfl (Nat.le_of_ble_eq_true rfl) hq ((inMode_same hm).trans h)

theorem exec_faultClearBarrier (h : faultClearBarrier n.toNat (atTaking s) = { blocks := c, result := r }) :
    exec (.faultClearBarrier tag n) s =
      .next (answered s { kind := 0x1A#8, tag := tag, body := [2#8, n] } c r) :=
  exec_answered rfl (Nat.le_of_ble_eq_true rfl) hq ((inMode_same hm).trans h)

end

/-! ## A leaf (R124) -/

section
variable {l : LeafId} {n : Nat} {b : Blocks}

theorem faultClearLeaf_notFound (hn : n = leafNumber l) (h : leafState b l ≠ .fault) :
    faultClearLeaf n b = refuse .notFound b := by
  simp only [faultClearLeaf, hn, leafOf_number, if_pos h]

theorem faultClearLeaf_refused (hn : n = leafNumber l) (h : leafState b l = .fault) {c : Cond}
    (hc : leafClearFails b l = some c) : faultClearLeaf n b = refuse (.notPermitted c) b := by
  simp only [faultClearLeaf, hn, leafOf_number, if_neg (not_not_intro h), hc]

theorem faultClearLeaf_accepted (hn : n = leafNumber l) (h : leafState b l = .fault)
    (hc : leafClearFails b l = none) : faultClearLeaf n b = accept (clearLeaf l b) := by
  simp only [faultClearLeaf, hn, leafOf_number, if_neg (not_not_intro h), hc]

theorem leafClearFails_driveNotReady (hk : LeafFault.driveNotReady ∈ (b.leaves.get l).flt.kinds)
    (hr : made b (.driveReady l) = false) : leafClearFails b l = some .driveNotReady := by
  simp [leafClearFails, hk, hr]

/-- With the drive's check passed, the other checks decide between LEAF_FAULT and acceptance. -/
theorem leafClearFails_ready
    (hd : LeafFault.driveNotReady ∉ (b.leaves.get l).flt.kinds ∨ made b (.driveReady l) = true) : leafClearFails b l =
      if (LeafFault.overtravel ∈ (b.leaves.get l).flt.kinds ∧ made b (.overtravel l) = true) ∨
        (b.leaves.get l).win.stationary ≠ some true ∨ (b.brakes.get l).state ≠ .set then some .leafFault else none := by
  have ready : ¬ ((b.leaves.get l).flt.kinds.contains .driveNotReady = true ∧ made b (.driveReady l) = false) := by
    rintro ⟨hk, hr⟩
    exact hd.elim (fun h => h (List.contains_iff_mem.mp hk)) fun h => by simp [h] at hr
  rw [leafClearFails, if_neg ready]
  simp only [List.contains_iff_mem]
  split_ifs <;> tauto

end

/-- A leaf that leaves FAULT: SEATED or PARKED as its input shows. -/
theorem clearLeaf_leaves (l : LeafId) (b : Blocks) :
    let c := clearLeaf l b
    (c.leaves.get l).flt.first = none ∧ (c.leaves.get l).flt.kinds = [] ∧
      leafState c l = (if made b (.seated l) then .seated else .parked) ∧
      (made b (.seated l) = false → (c.leaves.get l).mot.arrived = false) ∧
      (c.leaves.get l).pos = (b.leaves.get l).pos ∧
      c.leaves.get (otherLeaf l) = b.leaves.get (otherLeaf l) := by
  cases hs : made b (.seated l) <;> simp [clearLeaf, hs, leafState, PerLeaf.get_set_other _ _ _ _ (otherLeaf_ne l)]

/-! ## A lock, and the advance of its sequence (R153, R158) -/

/-- The record of a lock that leaves FAULT, by what its switches show. -/
def clearedLock (r : LockRec) : Proven → LockRec
  | .first => { r with fault := .none, state := .driven, timer := .idle }
  | .second => { r with fault := .none, state := .withdrawn, timer := .idle }
  | .between => { r with fault := .none, state := .interrupted, timer := .halted 0 }
  | .conflict => { r with fault := .none, state := .interrupted, timer := .halted 0 }

theorem clearLock_eq (k : LockId) (b : Blocks) :
    clearLock k b = setLock k (clearedLock (b.locks.get k) (lockShows b k)) b := by
  unfold clearLock
  cases lockShows b k <;> rfl

section
variable {k : LockId} {n : Nat} {b : Blocks} (hn : n = lockNumber k)
include hn

theorem faultClearLock_latched (hl : b.sil.latch = true) :
    faultClearLock n b = refuse (.notPermitted .estopLatched) b := by
  simp only [faultClearLock, hn, lockOf_number, if_pos hl]

variable (hl : b.sil.latch = false)
include hl

theorem faultClearLock_notFound (h : (b.locks.get k).state ≠ .fault) : faultClearLock n b = refuse .notFound b := by
  simp [faultClearLock, hn, lockOf_number, hl, h]

theorem faultClearLock_conflict (h : (b.locks.get k).state = .fault) (hs : lockShows b k = .conflict) :
    faultClearLock n b = refuse
      (.notPermitted (if (b.locks.get k).command = .withdraw then .locksNotWithdrawn else .locksNotDriven)) b := by
  simp [faultClearLock, hn, lockOf_number, hl, h, hs]

theorem faultClearLock_accepted (h : (b.locks.get k).state = .fault) (hs : lockShows b k ≠ .conflict) :
    faultClearLock n b = accept (advanceSequence (setLock k (clearedLock (b.locks.get k) (lockShows b k)) b)) := by
  simp [faultClearLock, hn, lockOf_number, hl, h, hs, clearLock_eq]

end

/-- Every lock that a step names stands at the target of its sequence. -/
def AtTarget (y : Blocks) (step : SeqStep) : Prop :=
  ∀ j : LockId, (step = .centre ↔ j = .centre) → (y.locks.get j).state = lockDone (sequenceCommand y.seq.sequence)

/-- From `y` to `c` the locks that a step names have been given the command of the sequence, but those in FAULT and those at
their target. -/
def StepCommanded (y : Blocks) (step : SeqStep) (c : Blocks) : Prop :=
  ∀ j : LockId, c.locks.get j =
    if (step = .centre ↔ j = .centre) ∧ (y.locks.get j).state ≠ .fault ∧
        (y.locks.get j).state ≠ lockDone (sequenceCommand y.seq.sequence)
    then (lockCommand j (sequenceCommand y.seq.sequence) y).locks.get j else y.locks.get j

theorem stepDone_atTarget {y : Blocks} (hs : y.seq.step ≠ .none) : stepDone y y.seq = true ↔ AtTarget y y.seq.step := by
  rw [stepDone_iff]
  exact forall_congr' fun j => by rw [mem_stepLocks hs]

theorem commandStep_commanded {y : Blocks} (hs : y.seq.step ≠ .none) : StepCommanded y y.seq.step (commandStep y) :=
  fun j => (commandStep_get y j).trans (if_congr (and_congr_left fun _ => mem_stepLocks hs j) rfl rfl)

/-- The advance of a RUNNING sequence: its first step is commanded until it is done, then its second, then it is COMPLETE
(R153). -/
theorem advance_by_steps {y : Blocks} (ha : advanceAllowed y = true) {first second : SeqStep}
    (hsec : secondStep y.seq.sequence = second) (hf : first ≠ .none) (hn : second ≠ .none) (hne : first ≠ second)
    (hstep : y.seq.step = first ∨ y.seq.step = second) :
    let c := advanceSequence y
    (y.seq.step = first → ¬ AtTarget y first → c.seq = y.seq ∧ StepCommanded y first c) ∧
    (y.seq.step = second ∨ AtTarget y first → ¬ AtTarget y second →
      c.seq = { y.seq with step := second } ∧ StepCommanded y second c) ∧
    (y.seq.step = second ∨ AtTarget y first → AtTarget y second →
      c.seq = { y.seq with step := second, status := .complete } ∧ c.locks = y.locks) := by
  intro c
  subst hsec
  have firstDone : y.seq.step = first → (stepDone y y.seq = true ↔ AtTarget y first) := fun h => by
    subst h
    exact stepDone_atTarget hf
  have secondDone : stepDone (atSecondStep y) (atSecondStep y).seq = true ↔ AtTarget y (secondStep y.seq.sequence) :=
    stepDone_atTarget (y := atSecondStep y) hn
  have moves : y.seq.step = secondStep y.seq.sequence ∨ AtTarget y first → c = advanceSecond (atSecondStep y) := fun h =>
    advance_second ha (hstep.symm.imp_right fun e =>
      (firstDone e).mpr (h.resolve_left fun h => hne (e.symm.trans h)))
  refine ⟨fun h hd => ?_, fun h hd => ?_, fun h hd => ?_⟩
  · have stays : c = commandStep y := advance_first ha (by rw [h]; exact hne) (mt (firstDone h).mp hd)
    rw [stays]
    exact ⟨commandStep_sameBut y .seq (by decide), h ▸ commandStep_commanded (h.trans_ne hf)⟩
  · have stays : c = commandStep (atSecondStep y) := by rw [moves h, advanceSecond, if_neg (mt secondDone.mp hd)]
    rw [stays]
    exact ⟨commandStep_sameBut (atSecondStep y) .seq (by decide), fun j =>
      (commandStep_commanded (y := atSecondStep y) hn j).trans (if_congr Iff.rfl (lockCommand_congr j _ rfl rfl) rfl)⟩
  · have ends : c = _ := (moves h).trans (if_pos (secondDone.mpr hd))
    rw [ends]
    exact ⟨rfl, rfl⟩

/-! ## A barrier (R102, R106) -/

theorem setBarrier_setBarrier (i : BarrierId) (r q : BarrierRec) (b : Blocks) :
    setBarrier i r (setBarrier i q b) = setBarrier i r b := by
  cases i <;> rfl

section
variable {i : BarrierId} {n : Nat} {b : Blocks} (hn : n = barrierNumber i)
include hn

theorem faultClearBarrier_latched (hl : b.sil.latch = true) :
    faultClearBarrier n b = refuse (.notPermitted .estopLatched) b := by
  simp only [faultClearBarrier, hn, barrierOf_number, if_pos hl]

variable (hl : b.sil.latch = false)
include hl

theorem faultClearBarrier_notFound (h : (b.barriers.get i).state ≠ .fault) :
    faultClearBarrier n b = refuse .notFound b := by
  simp [faultClearBarrier, hn, barrierOf_number, hl, h]

theorem faultClearBarrier_unproven (h : (b.barriers.get i).state = .fault)
    (hc : barrierFresh b i = false ∨ barrierShows b i = .conflict) :
    faultClearBarrier n b = refuse (.notPermitted .barrierNotProven) b := by
  have inconsistent : barrierConsistent b i = false := by rcases hc with hc | hc <;> simp [barrierConsistent, hc]
  simp [faultClearBarrier, hn, barrierOf_number, hl, h, inconsistent]

theorem faultClearBarrier_accepted (h : (b.barriers.get i).state = .fault)
    (hc : barrierFresh b i = true ∧ barrierShows b i ≠ .conflict) :
    faultClearBarrier n b = accept (clearBarrier i b) := by
  simp [faultClearBarrier, hn, barrierOf_number, hl, h, (barrierConsistent_iff b i).mpr hc]

end

section
variable {i : BarrierId} {b : Blocks}

theorem clearBarrier_stops (h : b.sil.held = true ∨
    (roadCall b.rsq.phase b.rsq.exitPaused i).getD (b.barriers.get i).command = .stop) :
    clearBarrier i b = barrierClearStop i b := if_pos h

/-- A cleared barrier takes a call to LOWER or RAISE as a new command. -/
theorem clearBarrier_moves (hh : b.sil.held = false) {c : BarrierCmd}
    (hcall : (roadCall b.rsq.phase b.rsq.exitPaused i).getD (b.barriers.get i).command = c) {x : Proven}
    (hx : barrierTarget c = some x) (h : (b.barriers.get i).state = .fault)
    (hc : barrierFresh b i = true ∧ barrierShows b i ≠ .conflict) :
    clearBarrier i b = setBarrier i (if barrierShows b i = x then
      { command := c, state := barrierDone c, timer := .idle, fault := .none }
      else { command := c, state := barrierTravel c, timer := .running 0, fault := .none }) b := by
  have moves : c ≠ .stop := by rintro rfl; cases hx
  have commanded : ∀ y, barrierCommand i c y = barrierMove i c y := fun y => by
    cases c with
    | stop => exact absurd rfl moves
    | lower => rfl
    | raise => rfl
  have fault : ((setBarrier i { b.barriers.get i with fault := .none } b).barriers.get i).state = .fault := by
    rw [setBarrier_get, h]
  rw [clearBarrier, hcall, if_neg (not_or.mpr ⟨by simp [hh], moves⟩), commanded, barrierMove_consistent fault hc hx,
    setBarrier_setBarrier]
  rfl

end

/-- Settles O33: the checks of a subject name the first that fails; a cleared lock lets its sequence advance, and a cleared
barrier takes the call of the road. -/
theorem faultClearLeavesFault : Obligations.FaultClearLeavesFault := by
  intro tag s hq b f hm
  refine ⟨fun l n hn => ?leaf, fun k n hn => ?lock, fun i n hn => ?barrier, fun n => ⟨fun h => ?_, fun h => ?_, fun h => ?_⟩⟩
  case leaf =>
    refine ⟨fun h => ?_, fun h hd ho hw hs => ?_, fun h hk hr => ?_, fun h hd hx => ?_⟩
    · exact exec_faultClearLeaf hq hm (faultClearLeaf_notFound hn h)
    · have passes : leafClearFails b l = none := by
        rw [leafClearFails_ready hd, if_neg]
        rintro (⟨hk, hx⟩ | hx | hx)
        · exact ho.elim (· hk) fun h => by simp [h] at hx
        · exact hx hw
        · exact hx hs
      obtain ⟨first, kinds, state, arrived, pos, other⟩ := clearLeaf_leaves l b
      exact ⟨clearLeaf l b, exec_faultClearLeaf hq hm (faultClearLeaf_accepted hn h passes), first, kinds, state, arrived,
        pos, other, clearLeaf_sameBut l b⟩
    · exact exec_faultClearLeaf hq hm (faultClearLeaf_refused hn h (leafClearFails_driveNotReady hk hr))
    · exact exec_faultClearLeaf hq hm
        (faultClearLeaf_refused hn h ((leafClearFails_ready hd).trans (if_pos hx)))
  case lock =>
    refine ⟨fun hl => exec_faultClearLock hq hm (faultClearLock_latched hn hl),
      fun hl h => exec_faultClearLock hq hm (faultClearLock_notFound hn hl h),
      fun hl h hs => exec_faultClearLock hq hm (faultClearLock_conflict hn hl h hs), fun hl h hs => ?_⟩
    intro cleared advances
    have same : cleared = clearedLock (b.locks.get k) (lockShows b k) := by
      simp only [cleared]
      cases lockShows b k <;> rfl
    have answer := exec_faultClearLock (tag := tag) hq hm (faultClearLock_accepted hn hl h hs)
    rw [← same] at answer
    have allowed : advanceAllowed (setLock k cleared b) = true ↔ advances := by
      rw [advanceAllowed_iff, bothSeated_iff]
      exact ⟨fun ⟨hr, hh, _, hx⟩ => ⟨hr, hh, hx⟩, fun ⟨hr, hh, hx⟩ => ⟨hr, hh, hl, hx⟩⟩
    refine ⟨fun ha => answer.trans (by rw [advanceSequence, if_neg (mt allowed.mp ha)]), ?_⟩
    intro x target first second named ha hstep now doneIn
    obtain ⟨rfl, rfl, hsec, hfirst, hsecond, hne⟩ : x = sequenceCommand b.seq.sequence ∧ target = lockDone x ∧
        secondStep b.seq.sequence = second ∧ first ≠ .none ∧ second ≠ .none ∧ first ≠ second := by
      rcases named with ⟨hx, rfl, rfl, rfl, rfl⟩ | ⟨hx, rfl, rfl, rfl, rfl⟩ <;> rw [hx] <;> decide
    have locks : ∀ j, (setLock k cleared b).locks.get j = now j := fun j => by
      by_cases hj : j = k
      · rw [hj, setLock_get]
        exact (if_pos rfl).symm
      · rw [setLock_get_other k cleared b hj]
        exact (if_neg hj).symm
    have done : ∀ step, AtTarget (setLock k cleared b) step ↔ doneIn step := fun step =>
      forall_congr' fun j => by rw [locks]; rfl
    have same : SameBut [.locks, .seq] b (advanceSequence (setLock k cleared b)) :=
      sameBut_join (setLock_sameBut k cleared b) (advanceSequence_sameBut _) (by decide) (by decide)
    obtain ⟨one, two, complete⟩ := advance_by_steps (y := setLock k cleared b) (allowed.mpr ha) hsec hfirst hsecond
      hne hstep
    refine ⟨_, answer, ?_⟩
    intro commanded
    have given : ∀ step, StepCommanded (setLock k cleared b) step (advanceSequence (setLock k cleared b)) →
        commanded step := fun step hc j => by
      rw [hc j, locks]
      exact if_congr Iff.rfl (lockCommand_congr j _ rfl (by rw [locks, setLock_get])) rfl
    refine ⟨fun hx hd => ?_, fun hx hd => ?_, fun hx hd => ?_, same⟩
    · exact (one hx (mt (done first).mp hd)).imp_right (given first)
    · exact (two (hx.imp_right (done first).mpr) (mt (done second).mp hd)).imp_right (given second)
    · exact (complete (hx.imp_right (done first).mpr) ((done second).mpr hd)).imp_right fun e j => by rw [e, locks]
  case barrier =>
    refine ⟨fun hl => exec_faultClearBarrier hq hm (faultClearBarrier_latched hn hl),
      fun hl h => exec_faultClearBarrier hq hm (faultClearBarrier_notFound hn hl h),
      fun hl h hc => exec_faultClearBarrier hq hm (faultClearBarrier_unproven hn hl h hc), fun hl h hf hs => ?_⟩
    intro call becomes
    have answer := exec_faultClearBarrier (tag := tag) hq hm (faultClearBarrier_accepted hn hl h ⟨hf, hs⟩)
    refine ⟨fun hc => answer.trans ?_, fun hh hc => answer.trans ?_, fun hh hc => answer.trans ?_⟩
    · rw [clearBarrier_stops hc, barrierClearStop]
      cases barrierShows b i <;> rfl
    · rw [clearBarrier_moves hh hc rfl h ⟨hf, hs⟩]
      rfl
    · rw [clearBarrier_moves hh hc rfl h ⟨hf, hs⟩]
      rfl
  · exact exec_faultClearLeaf hq hm (by rw [faultClearLeaf, leafOf_none h]; rfl)
  · exact exec_faultClearLock hq hm (by rw [faultClearLock, lockOf_none h]; rfl)
  · exact exec_faultClearBarrier hq hm (by rw [faultClearBarrier, barrierOf_none h]; rfl)

end Sys2Proof.Proofs

/-! Findings made one after the other, and what they leave of the leaves (R117). -/

namespace Sys2Proof.Proofs

open Sys2Proof.Machine Sys2Proof.Safety

/-! ## The records of both leaves after one finding -/

@[simp] theorem perLeaf_get_set_otherLeaf {α : Type} (r : PerLeaf α) (l : LeafId) (a : α) :
    (r.set l a).get (otherLeaf l) = r.get (otherLeaf l) := PerLeaf.get_set_other r l _ a (otherLeaf_ne l)

/-- The record of the leaf of a finding: a leaf in FAULT adds the kind, and another one enters FAULT by it. -/
def withFinding (k : LeafFault) (r : LeafRec) : LeafRec :=
  if r.mot.state = .fault then
    { r with flt := { r.flt with kinds := if k ∈ r.flt.kinds then r.flt.kinds else r.flt.kinds ++ [k] } }
  else faultedLeaf k r

theorem withFinding_faulted {k : LeafFault} {r : LeafRec} (h : r.mot.state = .fault) : withFinding k r =
    { r with flt := { r.flt with kinds := if k ∈ r.flt.kinds then r.flt.kinds else r.flt.kinds ++ [k] } } := if_pos h

theorem withFinding_sound {k : LeafFault} {r : LeafRec} (h : r.mot.state ≠ .fault) : withFinding k r = faultedLeaf k r :=
  if_neg h

@[simp] theorem withFinding_state (k : LeafFault) (r : LeafRec) : (withFinding k r).mot.state = .fault := by
  unfold withFinding
  split
  · assumption
  · rfl

@[simp] theorem withFinding_pos (k : LeafFault) (r : LeafRec) : (withFinding k r).pos = r.pos := by
  unfold withFinding
  split <;> rfl

@[simp] theorem withFinding_wrongDir (k : LeafFault) (r : LeafRec) : (withFinding k r).flt.wrongDir = r.flt.wrongDir := by
  unfold withFinding
  split <;> rfl

@[simp] theorem withFinding_lastUpdate (k : LeafFault) (r : LeafRec) :
    (withFinding k r).mot.lastUpdate = r.mot.lastUpdate := by
  unfold withFinding
  split <;> rfl

/-- A finding starts a speed window on a SEATED leaf alone (R114). -/
theorem withFinding_win {k : LeafFault} {r : LeafRec} (h : r.mot.state ≠ .seated) : (withFinding k r).win = r.win := by
  unfold withFinding
  split
  · rfl
  · exact if_neg h

theorem withFinding_window (k : LeafFault) (r : LeafRec) :
    (withFinding k r).win = r.win ∨ (withFinding k r).win = r.win.start := by
  by_cases h : r.mot.state = .seated
  · exact .inr ((congrArg LeafRec.win (withFinding_sound (by rw [h]; nofun))).trans (if_pos h))
  · exact .inl (withFinding_win h)

theorem mem_withFinding_kinds (k : LeafFault) (r : LeafRec) : k ∈ (withFinding k r).flt.kinds := by
  unfold withFinding
  split
  · dsimp only
    split <;> simp [*]
  · exact List.mem_singleton_self k

theorem mem_kinds_of_withFinding {k x : LeafFault} {r : LeafRec} (h : x ∈ (withFinding k r).flt.kinds) :
    x ∈ r.flt.kinds ∨ x = k := by
  unfold withFinding at h
  split at h
  · dsimp only at h
    split at h
    · exact .inl h
    · simpa using h
  · exact .inr (List.mem_singleton.mp h)

theorem mem_withFinding_of_mem {k x : LeafFault} {r : LeafRec} (hf : r.mot.state = .fault) (h : x ∈ r.flt.kinds) :
    x ∈ (withFinding k r).flt.kinds := by
  rw [withFinding_faulted hf]
  dsimp only
  split <;> simp [h]

@[simp] theorem stopped_lastUpdate (m : MotionRec) : (stopped m).lastUpdate = m.lastUpdate := by
  unfold stopped
  split <;> rfl

section
variable {b : Blocks} {l j : LeafId} {k : LeafFault}

theorem leafFault_at (hm : b.sil.mode = .operate) :
    (leafFault l k b).leaves.get l = withFinding k (b.leaves.get l) := by
  by_cases hf : (b.leaves.get l).mot.state = .fault
  · rw [withFinding_faulted hf, leafFault_leaf_faulted hm hf]
    split
    · rfl
    · exact PerLeaf.get_set_same _ _ _
  · rw [withFinding_sound hf, leafFault_get hm hf]

/-- What holds of a leaf's record holds after a finding, if the finding keeps it on its own leaf and a stop on the other. -/
theorem leafFault_keeps {P : LeafRec → Prop} (found : j = l → ∀ r, P r → P (withFinding k r))
    (beside : ∀ r : LeafRec, P r → P { r with mot := stopped r.mot }) (h : P (b.leaves.get j)) :
    P ((leafFault l k b).leaves.get j) := by
  by_cases hm : b.sil.mode = .operate
  · rcases leaf_eq_or_other l j with rfl | rfl
    · rw [leafFault_at hm]
      exact found rfl _ h
    · by_cases hf : (b.leaves.get l).mot.state = .fault
      · rw [leafFault_leaf_faulted hm hf]
        split
        · exact h
        · rwa [setFlt_leaves, perLeaf_get_set_otherLeaf]
      · rw [leafFault_get_other hm hf]
        exact beside _ h
  · rwa [leafFault_outside l k b hm]

/-- A finding on a leaf in FAULT leaves the brakes alone (R117). -/
theorem leafFault_brakes_faulted (hf : leafState b l = .fault) : (leafFault l k b).brakes = b.brakes := by
  by_cases hm : b.sil.mode = .operate
  · rw [leafFault_leaf_faulted hm hf]
    split <;> rfl
  · rw [leafFault_outside l k b hm]

end

theorem brakeSetRequest_leaves (l : LeafId) (b : Blocks) : (brakeSetRequest l b).leaves = b.leaves :=
  brakeSetRequest_sameBut l b .leaves (by decide)

/-- A RELEASED brake starts to set (R148). -/
theorem brakeSetRequest_released {l : LeafId} {b : Blocks} (h : (b.brakes.get l).state = .released) :
    (brakeSetRequest l b).brakes.get l =
      { b.brakes.get l with command := .set, state := .setting, timer := some b.par.brakeProveMs } := by
  rw [brakeSetRequest]
  simp only [h]
  exact setBrake_get l _ b

/-- A finding made in `x` is one from `a` where both agree in what it is read from. -/
theorem faultFound_of_same {k : LeafFault} {l : LeafId} {a x c : Blocks} (h : FaultFound k l x c)
    (hs : leafState x l = leafState a l) (hf : (x.leaves.get l).flt.first = (a.leaves.get l).flt.first)
    (hk : (x.leaves.get l).flt.kinds = (a.leaves.get l).flt.kinds) (hb : x.brakes.get l = a.brakes.get l)
    (hp : x.par = a.par) (ho : x.leaves.get (otherLeaf l) = a.leaves.get (otherLeaf l)) : FaultFound k l a c := by
  unfold FaultFound at *
  rwa [hs, hf, hk, hb, hp, ho] at h

/-! ## Findings in a row -/

/-- Findings made one after the other, each on its leaf. -/
def findings (fs : List (LeafId × LeafFault)) (b : Blocks) : Blocks := fs.foldl (fun x f => leafFault f.1 f.2 x) b

@[simp] theorem findings_nil (b : Blocks) : findings [] b = b := rfl

@[simp] theorem findings_cons (f : LeafId × LeafFault) (fs : List (LeafId × LeafFault)) (b : Blocks) :
    findings (f :: fs) b = findings fs (leafFault f.1 f.2 b) := rfl

theorem findings_append (fs gs : List (LeafId × LeafFault)) (b : Blocks) :
    findings (fs ++ gs) b = findings gs (findings fs b) := List.foldl_append ..

/-- The list of one finding where its test failed. -/
def findingsIf (p : Bool) (l : LeafId) (k : LeafFault) : List (LeafId × LeafFault) := if p then [(l, k)] else []

theorem mem_findingsIf {p : Bool} {l j : LeafId} {k x : LeafFault} :
    (j, x) ∈ findingsIf p l k ↔ p = true ∧ j = l ∧ x = k := by
  cases p <;> simp [findingsIf]

theorem findings_findingsIf (p : Bool) (l : LeafId) (k : LeafFault) (b : Blocks) :
    findings (findingsIf p l k) b = if p then leafFault l k b else b := by cases p <;> rfl

theorem findings_sameBut (fs : List (LeafId × LeafFault)) (b : Blocks) : SameBut [.leaves, .brakes] b (findings fs b) :=
  sameBut_foldl (fun (x : Blocks) (f : LeafId × LeafFault) => leafFault f.1 f.2 x)
    (fun x f => leafFault_sameBut f.1 f.2 x) fs b

theorem findings_outside {b : Blocks} (hm : b.sil.mode ≠ .operate) :
    ∀ fs : List (LeafId × LeafFault), findings fs b = b
  | [] => rfl
  | f :: fs => by rw [findings_cons, leafFault_outside _ _ b hm, findings_outside hm fs]

/-- A property of a leaf's record that every finding on it and every stop keeps. -/
theorem findings_keeps {P : LeafRec → Prop} {j : LeafId} {fs : List (LeafId × LeafFault)} {b : Blocks}
    (found : ∀ k, (j, k) ∈ fs → ∀ r, P r → P (withFinding k r))
    (beside : ∀ r : LeafRec, P r → P { r with mot := stopped r.mot }) (h : P (b.leaves.get j)) :
    P ((findings fs b).leaves.get j) := by
  induction fs generalizing b with
  | nil => exact h
  | cons f fs ih =>
    rw [findings_cons]
    refine ih (fun k hk => found k (List.mem_cons_of_mem f hk)) (leafFault_keeps (fun e => ?_) beside h)
    exact found f.2 (by rw [e]; exact List.mem_cons_self)

section
variable {fs : List (LeafId × LeafFault)} {b : Blocks} {j : LeafId} {k : LeafFault}

theorem findings_pos : ((findings fs b).leaves.get j).pos = (b.leaves.get j).pos :=
  findings_keeps (P := fun r => r.pos = (b.leaves.get j).pos) (fun k _ r h => (withFinding_pos k r).trans h)
    (fun _ h => h) rfl

theorem findings_wrongDir : ((findings fs b).leaves.get j).flt.wrongDir = (b.leaves.get j).flt.wrongDir :=
  findings_keeps (P := fun r => r.flt.wrongDir = (b.leaves.get j).flt.wrongDir)
    (fun k _ r h => (withFinding_wrongDir k r).trans h) (fun _ h => h) rfl

theorem findings_lastUpdate : ((findings fs b).leaves.get j).mot.lastUpdate = (b.leaves.get j).mot.lastUpdate :=
  findings_keeps (P := fun r => r.mot.lastUpdate = (b.leaves.get j).mot.lastUpdate)
    (fun k _ r h => (withFinding_lastUpdate k r).trans h) (fun r h => (stopped_lastUpdate r.mot).trans h) rfl

/-- The window of a leaf stands where no finding is made on it while it is SEATED. -/
theorem findings_win (h : (∃ k, (j, k) ∈ fs) → leafState b j ≠ .seated) :
    ((findings fs b).leaves.get j).win = (b.leaves.get j).win := by
  by_cases hj : leafState b j = .seated
  · exact findings_keeps (P := fun r => r.win = (b.leaves.get j).win) (fun k hk _ _ => absurd hj (h ⟨k, hk⟩))
      (fun _ e => e) rfl
  · refine (findings_keeps (P := fun r => r.mot.state ≠ .seated ∧ r.win = (b.leaves.get j).win) ?_ ?_ ⟨hj, rfl⟩).2
    · exact fun k _ r hr => ⟨by simp, (withFinding_win hr.1).trans hr.2⟩
    · exact fun r hr => ⟨mt (stopped_seated r.mot).mp hr.1, hr.2⟩

/-- A leaf without a finding keeps its fault record. -/
theorem findings_flt (h : ∀ k, (j, k) ∉ fs) : ((findings fs b).leaves.get j).flt = (b.leaves.get j).flt :=
  findings_keeps (P := fun r => r.flt = (b.leaves.get j).flt) (fun k hk => absurd hk (h k)) (fun _ e => e) rfl

theorem findings_not_moving (h : leafState b j ≠ .moving) : leafState (findings fs b) j ≠ .moving :=
  findings_keeps (P := fun r => r.mot.state ≠ .moving) (fun _ _ _ _ => by simp)
    (fun r _ => stopped_not_moving r.mot) h

/-- A leaf's kinds grow by its findings alone. -/
theorem mem_kinds_of_findings (h : k ∈ ((findings fs b).leaves.get j).flt.kinds) :
    k ∈ (b.leaves.get j).flt.kinds ∨ (j, k) ∈ fs := by
  refine findings_keeps (P := fun r => k ∈ r.flt.kinds → k ∈ (b.leaves.get j).flt.kinds ∨ (j, k) ∈ fs) ?_
    (fun _ h => h) .inl h
  intro x hx r hr hk
  rcases mem_kinds_of_withFinding hk with hk | rfl
  · exact hr hk
  · exact .inr hx

/-- In OPERATE every finding of the row is in the kinds of its leaf at the end, and the leaf in FAULT. -/
theorem findings_made (hm : b.sil.mode = .operate) (h : (j, k) ∈ fs) :
    leafState (findings fs b) j = .fault ∧ k ∈ ((findings fs b).leaves.get j).flt.kinds := by
  obtain ⟨before, after, rfl⟩ := List.append_of_mem h
  have mode : (findings before b).sil.mode = .operate := by
    rw [show (findings before b).sil = b.sil from findings_sameBut before b .sil (by decide)]
    exact hm
  rw [findings_append, findings_cons]
  refine findings_keeps (P := fun r => r.mot.state = .fault ∧ k ∈ r.flt.kinds) ?_ ?_ ?_
  · exact fun x _ r hr => ⟨withFinding_state x r, mem_withFinding_of_mem hr.1 hr.2⟩
  · exact fun r hr => ⟨(stopped_fault r.mot).mpr hr.1, hr.2⟩
  · rw [leafFault_at mode]
    exact ⟨withFinding_state k _, mem_withFinding_kinds k _⟩

/-- The first kind of a leaf that is not in FAULT is that of its findings, where they are of one kind; its stall timer is IDLE
and its command 0. -/
theorem findings_stilled (hm : b.sil.mode = .operate) (h : (j, k) ∈ fs) (hj : leafState b j ≠ .fault) :
    ((findings fs b).leaves.get j).flt.stall = none ∧ ((findings fs b).leaves.get j).mot.command = 0 ∧
      ((∀ x, (j, x) ∈ fs → x = k) → ((findings fs b).leaves.get j).flt.first = some k) := by
  refine findings_keeps (P := fun r => r.mot.state = .fault → r.flt.stall = none ∧ r.mot.command = 0 ∧
    ((∀ x, (j, x) ∈ fs → x = k) → r.flt.first = some k)) ?_ ?_ (fun e => absurd e hj) (findings_made hm h).1
  · intro x hx r hr _
    by_cases hf : r.mot.state = .fault
    · rw [withFinding_faulted hf]
      exact hr hf
    · rw [withFinding_sound hf]
      exact ⟨rfl, rfl, fun one => congrArg some (one x hx)⟩
  · intro r hr hf
    have faulted : r.mot.state = .fault := (stopped_fault r.mot).mp hf
    rw [show stopped r.mot = r.mot by rw [stopped, faulted]]
    exact hr faulted

end

/-- Findings on a leaf in FAULT leave the brakes alone. -/
theorem findings_brakes_faulted {l : LeafId} {fs : List (LeafId × LeafFault)} {b : Blocks} (hl : ∀ f ∈ fs, f.1 = l)
    (hf : leafState b l = .fault) : (findings fs b).brakes = b.brakes := by
  induction fs generalizing b with
  | nil => rfl
  | cons f fs ih =>
    have here : f.1 = l := hl f List.mem_cons_self
    rw [findings_cons, ih (fun g hg => hl g (List.mem_cons_of_mem f hg))]
    · exact leafFault_brakes_faulted (by rw [here]; exact hf)
    · exact leafFault_keeps (P := fun r => r.mot.state = .fault) (fun _ r _ => withFinding_state _ r)
        (fun r h => (stopped_fault r.mot).mpr h) hf

/-- The finding SKEW on each leaf that was in motion is a row of findings (R142). -/
theorem skewFinding_findings (judged : Blocks) (failed : Bool) (b : Blocks) : skewFinding judged failed b =
    findings (findingsIf (failed && leafInMotion judged .north) .north .skew ++
      findingsIf (failed && leafInMotion judged .south) .south .skew) b := by
  rw [findings_append, findings_findingsIf, findings_findingsIf]
  rfl

theorem mem_skewFindings {p : LeafId → Bool} {j : LeafId} {x : LeafFault} :
    (j, x) ∈ findingsIf (p .north) .north .skew ++ findingsIf (p .south) .south .skew ↔ p j = true ∧ x = .skew := by
  rw [List.mem_append, mem_findingsIf, mem_findingsIf]
  cases j <;> simp

end Sys2Proof.Proofs

/-! The profile: its start, its updates and the arrivals of a raise (R129, R131, R133, R135 to R143). -/

namespace Sys2Proof.Proofs

open Sys2Proof.Machine Sys2Proof.Safety

/-! ## The arrival of a raise (R131) -/

theorem raiseArrival_iff (b : Blocks) (l : LeafId) : raiseArrival b l = true ↔
    ((b.leaves.get l).mot.rule = .byTarget ∧
      (b.leaves.get l).mot.targetCounts.getD 0 ≤ (b.leaves.get l).pos.position) ∨
    (((b.leaves.get l).mot.rule = .byTarget ∨ (b.leaves.get l).mot.rule = .openLimitOnly) ∧
      made b (.openLimit l) = true) := by
  unfold raiseArrival
  cases h : (b.leaves.get l).mot.rule <;> simp [h]

/-! ## The start of the profile (R129, R133) -/

theorem leafReady_iff (b : Blocks) (l : LeafId) : leafReady b l = true ↔
    ((b.leaves.get l).mot.takingPart = true →
      (b.leaves.get l).mot.arrivalReached = true ∨ (b.brakes.get l).state = .released) := by
  simp only [leafReady, Bool.or_eq_true, Bool.not_eq_true', beq_iff_eq, or_assoc]
  rw [imp_iff_not_or, Bool.not_eq_true]

/-- The profile is to start: a leaf is RELEASING and the movement is ready. -/
def profileReady (b : Blocks) : Prop :=
  (∃ l : LeafId, leafState b l = .releasing) ∧
    ∀ l : LeafId, (b.leaves.get l).mot.takingPart = true →
      (b.leaves.get l).mot.arrivalReached = true ∨ (b.brakes.get l).state = .released

/-- The start fails for skew. -/
def startSkewed (b : Blocks) : Prop :=
  (∃ l : LeafId, leafState b l = .releasing ∧ ((b.leaves.get l).mot.kind = .raise ∨ (b.leaves.get l).mot.kind = .lower)) ∧
    (∀ l : LeafId, (b.leaves.get l).pos.certain = true) ∧
    b.par.skewLimitCd ≤ (leafAngle b .north - leafAngle b .south).natAbs

/-- The findings of a start that fails for skew: one on each RELEASING leaf. -/
def startFindings (b : Blocks) : List (LeafId × LeafFault) :=
  findingsIf (leafState b .north == .releasing) .north .skew ++ findingsIf (leafState b .south == .releasing) .south .skew

theorem mem_startFindings {b : Blocks} {l : LeafId} {k : LeafFault} :
    (l, k) ∈ startFindings b ↔ leafState b l = .releasing ∧ k = .skew := by
  rw [startFindings, mem_skewFindings (p := fun l => leafState b l == .releasing), beq_iff_eq]

theorem profileReady_iff (b : Blocks) :
    (anyLeaf (fun l => leafState b l == .releasing) && movementReady b) = true ↔ profileReady b := by
  simp only [Bool.and_eq_true, anyLeaf_iff, beq_iff_eq, movementReady, bothLeaves_iff, leafReady_iff, profileReady]

theorem profileStart_waits {b : Blocks} (h : ¬ profileReady b) : profileStart b = b :=
  if_neg (mt (profileReady_iff b).mp h)

/-- What the start of the profile does where the movement is ready. -/
theorem profileStart_ready {b : Blocks} (h : profileReady b) :
    (startSkewed b → profileStart b = findings (startFindings b) b) ∧
    (¬ startSkewed b → profileStart b = firstUpdate (leafState b .south) .south
      (firstUpdate (leafState b .north) .north (enterMoving .south (enterMoving .north b)))) := by
  have skewed : ((anyLeaf fun l => leafState b l == .releasing &&
        ((b.leaves.get l).mot.kind == .raise || (b.leaves.get l).mot.kind == .lower)) &&
      (bothLeaves fun l => (b.leaves.get l).pos.certain) && decide (b.par.skewLimitCd ≤ angleDifference b)) = true ↔
        startSkewed b := by
    simp only [Bool.and_eq_true, Bool.or_eq_true, anyLeaf_iff, beq_iff_eq, bothLeaves_iff, decide_eq_true_eq, and_assoc]
    rfl
  rw [profileStart, if_pos ((profileReady_iff b).mpr h)]
  refine ⟨fun hs => (if_pos (skewed.mpr hs)).trans ?_, fun hs => if_neg (mt skewed.mp hs)⟩
  rw [startFindings, findings_append, findings_findingsIf, findings_findingsIf]
  simp only [beq_iff_eq]

/-- A leaf's record as the profile starts: a RELEASING leaf is MOVING from command 0. -/
def profileBegun (r : LeafRec) : LeafRec :=
  if r.mot.state = .releasing then { r with mot := { r.mot with state := .moving, command := 0, updateTimer := some 10 } }
  else r

theorem enterMoving_eq (l : LeafId) (b : Blocks) : enterMoving l b = setLeaf l (profileBegun (b.leaves.get l)) b := by
  unfold profileBegun
  split
  next h => exact if_pos h
  next h => exact (if_neg h).trans (setLeaf_self l b).symm

theorem enterMoving_both (b : Blocks) : enterMoving .south (enterMoving .north b) =
    { b with leaves := ⟨profileBegun b.leaves.north, profileBegun b.leaves.south⟩ } := by
  rw [enterMoving_eq, enterMoving_eq]
  rfl

/-! ## One update (R135 to R141) -/

theorem exec_profileUpdate (l : LeafId) (s : State) :
    exec (.profileUpdate l) s = .next (eventEnd s (leafUpdate l s.blocks)) := rfl

theorem zoneByDistance_eq (p : Params) (d : Int) : zoneByDistance p d =
    if d ≤ p.creepZone then p.vCreep
    else if (p.creepZone + p.slowZone : Int) ≤ d then p.vCruise
    else p.vCreep + (p.vCruise - p.vCreep) * (d.toNat - p.creepZone) / p.slowZone := by
  unfold zoneByDistance
  push_cast
  split
  · rfl
  · split
    next h => rw [if_neg (not_le.mpr h)]
    next h => rw [if_pos (not_lt.mp h)]

theorem creepsAlways_iff (r : LeafRec) : creepsAlways r = true ↔ r.pos.certain = false ∨ r.mot.kind = .recoveryLower ∨
    r.mot.rule = .openLimitOnly ∨ r.mot.rule = .seatOnly := by
  simp [creepsAlways, or_assoc]

theorem shownLead_of_kind {b : Blocks} {l : LeafId} (h : (b.leaves.get l).mot.kind ≠ .recoveryLower) :
    shownLead b l = BitVec.ofInt 24 (lead b l) := if_neg h

/-- Where the trim applies both leaves are MOVING. -/
theorem moving_of_trimApplies {b : Blocks} (h : trimApplies b = true) (l : LeafId) : leafState b l = .moving := by
  simp only [trimApplies, Bool.and_eq_true, bothLeaves_iff, beq_iff_eq] at h
  exact h.1.1 l

/-- The record of an update of a MOVING leaf. -/
def updateRecord (l : LeafId) (t : Bool) (b : Blocks) : UpdateRec where
  distance := distance (b.leaves.get l)
  zone := zoneLimit b.par (b.leaves.get l)
  cap := windCap b
  lead := shownLead b l
  trimmed := t

/-- The blocks once an update has shown itself, before it acts. -/
def updateShown (l : LeafId) (t : Bool) (b : Blocks) : Blocks :=
  setMot l { (b.leaves.get l).mot with updateTimer := some 10, lastUpdate := some (updateRecord l t b) } b

section
variable {l : LeafId} {b : Blocks}

theorem updateShown_moving (h : trimApplies b = true) (k : LeafId) {t : Bool} :
    leafState (updateShown l t b) k = .moving := by
  rcases leaf_eq_or_other l k with rfl | rfl
  · simpa [updateShown, leafState] using moving_of_trimApplies h k
  · simpa [updateShown, leafState] using moving_of_trimApplies h (otherLeaf l)

theorem leafUpdate_moving (h : leafState b l = .moving) : leafUpdate l b = movingUpdate l b := by rw [leafUpdate, h]

theorem leafUpdate_stopping (h : leafState b l = .stopping) : leafUpdate l b = stoppingUpdate l b := by
  rw [leafUpdate, h]

theorem leafUpdate_rest (hm : leafState b l ≠ .moving) (hs : leafState b l ≠ .stopping) : leafUpdate l b = b := by
  unfold leafUpdate
  split
  next h => exact absurd h hm
  next h => exact absurd h hs
  all_goals rfl

/-- A raise whose update finds it at its target arrives (R131, R136). -/
theorem movingUpdate_arrives (h : (b.leaves.get l).mot.kind = .raise ∧ (b.leaves.get l).mot.rule = .byTarget ∧
    distance (b.leaves.get l) ≤ 0) : movingUpdate l b = raiseArrive l (setLeaf l { b.leaves.get l with
      mot := { (b.leaves.get l).mot with updateTimer := some 10, lastUpdate := some (updateRecord l false b) }
      flt := { (b.leaves.get l).flt with stall := none } } b) := if_pos h

section
variable (h : ¬ ((b.leaves.get l).mot.kind = .raise ∧ (b.leaves.get l).mot.rule = .byTarget ∧
  distance (b.leaves.get l) ≤ 0))
include h

/-- A lead of SKEW_LIMIT_CD under the trim is the finding SKEW on both leaves (R138, R142). -/
theorem movingUpdate_skewed (ht : trimApplies b = true) (hl : (b.par.skewLimitCd : Int) ≤ lead b l) :
    movingUpdate l b = findings [(.north, .skew), (.south, .skew)] (updateShown l true b) := by
  have begun : movingUpdate l b = skewFinding (updateShown l (trimApplies b) b) true (updateShown l (trimApplies b) b) :=
    (if_neg h).trans (if_pos ⟨ht, hl⟩)
  have motion : ∀ k, leafInMotion (updateShown l true b) k = true := fun k =>
    (leafInMotion_iff _ _).mpr (.inr (.inl (updateShown_moving ht k)))
  rw [begun, ht, skewFinding_findings, motion, motion]
  rfl

/-- Both leaves after an update that finds a skew. -/
theorem movingUpdate_skewed_leaf (ht : trimApplies b = true) (hl : (b.par.skewLimitCd : Int) ≤ lead b l)
    (ho : b.sil.mode = .operate) (k : LeafId) : leafState (movingUpdate l b) k = .fault ∧
      ((movingUpdate l b).leaves.get k).flt.first = some .skew ∧ ((movingUpdate l b).leaves.get k).flt.stall = none ∧
      ((movingUpdate l b).leaves.get k).mot.command = 0 := by
  have found : (k, LeafFault.skew) ∈ [(LeafId.north, LeafFault.skew), (.south, .skew)] := by cases k <;> decide
  have one : ∀ x, (k, x) ∈ [(LeafId.north, LeafFault.skew), (.south, .skew)] → x = .skew := by
    simp only [List.mem_cons, List.not_mem_nil, Prod.mk.injEq]
    tauto
  have sound : leafState (updateShown l true b) k ≠ .fault := by
    rw [updateShown_moving ht]
    nofun
  rw [movingUpdate_skewed h ht hl]
  have mode : (updateShown l true b).sil.mode = .operate := ho
  obtain ⟨stall, command, first⟩ := findings_stilled mode found sound
  exact ⟨(findings_made mode found).1, first one, stall, command⟩

theorem movingUpdate_moves (ht : ¬ trimApplies b = true ∨ lead b l < b.par.skewLimitCd) {v : Nat}
    (hv : v = min (if trimApplies b = true then
      trimmed b.par (min (zoneLimit b.par (b.leaves.get l)) (windCap b)) (lead b l)
        else min (zoneLimit b.par (b.leaves.get l)) (windCap b)) ((b.leaves.get l).mot.command + b.par.accel)) :
    movingUpdate l b = setLeaf l { b.leaves.get l with
      mot := { (b.leaves.get l).mot with
        command := v, updateTimer := some 10, lastUpdate := some (updateRecord l (trimApplies b) b) }
      flt := { (b.leaves.get l).flt with stall := stallAfterUpdate b.par v (b.leaves.get l).flt.stall } } b := by
  rw [hv]
  exact (if_neg h).trans (if_neg fun ⟨hp, hs⟩ => ht.elim (· hp) (not_lt.mpr hs))

end

end

/-- Settles O53: the arrivals, the start and each update are read off their rules, and the findings of a skew are a row on the
leaves in motion. -/
theorem profileUpdateSetsTheCommand : Obligations.ProfileUpdateSetsTheCommand := by
  refine ⟨fun l b => ?arrival, fun b => ?start, exec_profileUpdate, fun l s => ?update⟩
  case arrival =>
    intro m reached arrives
    have judged : arrives ↔ m.kind = .raise ∧ (m.state = .moving ∨ m.state = .stopping) ∧ m.arrivalReached = false ∧
        raiseArrival b l = true := by rw [raiseArrival_iff]
    exact ⟨fun h => if_pos (judged.mp h), fun h => if_neg (mt judged.mpr h)⟩
  case start =>
    intro ready tested begins begun first
    refine ⟨profileStart_waits, fun hr ht => ?_, fun hr ht hm => ?_⟩
    · rw [(profileStart_ready hr).2 ht, enterMoving_both]
      rfl
    · rw [(profileStart_ready hr).1 ht]
      exact ⟨fun l hl => findings_made hm (mem_startFindings.mpr ⟨hl, rfl⟩),
        fun l hl => by_contra fun h => findings_not_moving h hl, findings_sameBut _ b⟩
  case update =>
    intro b r p d slope creeps limit ahead trims stall shown
    have zone : zoneLimit p r = if creeps then min slope p.vCreep else slope := by
      rw [zoneLimit, zoneByDistance_eq]
      exact if_congr (creepsAlways_iff r) rfl rfl
    have showing : ∀ t, shown (updateRecord l t b) t := fun t =>
      ⟨rfl, zone, rfl, rfl, fun h => shownLead_of_kind h⟩
    refine ⟨fun hm hs => by rw [exec_profileUpdate, leafUpdate_rest hm hs],
      fun hs => by rw [exec_profileUpdate, leafUpdate_stopping hs]; rfl, fun hm hk hr hd => ?_, fun hm hn => ⟨fun ht => ?_,
      fun ht hl ho => ?_⟩⟩
    · refine ⟨_, updateRecord l false b, by rw [exec_profileUpdate, leafUpdate_moving hm], showing false, ?_⟩
      rw [movingUpdate_arrives ⟨hk, hr, hd⟩]
      exact ⟨by rw [raiseArrive, setMot_leaves, setLeaf_leaves, PerLeaf.get_set_same, PerLeaf.get_set_same],
        by simp [raiseArrive],
        sameBut_trans (setLeaf_sameBut l _ b) (raiseArrive_sameBut l _)⟩
    · intro v
      refine ⟨_, updateRecord l (trimApplies b) b, by rw [exec_profileUpdate, leafUpdate_moving hm], showing _, ?_⟩
      have speed : v = min (if trimApplies b = true then trimmed p (min (zoneLimit p r) (windCap b)) (lead b l)
          else min (zoneLimit p r) (windCap b)) (r.mot.command + p.accel) := by
        rw [zone]
        by_cases h : trimApplies b = true
        · simp only [v, trims, h, true_and, if_true]
          rfl
        · simp only [v, trims, h]
          rfl
      rw [movingUpdate_moves hn ht speed]
      exact ⟨PerLeaf.get_set_same _ _ _, setLeaf_get_other l _ b, setLeaf_sameBut l _ b⟩
    · refine ⟨_, updateRecord l true b, by rw [exec_profileUpdate, leafUpdate_moving hm], showing true, ?_,
        movingUpdate_skewed_leaf hn ht hl ho, movingUpdate_sameBut l b⟩
      rw [movingUpdate_skewed hn ht hl, findings_lastUpdate, updateShown, setMot_leaves, PerLeaf.get_set_same]

end Sys2Proof.Proofs

/-! The speed windows, the stall timer, the brake feedback and the rest of a leaf (R115 to R122, R134, R149). -/

namespace Sys2Proof.Proofs

open Sys2Proof.Machine Sys2Proof.Safety

/-! ## Published inputs (R61) -/

theorem inputRises_iff (s0 b : Blocks) (f : InputFn) :
    inputRises s0 b f = true ↔ made s0 f = false ∧ made b f = true := by simp [inputRises]

theorem inputFalls_iff (s0 b : Blocks) (f : InputFn) :
    inputFalls s0 b f = true ↔ made s0 f = true ∧ made b f = false := by simp [inputFalls]

theorem inputFalls_of_rises {s0 b : Blocks} {f : InputFn} (h : inputRises s0 b f = true) : inputFalls s0 b f = false := by
  rw [← Bool.not_eq_true, inputFalls_iff, (inputRises_iff s0 b f).mp h |>.2]
  simp

theorem inputRises_of_falls {s0 b : Blocks} {f : InputFn} (h : inputFalls s0 b f = true) : inputRises s0 b f = false := by
  rw [← Bool.not_eq_true, inputRises_iff, (inputFalls_iff s0 b f).mp h |>.2]
  simp

/-! ## The brake feedback (R149) -/

/-- The brake record of a feedback that drops from RELEASED. -/
def droppedBrake (q : BrakeRec) : BrakeRec :=
  { q with command := .set, state := .fault, fault := .brakeDropped, lastFault := .brakeDropped }

/-- A brake's record after its feedback has come to show it released. -/
def shownReleased (q : BrakeRec) : BrakeRec :=
  match q.state with
  | .releasing => { q with state := .released, timer := none }
  | .set => { q with mismatch := true }
  | .released | .setting | .fault => q

/-- A brake's record after its feedback has come to show it set, before a finding acts. -/
def shownSet (q : BrakeRec) : BrakeRec :=
  match q.state with
  | .setting => { q with state := .set, timer := none }
  | .set => { q with mismatch := false }
  | .fault =>
    if q.command = .set then { q with state := .set, fault := .none, timer := none, mismatch := false } else q
  | .released => droppedBrake q
  | .releasing => q

theorem brakeShowsReleased_eq (l : LeafId) (b : Blocks) :
    brakeShowsReleased l b = setBrake l (shownReleased (b.brakes.get l)) b := by
  unfold brakeShowsReleased shownReleased
  dsimp only
  cases h : (b.brakes.get l).state <;> simp only [setBrake_self]

/-- A RELEASED brake that drops under a leaf in motion is a finding on that leaf. -/
def brakeDrops (s0 b : Blocks) (l : LeafId) : Bool :=
  inputFalls s0 b (.brakeReleased l) && (b.brakes.get l).state == .released && leafInMotion b l

theorem brakeShowsSet_eq (l : LeafId) (b : Blocks) : brakeShowsSet l b =
    findings (findingsIf ((b.brakes.get l).state == .released && leafInMotion b l) l .brakeDropped)
      (setBrake l (shownSet (b.brakes.get l)) b) := by
  unfold brakeShowsSet shownSet
  rw [findings_findingsIf]
  dsimp only
  cases h : (b.brakes.get l).state
  case fault =>
    simp only [reduceCtorEq, beq_iff_eq, Bool.and_eq_true, false_and, if_false]
    split
    · rfl
    · exact (setBrake_self l b).symm
  all_goals simp only [setBrake_self, droppedBrake]
  all_goals simp

/-- The brake's record once its feedback is published. -/
def feedbackTaken (s0 b : Blocks) (l : LeafId) : BrakeRec :=
  if inputRises s0 b (.brakeReleased l) then shownReleased (b.brakes.get l)
  else if inputFalls s0 b (.brakeReleased l) then shownSet (b.brakes.get l)
  else b.brakes.get l

/-- The findings that the brake, drive and overtravel inputs of a leaf make in one event, all judged before any of them acts. -/
def driveFindings (s0 b : Blocks) (l : LeafId) : List (LeafId × LeafFault) :=
  findingsIf (brakeDrops s0 b l) l .brakeDropped ++
    (findingsIf (inputFalls s0 b (.driveReady l) && leafInMotion b l) l .driveNotReady ++
      findingsIf (inputRises s0 b (.overtravel l)) l .overtravel)

theorem publishDrive_eq (s0 b : Blocks) (l : LeafId) :
    publishDrive s0 b l = findings (driveFindings s0 b l) (setBrake l (feedbackTaken s0 b l) b) := by
  have feedback : (if inputFalls s0 b (.brakeReleased l)
      then brakeShowsSet l (if inputRises s0 b (.brakeReleased l) then brakeShowsReleased l b else b)
      else if inputRises s0 b (.brakeReleased l) then brakeShowsReleased l b else b) =
      findings (findingsIf (brakeDrops s0 b l) l .brakeDropped) (setBrake l (feedbackTaken s0 b l) b) := by
    cases hr : inputRises s0 b (.brakeReleased l)
    case true =>
      simp only [feedbackTaken, brakeDrops, hr, inputFalls_of_rises hr, Bool.false_and, brakeShowsReleased_eq]
      rfl
    case false =>
      cases hf : inputFalls s0 b (.brakeReleased l)
      · simp only [feedbackTaken, brakeDrops, hr, hf, Bool.false_and, Bool.false_eq_true, if_false, setBrake_self]
        rfl
      · simp only [feedbackTaken, brakeDrops, hr, hf, Bool.true_and, Bool.false_eq_true, if_true, if_false,
          brakeShowsSet_eq]
  rw [driveFindings, findings_append, findings_append, ← feedback, findings_findingsIf, findings_findingsIf]
  rfl

section
variable {s0 b : Blocks} {l : LeafId}

theorem feedbackTaken_rises (h : inputRises s0 b (.brakeReleased l) = true) :
    feedbackTaken s0 b l = shownReleased (b.brakes.get l) := if_pos h

theorem feedbackTaken_falls (h : inputFalls s0 b (.brakeReleased l) = true) :
    feedbackTaken s0 b l = shownSet (b.brakes.get l) := by
  rw [feedbackTaken, inputRises_of_falls h, h]
  rfl

theorem feedbackTaken_still (hr : ¬ inputRises s0 b (.brakeReleased l) = true)
    (hf : ¬ inputFalls s0 b (.brakeReleased l) = true) : feedbackTaken s0 b l = b.brakes.get l := by
  rw [feedbackTaken, if_neg hr, if_neg hf]

theorem driveFindings_leaf : ∀ f ∈ driveFindings s0 b l, f.1 = l := by
  rintro ⟨j, k⟩ h
  simp only [driveFindings, List.mem_append, mem_findingsIf] at h
  tauto

theorem driveFindings_nil (hb : brakeDrops s0 b l = false)
    (hd : inputFalls s0 b (.driveReady l) = false ∨ leafInMotion b l = false)
    (ho : inputRises s0 b (.overtravel l) = false) : driveFindings s0 b l = [] := by
  have drive : (inputFalls s0 b (.driveReady l) && leafInMotion b l) = false := Bool.and_eq_false_iff.mpr hd
  rw [driveFindings, hb, drive, ho]
  rfl

/-- Without a finding the feedback's record is all. -/
theorem publishDrive_quiet (h : driveFindings s0 b l = []) :
    publishDrive s0 b l = setBrake l (feedbackTaken s0 b l) b := by
  rw [publishDrive_eq, h, findings_nil]

theorem brakeDrops_iff : brakeDrops s0 b l = true ↔ (made s0 (.brakeReleased l) = true ∧ made b (.brakeReleased l) = false) ∧
    (b.brakes.get l).state = .released ∧ leafInMotion b l = true := by
  simp only [brakeDrops, Bool.and_eq_true, inputFalls_iff, beq_iff_eq, and_assoc]

/-- In OPERATE a brake that drops under motion is made set by the finding. -/
theorem publishDrive_drops (hm : b.sil.mode = .operate) (h : brakeDrops s0 b l = true) :
    ((publishDrive s0 b l).brakes.get l).state = .set ∧
      ((publishDrive s0 b l).brakes.get l).lastFault = .brakeDropped := by
  obtain ⟨falls, released, motion⟩ := brakeDrops_iff.mp h
  have dropped : feedbackTaken s0 b l = droppedBrake (b.brakes.get l) := by
    rw [feedbackTaken_falls ((inputFalls_iff s0 b _).mpr falls), shownSet, released]
  have sound : ((setBrake l (droppedBrake (b.brakes.get l)) b).leaves.get l).mot.state ≠ .fault := by
    intro hf
    rcases (leafInMotion_iff b l).mp motion with e | e | e <;> exact absurd (hf.symm.trans e) (by decide)
  have set : (leafFault l .brakeDropped (setBrake l (droppedBrake (b.brakes.get l)) b)).brakes.get l =
      { droppedBrake (b.brakes.get l) with command := .set, state := .set, fault := .none, timer := none,
                                           mismatch := false } := by
    have asked := leafFault_brake (k := .brakeDropped) (b := setBrake l (droppedBrake (b.brakes.get l)) b) hm sound
    rw [asked, brakeSetRequest_fault (by rw [setLeaf_brakes, setBrake_get]; rfl), setLeaf_brakes, setBrake_get]
    exact if_neg (ne_true_of_eq_false falls.2)
  have kept := fun fs hl => findings_brakes_faulted (fs := fs) (b := leafFault l .brakeDropped
    (setBrake l (droppedBrake (b.brakes.get l)) b)) hl (leafFault_state l .brakeDropped hm)
  rw [publishDrive_eq, dropped, driveFindings, h, findings_append, findings_findingsIf, if_pos rfl,
    kept _ fun f hf => driveFindings_leaf f (List.mem_append_right _ hf), set]
  exact ⟨rfl, rfl⟩

end

/-! ## Speed windows (R115, R118, R134) -/

section
variable {l : LeafId} {b : Blocks}

/-- The blocks once a window is closed, before it is judged. -/
def windowClosed (l : LeafId) (b : Blocks) : Blocks :=
  setWin l ((b.leaves.get l).win.close (b.par.ratedCps.get l)) b

theorem windowClosed_get : (windowClosed l b).leaves.get l =
    { b.leaves.get l with win := (b.leaves.get l).win.close (b.par.ratedCps.get l) } := PerLeaf.get_set_same _ _ _

theorem windowClosed_get_other : (windowClosed l b).leaves.get (otherLeaf l) = b.leaves.get (otherLeaf l) :=
  setLeaf_get_other l _ b

theorem windowEnd_idle (h : (b.leaves.get l).win.running = false) : windowEnd l b = b :=
  if_neg (ne_true_of_eq_false h)

theorem windowEnd_overspeed (h : (b.leaves.get l).win.running = true)
    (hs : b.par.overspeedPm < measuredSpeed (b.leaves.get l).win.net (b.par.ratedCps.get l)) :
    windowEnd l b = leafFault l .overspeed (windowClosed l b) := (if_pos h).trans (if_pos hs)

theorem windowEnd_judged (h : (b.leaves.get l).win.running = true)
    (hs : ¬ b.par.overspeedPm < measuredSpeed (b.leaves.get l).win.net (b.par.ratedCps.get l)) :
    windowEnd l b = askBrakeSet l (windowClosed l b) := (if_pos h).trans (if_neg hs)

/-- A window just closed is also one that has just started, so a finding on a SEATED leaf leaves it so (R114). -/
theorem start_closed {w : SpeedRec} (rated : Nat) (h : w.running = true) : (w.close rated).start = w.close rated := by
  simp [SpeedRec.start, SpeedRec.close, h]

theorem askBrakeSet_asks (h : (b.leaves.get l).mot.state = .stopping ∧ (b.leaves.get l).mot.command = 0 ∧
    (b.leaves.get l).win.stationary = some true) : askBrakeSet l b =
      brakeSetRequest l (setMot l { (b.leaves.get l).mot with brakeSetAsked := true } b) := if_pos h

theorem askBrakeSet_sets (h : (b.leaves.get l).mot.state = .stopping ∧ (b.leaves.get l).mot.command = 0 ∧
    (b.leaves.get l).win.stationary = some true) (hb : (b.brakes.get l).state = .released) :
    ((askBrakeSet l b).leaves.get l).mot = { (b.leaves.get l).mot with brakeSetAsked := true } ∧
      (askBrakeSet l b).brakes.get l =
        { b.brakes.get l with command := .set, state := .setting, timer := some b.par.brakeProveMs } := by
  rw [askBrakeSet_asks h, brakeSetRequest_leaves, setMot_leaves, PerLeaf.get_set_same]
  exact ⟨rfl, brakeSetRequest_released (b := setMot l _ b) hb⟩

theorem askBrakeSet_rests (h : ¬ ((b.leaves.get l).mot.state = .stopping ∧ (b.leaves.get l).mot.command = 0 ∧
    (b.leaves.get l).win.stationary = some true)) : askBrakeSet l b = b := if_neg h

/-- The request changes the motion record of its leaf alone. -/
theorem askBrakeSet_get (l : LeafId) (b : Blocks) :
    ∃ m : MotionRec, (askBrakeSet l b).leaves.get l = { b.leaves.get l with mot := m } := by
  by_cases h : (b.leaves.get l).mot.state = .stopping ∧ (b.leaves.get l).mot.command = 0 ∧
    (b.leaves.get l).win.stationary = some true
  · rw [askBrakeSet_asks h, brakeSetRequest_leaves]
    exact ⟨_, PerLeaf.get_set_same _ _ _⟩
  · exact ⟨_, by rw [askBrakeSet_rests h]⟩

/-- The window and the position of a leaf at the end of a window, whatever is found (R115). -/
theorem windowEnd_get (h : (b.leaves.get l).win.running = true) :
    ((windowEnd l b).leaves.get l).win = (b.leaves.get l).win.close (b.par.ratedCps.get l) ∧
      ((windowEnd l b).leaves.get l).pos = (b.leaves.get l).pos := by
  by_cases hs : b.par.overspeedPm < measuredSpeed (b.leaves.get l).win.net (b.par.ratedCps.get l)
  · rw [windowEnd_overspeed h hs]
    refine leafFault_keeps (P := fun r => r.win = (b.leaves.get l).win.close (b.par.ratedCps.get l) ∧
      r.pos = (b.leaves.get l).pos) (fun _ r hr => ⟨?_, (withFinding_pos _ r).trans hr.2⟩) (fun _ hr => hr) ?_
    · rcases withFinding_window .overspeed r with e | e <;> rw [e, hr.1]
      exact start_closed _ h
    · rw [windowClosed_get]
      exact ⟨rfl, rfl⟩
  · obtain ⟨m, e⟩ := askBrakeSet_get l (windowClosed l b)
    rw [windowEnd_judged h hs, e, windowClosed_get]
    exact ⟨rfl, rfl⟩

/-- The brake is asked to set at a window without a count, of a STOPPING leaf at command 0 (R134). -/
theorem windowClosed_asks_iff (l : LeafId) (b : Blocks) : ((windowClosed l b).leaves.get l).mot.state = .stopping ∧
    ((windowClosed l b).leaves.get l).mot.command = 0 ∧ ((windowClosed l b).leaves.get l).win.stationary = some true ↔
      (b.leaves.get l).mot.state = .stopping ∧ (b.leaves.get l).mot.command = 0 ∧ (b.leaves.get l).win.gross = 0 := by
  simp [windowClosed_get, SpeedRec.close]

theorem windowEnd_found (h : (b.leaves.get l).win.running = true) (hm : b.sil.mode = .operate)
    (hs : b.par.overspeedPm < measuredSpeed (b.leaves.get l).win.net (b.par.ratedCps.get l)) :
    FaultFound .overspeed l b (windowEnd l b) := by
  have found := leafFault_found l .overspeed (b := windowClosed l b) hm
  rw [windowEnd_overspeed h hs]
  refine faultFound_of_same found ?_ ?_ ?_ rfl rfl windowClosed_get_other <;> simp only [leafState, windowClosed_get]

end

/-! ## The stall timer (R119) -/

section
variable {l : LeafId} {b : Blocks}

theorem stallExpiry_idle (h : (b.leaves.get l).flt.stall = none) : stallExpiry l b = b := by
  rw [stallExpiry, h]
  rfl

theorem stallExpiry_running (h : (b.leaves.get l).flt.stall ≠ none) :
    stallExpiry l b = leafFault l .stall (setFlt l { (b.leaves.get l).flt with stall := none } b) :=
  if_pos (Option.isSome_iff_ne_none.mpr h)

theorem stallExpiry_pos (h : (b.leaves.get l).flt.stall ≠ none) :
    ((stallExpiry l b).leaves.get l).pos = (b.leaves.get l).pos := by
  rw [stallExpiry_running h]
  refine leafFault_keeps (P := fun r => r.pos = (b.leaves.get l).pos) (fun _ r hr => (withFinding_pos _ r).trans hr)
    (fun _ hr => hr) ?_
  rw [setFlt_leaves, PerLeaf.get_set_same]

theorem stallExpiry_found (h : (b.leaves.get l).flt.stall ≠ none) (hm : b.sil.mode = .operate) :
    FaultFound .stall l b (stallExpiry l b) := by
  rw [stallExpiry_running h]
  exact faultFound_of_same (leafFault_found l .stall (b := setFlt l { (b.leaves.get l).flt with stall := none } b) hm)
    (by simp [leafState]) (by simp) (by simp) rfl rfl (by simp)

end

/-! ## The commands of the windows and the stall timer -/

theorem exec_speedWindowEnd (l : LeafId) (s : State) :
    exec (.speedWindowEnd l) s = .next (eventEnd s (windowEnd l s.blocks)) := rfl

theorem exec_stallTimerExpiry (l : LeafId) (s : State) :
    exec (.stallTimerExpiry l) s = .next (eventEnd s (stallExpiry l s.blocks)) := rfl

/-- Settles O51: the rest, the feedback and the windows are read off their rules, and the findings of an event are a row on their
leaf. -/
theorem speedWindowsJudgeTheLeaf : Obligations.SpeedWindowsJudgeTheLeaf := by
  refine ⟨fun l b => ?rest, fun l s0 b => ?drive, fun s0 b => rfl, fun l s => ?window⟩
  case rest =>
    intro r rested
    refine ⟨fun hs hb => (if_pos ⟨hs, hb⟩).trans ?_, fun h => if_neg fun hn => h.elim (· hn.1) (· hn.2)⟩
    split <;> rfl
  case drive =>
    intro q c rises falls quiet
    have unfallen : ∀ {f}, ¬ falls f → inputFalls s0 b f = false := fun h =>
      Bool.eq_false_of_not_eq_true (mt (inputFalls_iff s0 b _).mp h)
    have unrisen : ∀ {f}, ¬ rises f → inputRises s0 b f = false := fun h =>
      Bool.eq_false_of_not_eq_true (mt (inputRises_iff s0 b _).mp h)
    have taken : quiet → (¬ falls (.brakeReleased l) ∨ ¬ (q.state = .released ∧ leafInMotion b l = true)) →
        c = setBrake l (feedbackTaken s0 b l) b := fun hq hb =>
      publishDrive_quiet (driveFindings_nil (Bool.eq_false_of_not_eq_true fun drops =>
        hb.elim (· (brakeDrops_iff.mp drops).1) (· (brakeDrops_iff.mp drops).2)) (.inl (unfallen hq.1)) (unrisen hq.2))
    have risen : quiet → rises (.brakeReleased l) → c = setBrake l (shownReleased q) b := fun hq hr => by
      rw [taken hq (.inl fun hf => Bool.false_ne_true (hr.1.symm.trans hf.1)),
        feedbackTaken_rises ((inputRises_iff s0 b _).mpr hr)]
    have fallen : quiet → falls (.brakeReleased l) → ¬ (q.state = .released ∧ leafInMotion b l = true) →
        c = setBrake l (shownSet q) b := fun hq hf hs => by
      rw [taken hq (.inr hs), feedbackTaken_falls ((inputFalls_iff s0 b _).mpr hf)]
    have found : b.sil.mode = .operate → ∀ k, (l, k) ∈ driveFindings s0 b l →
        leafState c l = .fault ∧ k ∈ (c.leaves.get l).flt.kinds := fun hm k hk => by
      have row := findings_made (b := setBrake l (feedbackTaken s0 b l) b) hm hk
      rwa [← publishDrive_eq] at row
    refine ⟨fun hq hr => ⟨fun h => ?_, fun h => ?_, fun h1 h2 => ?_⟩,
      fun hq hf => ⟨fun h => ?_, fun h => ?_, fun h hc => ?_, fun h hn => ?_⟩, fun hq hr hf => ?_,
      fun hm => ⟨fun hn hf h => ?_, fun hn hf => ?_, fun hn hf ho => ?_, fun ho => ?_⟩, publishDrive_sameBut s0 b l⟩
    · rw [risen hq hr, shownReleased, h]
    · rw [risen hq hr, shownReleased, h]
    · rw [risen hq hr, shownReleased]
      split
      next e => exact absurd e h1
      next e => exact absurd e h2
      all_goals exact setBrake_self l b
    · rw [fallen hq hf (by simp [h]), shownSet, h]
    · rw [fallen hq hf (by simp [h]), shownSet, h]
    · rw [fallen hq hf (by simp [h]), shownSet, h]
      simp only [hc, if_true]
    · rw [fallen hq hf (by simp [hn]), shownSet, h]
      rfl
    · rw [taken hq (.inl hf), feedbackTaken_still (mt (inputRises_iff s0 b _).mp hr) (mt (inputFalls_iff s0 b _).mp hf),
        setBrake_self]
    · have drops : brakeDrops s0 b l = true := brakeDrops_iff.mpr ⟨hf, h, hn⟩
      obtain ⟨state, kind⟩ := found hm .brakeDropped (List.mem_append_left _ (mem_findingsIf.mpr ⟨drops, rfl, rfl⟩))
      exact ⟨state, kind, publishDrive_drops hm drops⟩
    · refine found hm .driveNotReady (List.mem_append_right _ (List.mem_append_left _ (mem_findingsIf.mpr ⟨?_, rfl, rfl⟩)))
      rw [(inputFalls_iff s0 b _).mpr hf, hn, Bool.and_true]
    · have still : brakeDrops s0 b l = false := Bool.eq_false_of_not_eq_true fun drops => by
        simp [(brakeDrops_iff.mp drops).2.2] at hn
      show (publishDrive s0 b l).leaves = b.leaves
      rw [publishDrive_quiet (driveFindings_nil still (.inr hn) (unrisen ho)), setBrake_leaves]
    · exact found hm .overtravel (List.mem_append_right _ (List.mem_append_right _
        (mem_findingsIf.mpr ⟨(inputRises_iff s0 b _).mpr ho, rfl, rfl⟩)))
  case window =>
    intro b r speed
    refine ⟨fun h => by rw [exec_speedWindowEnd, windowEnd_idle h], fun h => ⟨windowEnd l b, exec_speedWindowEnd l s, ?_,
      (windowEnd_get h).2, windowEnd_found h, fun hs hst hc hg hb => ?_, fun hs hn => ?_, windowEnd_sameBut l b⟩,
      fun h => ?_, fun h hm => ?_⟩
    · rw [(windowEnd_get h).1, SpeedRec.close, h]
      rfl
    · obtain ⟨asked, sets⟩ := askBrakeSet_sets ((windowClosed_asks_iff l b).mpr ⟨hst, hc, hg⟩) hb
      rw [windowEnd_judged h (not_lt.mpr hs), asked, sets, windowClosed_get]
      exact ⟨rfl, rfl⟩
    · rw [windowEnd_judged h (not_lt.mpr hs), askBrakeSet_rests (mt (windowClosed_asks_iff l b).mp hn), windowClosed_get]
      exact ⟨rfl, rfl, rfl⟩
    · rw [exec_stallTimerExpiry, stallExpiry_idle h]
    · rw [exec_stallTimerExpiry]
      exact ⟨_, rfl, stallExpiry_found h hm, stallExpiry_pos h, stallExpiry_sameBut l b⟩

end Sys2Proof.Proofs

/-! The seat reference and the open limit as they are published (R111, R113, R114, R127, R131, R132). -/

namespace Sys2Proof.Proofs

open Sys2Proof.Machine Sys2Proof.Safety

theorem perLeaf_set_set {α : Type} (r : PerLeaf α) (l : LeafId) (a c : α) : (r.set l a).set l c = r.set l c := by
  cases l <;> rfl

/-! ## The seat reference, state by state -/

/-- The position record at the seat reference (R111). -/
def seatedPos (p : PositionRec) : PositionRec :=
  { p with seatCorrection := some p.position, position := 0, certain := true, angleKnown := true }

/-- The blocks once the reference is taken and a correction noted, before the leaf follows. -/
def referenced (l : LeafId) (b : Blocks) : Blocks :=
  if (b.leaves.get l).pos.position = 0 then setPos l (seatedPos (b.leaves.get l).pos) b
  else note (.leaf l) (setPos l (seatedPos (b.leaves.get l).pos) b)

section
variable {l : LeafId} {b : Blocks}

theorem referenced_leaves : (referenced l b).leaves =
    b.leaves.set l { b.leaves.get l with pos := seatedPos (b.leaves.get l).pos } := by
  unfold referenced
  split <;> rfl

theorem referenced_brakes : (referenced l b).brakes = b.brakes := by
  unfold referenced
  split <;> rfl

theorem referenced_par : (referenced l b).par = b.par := by
  unfold referenced
  split <;> rfl

theorem referenced_notes : (referenced l b).notes =
    if (b.leaves.get l).pos.position = 0 then b.notes else b.notes ++ [.leaf l] := by
  unfold referenced
  split <;> rfl

/-- Outside OPERATE, and on a leaf SEATED or in FAULT, the reference is all. -/
theorem seatReference_stands (h : b.sil.mode ≠ .operate ∨ leafState b l = .seated ∨ leafState b l = .fault) :
    seatReference l b = referenced l b := by
  by_cases hm : b.sil.mode = .operate
  · refine (if_pos hm).trans ?_
    rcases h.resolve_left (not_not_intro hm) with e | e <;> rw [show (b.leaves.get l).mot.state = _ from e] <;> rfl
  · exact if_neg hm

variable (hm : b.sil.mode = .operate)
include hm

theorem seatReference_parked (h : leafState b l = .parked) : seatReference l b = setLeaf l { b.leaves.get l with
    pos := seatedPos (b.leaves.get l).pos
    mot := { (b.leaves.get l).mot with state := .seated, arrived := false }
    win := (b.leaves.get l).win.abandon } (referenced l b) := by
  refine (if_pos hm).trans ?_
  rw [show (b.leaves.get l).mot.state = _ from h]
  rfl

/-- A leaf in motion follows the reference by the kind of its movement. -/
theorem seatReference_motion (h : leafInMotion b l = true) : seatReference l b = match (b.leaves.get l).mot.kind with
    | .raise => setMot l { (b.leaves.get l).mot with rule := .byTarget } (referenced l b)
    | .lower => seatArrive l (referenced l b)
    | .recoveryLower => seatArrive l (referenced l b)
    | .none => referenced l b := by
  refine (if_pos hm).trans ?_
  rcases (leafInMotion_iff b l).mp h with e | e | e <;> rw [show (b.leaves.get l).mot.state = _ from e] <;>
    cases (b.leaves.get l).mot.kind <;> rfl

theorem seatReference_raise (h : leafInMotion b l = true) (hk : (b.leaves.get l).mot.kind = .raise) :
    seatReference l b = setMot l { (b.leaves.get l).mot with rule := .byTarget } (referenced l b) := by
  rw [seatReference_motion hm h, hk]

theorem seatReference_arrives (h : leafInMotion b l = true)
    (hk : (b.leaves.get l).mot.kind = .lower ∨ (b.leaves.get l).mot.kind = .recoveryLower) :
    seatReference l b = seatArrive l (referenced l b) := by
  rcases hk with hk | hk <;> rw [seatReference_motion hm h, hk]

end

section
variable (l : LeafId) (b : Blocks)

theorem seatArrive_leaves : (seatArrive l b).leaves = b.leaves.set l { b.leaves.get l with
    mot := { (b.leaves.get l).mot with
      state := .stopping
      command := 0
      arrivalReached := true
      brakeSetAsked := true
      updateTimer := if (b.leaves.get l).mot.state = .releasing then some 10 else (b.leaves.get l).mot.updateTimer } } :=
  brakeSetRequest_leaves l _

theorem seatArrive_brake {l : LeafId} {b : Blocks} (h : (b.brakes.get l).state = .released) :
    (seatArrive l b).brakes.get l =
      { b.brakes.get l with command := .set, state := .setting, timer := some b.par.brakeProveMs } :=
  brakeSetRequest_released (b := setMot l _ b) h

theorem referenced_get : (referenced l b).leaves.get l =
    { b.leaves.get l with pos := seatedPos (b.leaves.get l).pos } := by
  rw [referenced_leaves, PerLeaf.get_set_same]

/-- What can follow a seat reference: nothing, a write to the leaf's motion and window, or the arrival of a lowering. -/
theorem seatReference_cases : seatReference l b = referenced l b ∨
    (∃ (m : MotionRec) (w : SpeedRec), seatReference l b = setLeaf l
      { b.leaves.get l with pos := seatedPos (b.leaves.get l).pos, mot := m, win := w } (referenced l b)) ∨
    seatReference l b = seatArrive l (referenced l b) := by
  by_cases hm : b.sil.mode = .operate
  · by_cases hn : leafInMotion b l = true
    · cases hk : (b.leaves.get l).mot.kind with
      | none => exact .inl (by rw [seatReference_motion hm hn, hk])
      | raise => exact .inr (.inl ⟨_, _, by rw [seatReference_raise hm hn hk, setMot, referenced_get]⟩)
      | lower => exact .inr (.inr (seatReference_arrives hm hn (.inl hk)))
      | recoveryLower => exact .inr (.inr (seatReference_arrives hm hn (.inr hk)))
    · rcases (leafInMotion_eq_false_iff b l).mp (Bool.eq_false_of_not_eq_true hn) with e | e | e
      · exact .inl (seatReference_stands (.inr (.inl e)))
      · exact .inr (.inl ⟨_, _, seatReference_parked hm e⟩)
      · exact .inl (seatReference_stands (.inr (.inr e)))
  · exact .inl (seatReference_stands (.inl hm))

/-- Whatever follows, the reference writes the position, and the other leaf stands (R111). -/
theorem seatReference_leaves : ∃ (m : MotionRec) (w : SpeedRec), (seatReference l b).leaves =
    b.leaves.set l { b.leaves.get l with pos := seatedPos (b.leaves.get l).pos, mot := m, win := w } := by
  rcases seatReference_cases l b with h | ⟨m, w, h⟩ | h
  · exact ⟨_, _, by rw [h, referenced_leaves]⟩
  · exact ⟨m, w, by rw [h, setLeaf_leaves, referenced_leaves, perLeaf_set_set]⟩
  · exact ⟨_, _, by rw [h, seatArrive_leaves, referenced_get, referenced_leaves, perLeaf_set_set]⟩

theorem seatReference_notes : (seatReference l b).notes =
    if (b.leaves.get l).pos.position = 0 then b.notes else b.notes ++ [.leaf l] := by
  rw [← referenced_notes]
  rcases seatReference_cases l b with h | ⟨m, w, h⟩ | h
  · rw [h]
  · rw [h, setLeaf_notes]
  · rw [h]
    exact seatArrive_sameBut l _ .notes (by decide)

end

/-! ## The publication of the positions -/

section
variable {s0 b : Blocks} {l : LeafId}

theorem publishPosition_eq {seatRises seatFalls limitRises : Bool} (hr : inputRises s0 b (.seated l) = seatRises)
    (hf : inputFalls s0 b (.seated l) = seatFalls) (ho : inputRises s0 b (.openLimit l) = limitRises) :
    publishPosition s0 b l =
      (let placed := if seatFalls then seatLost l (if seatRises then seatReference l b else b)
        else if seatRises then seatReference l b else b
       if limitRises then openLimitMade l placed else placed) := by
  subst hr hf ho
  rfl

/-- An input that stands neither rises nor falls. -/
theorem unmoved_edges {f : InputFn} (h : ¬ made s0 f ≠ made b f) :
    inputRises s0 b f = false ∧ inputFalls s0 b f = false := by
  rw [inputRises, inputFalls, not_not.mp h]
  simp

theorem moved_rises {f : InputFn} (h : made s0 f ≠ made b f) (hb : made b f = true) :
    inputRises s0 b f = true ∧ inputFalls s0 b f = false := by
  have was : made s0 f = false := by simpa [hb] using h
  simp [inputRises, inputFalls, hb, was]

theorem moved_falls {f : InputFn} (h : made s0 f ≠ made b f) (hb : made b f = false) :
    inputRises s0 b f = false ∧ inputFalls s0 b f = true := by
  have was : made s0 f = true := by simpa [hb] using h
  simp [inputRises, inputFalls, hb, was]

theorem inputRises_unmade {f : InputFn} (h : made b f = false) : inputRises s0 b f = false := by simp [inputRises, h]

end

end Sys2Proof.Proofs

/-! Encoder counts with their findings, and illegal transitions (R109, R110, R114, R119, R120, R123, R142). -/

namespace Sys2Proof.Proofs

open Sys2Proof.Machine Sys2Proof.Safety

/-! ## What a count writes (R109, R114, R119, R120) -/

theorem setLeaf_setLeaf (l : LeafId) (r q : LeafRec) (b : Blocks) : setLeaf l r (setLeaf l q b) = setLeaf l r b := by
  cases l <;> rfl

/-- A loss of certainty gives the leaf the arrival rule of its movement (R110). -/
theorem loseCertainty_eq (l : LeafId) (b : Blocks) : ∃ rule : ArrivalRule, loseCertainty l b =
    setLeaf l { b.leaves.get l with
      pos := { (b.leaves.get l).pos with certain := false }
      mot := { (b.leaves.get l).mot with rule := rule } } b := ⟨_, rfl⟩

/-- The step of a count. -/
def countStep (forward : Bool) : Int := if forward then 1 else -1

theorem nextPair_eq (a p forward : Bool) :
    nextPair a p forward = (if forward then !p else p, if forward then a else !a) := by
  cases forward <;> cases a <;> cases p <;> rfl

/-- A position record with a count added, held at its bounds, beyond which it is UNCERTAIN; at the seat no count is added. -/
def countedPos (seated : Bool) (step : Int) (p : PositionRec) : PositionRec :=
  if seated then p
  else { p with
    position := clampPosition (p.position + step)
    certain := if clampPosition (p.position + step) = p.position + step then p.certain else false }

theorem clampPosition_within {p : Int} (h : -131071 ≤ p) (k : p ≤ 131071) : clampPosition p = p := by
  simp only [clampPosition, Config.positionBound]
  omega

theorem clampPosition_below {p : Int} (h : p < -131071) : clampPosition p = -131071 := by
  simp only [clampPosition, Config.positionBound]
  omega

theorem clampPosition_above {p : Int} (h : 131071 < p) : clampPosition p = 131071 := by
  simp only [clampPosition, Config.positionBound]
  omega

section
variable {p : PositionRec} {step : Int} {seated : Bool}

theorem countedPos_phases : (countedPos seated step p).phaseA = p.phaseA ∧ (countedPos seated step p).phaseB = p.phaseB ∧
    (countedPos seated step p).errorCount = p.errorCount := by
  unfold countedPos
  split <;> exact ⟨rfl, rfl, rfl⟩

theorem countedPos_within (h : -131071 ≤ p.position + step) (k : p.position + step ≤ 131071) :
    (countedPos false step p).position = p.position + step ∧ (countedPos false step p).certain = p.certain := by
  simp [countedPos, clampPosition_within h k]

theorem countedPos_beyond (h : clampPosition (p.position + step) ≠ p.position + step) :
    (countedPos false step p).position = clampPosition (p.position + step) ∧
      (countedPos false step p).certain = false := by
  simp [countedPos, h]

theorem countedPos_below (h : p.position + step < -131071) :
    (countedPos false step p).position = -131071 ∧ (countedPos false step p).certain = false := by
  have beyond := countedPos_beyond (p := p) (step := step) (by rw [clampPosition_below h]; exact ne_of_gt h)
  rwa [clampPosition_below h] at beyond

theorem countedPos_above (h : 131071 < p.position + step) :
    (countedPos false step p).position = 131071 ∧ (countedPos false step p).certain = false := by
  have beyond := countedPos_beyond (p := p) (step := step) (by rw [clampPosition_above h]; exact ne_of_lt h)
  rwa [clampPosition_above h] at beyond

end

/-- The blocks once a count is recorded and added, before it is judged. -/
def counted (l : LeafId) (forward : Bool) (b : Blocks) : Blocks := applyCount l forward (recordCount l forward b)

section
variable {l : LeafId} {forward : Bool} {b : Blocks}

theorem applyCount_seated (h : made b (.seated l) = true) : applyCount l forward b = b := if_pos h

section
variable (h : made b (.seated l) = false)
include h

theorem applyCount_within (hc : clampPosition ((b.leaves.get l).pos.position + countStep forward) =
    (b.leaves.get l).pos.position + countStep forward) : applyCount l forward b =
      setPos l (countedPos false (countStep forward) (b.leaves.get l).pos) b := by
  rw [countedPos, if_neg Bool.false_ne_true, if_pos hc]
  exact (if_neg (ne_true_of_eq_false h)).trans (if_pos hc)

theorem applyCount_beyond (hc : clampPosition ((b.leaves.get l).pos.position + countStep forward) ≠
    (b.leaves.get l).pos.position + countStep forward) : ∃ rule : ArrivalRule, applyCount l forward b =
      setLeaf l { b.leaves.get l with
        pos := countedPos false (countStep forward) (b.leaves.get l).pos
        mot := { (b.leaves.get l).mot with rule := rule } } b := by
  have beyond : applyCount l forward b = loseCertainty l (setPos l { (b.leaves.get l).pos with
      position := clampPosition ((b.leaves.get l).pos.position + countStep forward) } b) :=
    (if_neg (ne_true_of_eq_false h)).trans (if_neg hc)
  obtain ⟨rule, lost⟩ := loseCertainty_eq l (setPos l { (b.leaves.get l).pos with
    position := clampPosition ((b.leaves.get l).pos.position + countStep forward) } b)
  refine ⟨rule, beyond.trans (lost.trans ?_)⟩
  rw [countedPos, if_neg Bool.false_ne_true, if_neg hc, setPos_leaves, PerLeaf.get_set_same]
  exact setLeaf_setLeaf l _ _ b

end

variable (l forward b)

/-- A count adds itself to the position alone, and the rule of a running movement follows a loss of certainty. -/
theorem applyCount_eq : ∃ rule : ArrivalRule,
    ((countedPos (made b (.seated l)) (countStep forward) (b.leaves.get l).pos).certain = true →
      rule = (b.leaves.get l).mot.rule) ∧
    applyCount l forward b = setLeaf l { b.leaves.get l with
      pos := countedPos (made b (.seated l)) (countStep forward) (b.leaves.get l).pos
      mot := { (b.leaves.get l).mot with rule := rule } } b := by
  cases hs : made b (.seated l)
  case true => exact ⟨_, fun _ => rfl, (applyCount_seated hs).trans (setLeaf_self l b).symm⟩
  case false =>
    by_cases hc : clampPosition ((b.leaves.get l).pos.position + countStep forward) =
      (b.leaves.get l).pos.position + countStep forward
    · exact ⟨_, fun _ => rfl, applyCount_within hs hc⟩
    · obtain ⟨rule, h⟩ := applyCount_beyond hs hc
      exact ⟨rule, fun sure => absurd sure (by rw [(countedPos_beyond hc).2]; nofun), h⟩

end

/-- The record of a leaf once a count is recorded, before it is added to the position. -/
def recordedLeaf (l : LeafId) (forward : Bool) (b : Blocks) : LeafRec :=
  let r := b.leaves.get l
  { r with
    pos := { r.pos with
      phaseA := if forward then !r.pos.phaseB else r.pos.phaseB
      phaseB := if forward then r.pos.phaseA else !r.pos.phaseA }
    win := r.win.addCount (countStep forward)
    flt := { r.flt with
      stall := r.flt.stall.map fun _ => b.par.stallMs
      wrongDir := if leafInMotion b l && countOpposes r.mot.kind forward then r.flt.wrongDir + 1 else r.flt.wrongDir } }

theorem recordCount_eq (l : LeafId) (forward : Bool) (b : Blocks) :
    recordCount l forward b = setLeaf l (recordedLeaf l forward b) b := by
  unfold recordCount recordedLeaf
  simp only [nextPair_eq]
  rfl

/-- The record of a leaf once a count is added, with the arrival rule that it has then. -/
def countedLeaf (l : LeafId) (forward : Bool) (rule : ArrivalRule) (b : Blocks) : LeafRec :=
  { recordedLeaf l forward b with
    pos := countedPos (made b (.seated l)) (countStep forward) (recordedLeaf l forward b).pos
    mot := { (b.leaves.get l).mot with rule := rule } }

/-- A count writes its leaf alone; the arrival rule stays unless the leaf becomes UNCERTAIN (R109, R110). -/
theorem counted_eq (l : LeafId) (forward : Bool) (b : Blocks) : ∃ rule : ArrivalRule,
    ((countedLeaf l forward rule b).pos.certain = true → rule = (b.leaves.get l).mot.rule) ∧
      counted l forward b = setLeaf l (countedLeaf l forward rule b) b := by
  obtain ⟨rule, certain, h⟩ := applyCount_eq l forward (setLeaf l (recordedLeaf l forward b) b)
  rw [setLeaf_leaves, PerLeaf.get_set_same] at certain h
  exact ⟨rule, certain, by rw [counted, recordCount_eq, h, setLeaf_setLeaf]; rfl⟩

/-! ## What is judged at a count (R120, R123, R142) -/

section
variable (l : LeafId) (forward : Bool) (b : Blocks)

theorem counted_sameBut : SameBut [.leaves] b (counted l forward b) :=
  sameBut_trans (recordCount_sameBut l forward b) (applyCount_sameBut l forward _)

theorem counted_get_other : (counted l forward b).leaves.get (otherLeaf l) = b.leaves.get (otherLeaf l) := by
  obtain ⟨rule, -, h⟩ := counted_eq l forward b
  rw [h, setLeaf_get_other]

/-- A count changes of a motion record the arrival rule alone. -/
theorem counted_mot (j : LeafId) : ((counted l forward b).leaves.get j).mot =
    { (b.leaves.get j).mot with rule := ((counted l forward b).leaves.get j).mot.rule } := by
  rcases leaf_eq_or_other l j with rfl | rfl
  · obtain ⟨rule, -, h⟩ := counted_eq j forward b
    rw [h, setLeaf_leaves, PerLeaf.get_set_same]
    rfl
  · rw [counted_get_other]

theorem counted_state (j : LeafId) : leafState (counted l forward b) j = leafState b j := by
  rw [leafState, counted_mot]
  rfl

theorem counted_kind (j : LeafId) : ((counted l forward b).leaves.get j).mot.kind = (b.leaves.get j).mot.kind := by
  rw [counted_mot]

theorem counted_motion (j : LeafId) : leafInMotion (counted l forward b) j = leafInMotion b j := by
  rw [leafInMotion, leafInMotion, counted_state]

/-- The fault record of a counted leaf (R119, R120). -/
theorem counted_flt : ((counted l forward b).leaves.get l).flt = { (b.leaves.get l).flt with
    stall := (b.leaves.get l).flt.stall.map fun _ => b.par.stallMs
    wrongDir := if leafInMotion b l && countOpposes (b.leaves.get l).mot.kind forward
      then (b.leaves.get l).flt.wrongDir + 1 else (b.leaves.get l).flt.wrongDir } := by
  obtain ⟨rule, -, h⟩ := counted_eq l forward b
  rw [h, setLeaf_leaves, PerLeaf.get_set_same]
  rfl

theorem counted_pos : ((counted l forward b).leaves.get l).pos =
    countedPos (made b (.seated l)) (countStep forward) (recordedLeaf l forward b).pos := by
  obtain ⟨rule, -, h⟩ := counted_eq l forward b
  rw [h, setLeaf_leaves, PerLeaf.get_set_same]
  rfl

theorem counted_win : ((counted l forward b).leaves.get l).win = (b.leaves.get l).win.addCount (countStep forward) := by
  obtain ⟨rule, -, h⟩ := counted_eq l forward b
  rw [h, setLeaf_leaves, PerLeaf.get_set_same]
  rfl

/-- A leaf that is CERTAIN after a count has its arrival rule. -/
theorem counted_rule (hc : ((counted l forward b).leaves.get l).pos.certain = true) :
    ((counted l forward b).leaves.get l).mot.rule = (b.leaves.get l).mot.rule := by
  obtain ⟨rule, certain, h⟩ := counted_eq l forward b
  rw [h, setLeaf_leaves, PerLeaf.get_set_same] at hc ⊢
  exact certain hc

theorem countOpposes_iff (k : MoveKind) : countOpposes k forward = true ↔
    (k = .raise ∧ forward = false) ∨ ((k = .lower ∨ k = .recoveryLower) ∧ forward = true) := by
  cases k <;> cases forward <;> decide

/-- WRONG_DIRECTION at a count, in the terms of the state before it. -/
theorem wrongDirection_counted_iff : wrongDirection l (counted l forward b) = true ↔ leafInMotion b l = true ∧
    b.par.wrongDirCounts < ((counted l forward b).leaves.get l).flt.wrongDir := by
  rw [wrongDirection, counted_motion, Bool.and_eq_true, decide_eq_true_eq,
    show (counted l forward b).par = b.par from counted_sameBut l forward b .par (by decide)]

/-- SEAT_NOT_FOUND at a count, in the terms of the state before it: a leaf that stays CERTAIN keeps its arrival rule. -/
theorem seatMissed_counted_iff : seatMissed l (counted l forward b) = true ↔ (b.leaves.get l).mot.kind = .lower ∧
    (b.leaves.get l).mot.rule = .seatSearch ∧
    ((b.leaves.get l).mot.state = .moving ∨ (b.leaves.get l).mot.state = .stopping) ∧
    ((counted l forward b).leaves.get l).pos.certain = true ∧ made b (.seated l) = false ∧
    ((counted l forward b).leaves.get l).pos.position ≤ -(b.par.seatSearch : Int) := by
  have state : ((counted l forward b).leaves.get l).mot.state = (b.leaves.get l).mot.state := counted_state l forward b l
  have seat : made (counted l forward b) (.seated l) = made b (.seated l) :=
    made_congr (counted_sameBut l forward b .iq (by decide)) _
  have par : (counted l forward b).par = b.par := counted_sameBut l forward b .par (by decide)
  have rule := counted_rule l forward b
  simp only [seatMissed, decide_eq_true_eq, counted_kind, state, seat, par]
  constructor
  · rintro ⟨hk, hr, hc, hs, hm, hp⟩
    exact ⟨hk, rule hc ▸ hr, hs, hc, hm, hp⟩
  · rintro ⟨hk, hr, hs, hc, hm, hp⟩
    exact ⟨hk, (rule hc).trans hr, hc, hs, hm, hp⟩

/-- SKEW at a count, in the terms of the state before it. -/
theorem skewStands_counted_iff : skewStands (counted l forward b) = true ↔ (∃ m : LeafId, leafState b m = .moving ∧
      ((b.leaves.get m).mot.kind = .raise ∨ (b.leaves.get m).mot.kind = .lower)) ∧
    (∀ m : LeafId, ((counted l forward b).leaves.get m).pos.certain = true) ∧
    b.par.skewLimitCd ≤ (leafAngle (counted l forward b) .north - leafAngle (counted l forward b) .south).natAbs := by
  have par : (counted l forward b).par = b.par := counted_sameBut l forward b .par (by decide)
  simp only [skewStands, Bool.and_eq_true, anyLeaf_iff, bothLeaves_iff, Bool.or_eq_true, beq_iff_eq, decide_eq_true_eq,
    counted_kind, counted_state, par, and_assoc]
  rfl

end

/-! ## The findings of a count -/

/-- The findings of one count, in their order, all judged on the counted position. -/
def countFindings (l : LeafId) (c : Blocks) : List (LeafId × LeafFault) :=
  findingsIf (wrongDirection l c) l .wrongDirection ++
    ((findingsIf (skewStands c && leafInMotion c .north) .north .skew ++
      findingsIf (skewStands c && leafInMotion c .south) .south .skew) ++ findingsIf (seatMissed l c) l .seatNotFound)

theorem leafCount_eq (l : LeafId) (forward : Bool) (b : Blocks) :
    leafCount l forward b = findings (countFindings l (counted l forward b)) (counted l forward b) := by
  rw [countFindings, findings_append, findings_append, ← skewFinding_findings, findings_findingsIf, findings_findingsIf]
  rfl

theorem mem_countFindings {l j : LeafId} {k : LeafFault} {c : Blocks} : (j, k) ∈ countFindings l c ↔
    (wrongDirection l c = true ∧ j = l ∧ k = .wrongDirection) ∨
    ((skewStands c = true ∧ leafInMotion c j = true) ∧ k = .skew) ∨ (seatMissed l c = true ∧ j = l ∧ k = .seatNotFound) := by
  rw [countFindings, List.mem_append, List.mem_append, mem_findingsIf, mem_findingsIf,
    mem_skewFindings (p := fun j => skewStands c && leafInMotion c j), Bool.and_eq_true]

/-- Every finding of a count is on a leaf in motion. -/
theorem motion_of_mem_countFindings {l j : LeafId} {k : LeafFault} {c : Blocks} (h : (j, k) ∈ countFindings l c) :
    leafInMotion c j = true := by
  rcases mem_countFindings.mp h with ⟨hw, rfl, -⟩ | ⟨⟨-, hj⟩, -⟩ | ⟨hm, rfl, -⟩
  · exact (Bool.and_eq_true_iff.mp hw).1
  · exact hj
  · simp only [seatMissed, decide_eq_true_eq] at hm
    obtain ⟨-, -, -, state, -⟩ := hm
    exact (leafInMotion_iff c j).mpr (.inr state)

section
variable {l : LeafId} {c : Blocks}

theorem countFindings_nil (hw : ¬ wrongDirection l c = true) (hm : ¬ seatMissed l c = true)
    (hs : ¬ skewStands c = true) : countFindings l c = [] := by
  simp [countFindings, findingsIf, hw, hm, hs]

theorem countFindings_wrongDirection (hw : wrongDirection l c = true) (hm : ¬ seatMissed l c = true)
    (hs : ¬ skewStands c = true) : countFindings l c = [(l, .wrongDirection)] := by
  simp [countFindings, findingsIf, hw, hm, hs]

theorem countFindings_seatNotFound (hw : ¬ wrongDirection l c = true) (hm : seatMissed l c = true)
    (hs : ¬ skewStands c = true) : countFindings l c = [(l, .seatNotFound)] := by
  simp [countFindings, findingsIf, hw, hm, hs]

end

end Sys2Proof.Proofs

/-! Counts, illegal transitions and the published positions move the leaf (R109 to R114, R119, R120, R123, R127, R131, R132,
R142). -/

namespace Sys2Proof.Proofs

open Sys2Proof.Machine Sys2Proof.Safety

/-! ## Commands of the encoder -/

theorem exec_encoderCount (l : LeafId) (forward : Bool) (s : State) :
    exec (.encoderCount l forward) s = .next (eventEnd s (leafCount l forward s.blocks)) := rfl

theorem exec_illegalTransition (l : LeafId) (s : State) :
    exec (.illegalTransition l) s = .next (eventEnd s (leafIllegal l s.blocks)) := rfl

/-! ## Illegal transitions (R110) -/

/-- The position record after an illegal transition. -/
def illegalPos (seated : Bool) (p : PositionRec) : PositionRec :=
  { p with
    phaseA := !p.phaseA
    phaseB := !p.phaseB
    errorCount := min (p.errorCount + 1) 255
    certain := if seated then p.certain else false }

/-- An illegal transition writes the position and, at a loss of certainty, the arrival rule. -/
theorem leafIllegal_eq (l : LeafId) (b : Blocks) : ∃ rule : ArrivalRule, leafIllegal l b =
    note (.leaf l) (setLeaf l { b.leaves.get l with
      pos := illegalPos (made b (.seated l)) (b.leaves.get l).pos
      mot := { (b.leaves.get l).mot with rule := rule } } b) := by
  by_cases h : (made b (.seated l) || !(b.leaves.get l).pos.certain) = true
  · have stays : (if made b (.seated l) = true then (b.leaves.get l).pos.certain else false) =
        (b.leaves.get l).pos.certain := by
      revert h
      cases made b (.seated l) <;> simp +contextual
    refine ⟨(b.leaves.get l).mot.rule, (if_pos h).trans ?_⟩
    rw [illegalPos, stays]
    rfl
  · obtain ⟨seated, -⟩ : made b (.seated l) = false ∧ (b.leaves.get l).pos.certain = true := by simpa using h
    obtain ⟨rule, lost⟩ := loseCertainty_eq l (note (.leaf l) (setPos l { (b.leaves.get l).pos with
      phaseA := !(b.leaves.get l).pos.phaseA
      phaseB := !(b.leaves.get l).pos.phaseB
      errorCount := min ((b.leaves.get l).pos.errorCount + 1) 255 } b))
    refine ⟨rule, (if_neg h).trans (lost.trans ?_)⟩
    rw [note_leaves, setPos_leaves, PerLeaf.get_set_same, illegalPos, seated]
    cases l <;> rfl

/-! ## A leaf through the findings of a count -/

section
variable (l : LeafId) (forward : Bool) (b : Blocks)

theorem leafCount_pos (j : LeafId) :
    ((leafCount l forward b).leaves.get j).pos = ((counted l forward b).leaves.get j).pos := by
  rw [leafCount_eq, findings_pos]

theorem leafCount_win (j : LeafId) :
    ((leafCount l forward b).leaves.get j).win = ((counted l forward b).leaves.get j).win := by
  rw [leafCount_eq]
  refine findings_win fun ⟨k, hk⟩ hs => ?_
  rcases (leafInMotion_iff _ _).mp (motion_of_mem_countFindings hk) with h | h | h <;>
    exact absurd (hs.symm.trans h) (by decide)

theorem leafCount_wrongDir (j : LeafId) :
    ((leafCount l forward b).leaves.get j).flt.wrongDir = ((counted l forward b).leaves.get j).flt.wrongDir := by
  rw [leafCount_eq, findings_wrongDir]

theorem leafCount_angle (j : LeafId) : leafAngle (leafCount l forward b) j = leafAngle (counted l forward b) j := by
  have par : (leafCount l forward b).par = (counted l forward b).par := by
    rw [leafCount_eq]
    exact findings_sameBut _ _ .par (by decide)
  simp only [leafAngle, leafCount_pos, par]

/-- A leaf at rest has no finding at a count. -/
theorem leafCount_flt_rest (h : leafInMotion b l = false) :
    ((leafCount l forward b).leaves.get l).flt = ((counted l forward b).leaves.get l).flt := by
  rw [leafCount_eq]
  refine findings_flt fun k hk => ?_
  have motion := motion_of_mem_countFindings hk
  rw [counted_motion, h] at motion
  cases motion

theorem counted_mode : (counted l forward b).sil.mode = b.sil.mode :=
  congrArg Sil.mode (counted_sameBut l forward b .sil (by decide))

/-- In OPERATE each finding of a count puts its leaf in FAULT, its kind among the kinds. -/
theorem leafCount_made {j : LeafId} {k : LeafFault} (hm : b.sil.mode = .operate)
    (h : (j, k) ∈ countFindings l (counted l forward b)) : leafState (leafCount l forward b) j = .fault ∧
      k ∈ ((leafCount l forward b).leaves.get j).flt.kinds := by
  rw [leafCount_eq]
  exact findings_made ((counted_mode l forward b).trans hm) h

/-- A finding of a count leaves the stall timer IDLE (R117, R119). -/
theorem leafCount_stall {j : LeafId} {k : LeafFault} (hm : b.sil.mode = .operate)
    (h : (j, k) ∈ countFindings l (counted l forward b)) :
    ((leafCount l forward b).leaves.get j).flt.stall = none := by
  have sound : leafState (counted l forward b) j ≠ .fault := fun hf => by
    rcases (leafInMotion_iff _ _).mp (motion_of_mem_countFindings h) with e | e | e <;>
      exact absurd (hf.symm.trans e) (by decide)
  rw [leafCount_eq]
  exact (findings_stilled ((counted_mode l forward b).trans hm) h sound).1

theorem mem_kinds_of_leafCount {k : LeafFault} (h : k ∈ ((leafCount l forward b).leaves.get l).flt.kinds) :
    k ∈ (b.leaves.get l).flt.kinds ∨ (l, k) ∈ countFindings l (counted l forward b) := by
  rw [leafCount_eq] at h
  exact (mem_kinds_of_findings h).imp_left fun h => by rwa [counted_flt] at h

/-- Outside OPERATE, and where nothing is found, a count is its record alone. -/
theorem leafCount_unfound (h : b.sil.mode ≠ .operate ∨ countFindings l (counted l forward b) = []) :
    leafCount l forward b = counted l forward b := by
  rw [leafCount_eq]
  rcases h with h | h
  · exact findings_outside (by rwa [counted_mode]) _
  · rw [h, findings_nil]

/-- A finding that stands alone acts as R117 says. -/
theorem leafCount_alone {k : LeafFault} (hm : b.sil.mode = .operate)
    (h : countFindings l (counted l forward b) = [(l, k)]) : FaultFound k l b (leafCount l forward b) := by
  have same := counted_sameBut l forward b
  rw [leafCount_eq, h, findings_cons, findings_nil]
  refine faultFound_of_same (leafFault_found l k ((counted_mode l forward b).trans hm)) (counted_state l forward b l) ?_ ?_
    (by rw [show (counted l forward b).brakes = b.brakes from same .brakes (by decide)]) (same .par (by decide))
    (counted_get_other l forward b) <;> rw [counted_flt]

end

/-- Settles O50: the publications are the seat reference and its like, a count is its record and a row of findings, and an illegal
transition is one write. -/
theorem countsMoveThePosition : Obligations.CountsMoveThePosition := by
  refine ⟨fun l s0 b => ?position, fun l s => ?encoder⟩
  case position =>
    intro r c moves inMotion
    refine ⟨fun hs ho => ?_, fun hs hb ho => ?_, fun hs hb ho => ?_, fun hs ho hb => ?_, fun hs hb => ?_⟩
    · exact publishPosition_eq (unmoved_edges hs).1 (unmoved_edges hs).2 (unmoved_edges ho).1
    · have taken : c = seatReference l b :=
        publishPosition_eq (moved_rises hs hb).1 (moved_rises hs hb).2 (unmoved_edges ho).1
      obtain ⟨m, w, leaves⟩ := seatReference_leaves l b
      rw [taken]
      refine ⟨by rw [leaves, PerLeaf.get_set_same]; rfl, seatReference_notes l b, fun h => ?_, fun hm h => ?_,
        fun hm h hk => ?_, fun hm h hk => ?_, by rw [leaves, perLeaf_get_set_otherLeaf], seatReference_sameBut l b⟩
      · rw [seatReference_stands h, referenced_get]
        exact ⟨rfl, rfl, referenced_brakes⟩
      · rw [seatReference_parked hm h, setLeaf_leaves, PerLeaf.get_set_same]
        exact ⟨rfl, rfl⟩
      · rw [seatReference_raise hm h hk, setMot_leaves, PerLeaf.get_set_same]
        exact ⟨rfl, referenced_brakes⟩
      · rw [seatReference_arrives hm h hk, leafState, seatArrive_leaves, PerLeaf.get_set_same]
        refine ⟨rfl, rfl, rfl, rfl, fun hr => ?_⟩
        rw [seatArrive_brake (by rw [referenced_brakes]; exact hr), referenced_brakes, referenced_par]
    · have taken : c = seatLost l b :=
        publishPosition_eq (moved_falls hs hb).1 (moved_falls hs hb).2 (unmoved_edges ho).1
      rw [taken]
      exact ⟨fun hm h => if_pos ⟨hm, h⟩, fun h => if_neg fun hn => h.elim (· hn.1) (· hn.2)⟩
    · have taken : c = openLimitMade l b :=
        publishPosition_eq (unmoved_edges hs).1 (unmoved_edges hs).2 (moved_rises ho hb).1
      rw [taken]
      rfl
    · exact publishPosition_eq (unmoved_edges hs).1 (unmoved_edges hs).2 (inputRises_unmade hb)
  case encoder =>
    intro b r
    refine ⟨fun forward => ?count, leafIllegal l b, exec_illegalTransition l s, ?_⟩
    case count =>
      intro step
      have pos := (leafCount_pos l forward b l).trans (counted_pos l forward b)
      refine ⟨leafCount l forward b, exec_encoderCount l forward s, ?_, ?_, ?_, fun hs => ?_, fun hs h1 h2 => ?_,
        fun hs h => ?_, fun hs h => ?_, ?_, fun h => ?_, ?judged, ?_, ?_, leafCount_sameBut l forward b⟩
      · rw [pos, countedPos_phases.1]
        rfl
      · rw [pos, countedPos_phases.2.1]
        rfl
      · rw [pos, countedPos_phases.2.2]
        rfl
      · rw [pos, hs]
        exact ⟨rfl, rfl⟩
      · rw [pos, hs]
        exact countedPos_within h1 h2
      · rw [pos, hs]
        exact countedPos_below h
      · rw [pos, hs]
        exact countedPos_above h
      · rw [leafCount_win, counted_win]
        rfl
      · rw [leafCount_flt_rest l forward b h, counted_flt, h]
        rfl
      · intro x inMotion opposes wrong missed skewed
        have wrong_iff : wrong ↔ wrongDirection l (counted l forward b) = true := by
          rw [wrongDirection_counted_iff, ← leafCount_wrongDir]
        have missed_iff : missed ↔ seatMissed l (counted l forward b) = true := by
          rw [seatMissed_counted_iff, ← leafCount_pos]
        have skewed_iff : skewed ↔ skewStands (counted l forward b) = true := by
          simp only [skewStands_counted_iff, ← leafCount_pos, ← leafCount_angle]
          rfl
        have moves : ∀ m, inMotion m → leafInMotion (counted l forward b) m = true := fun m h =>
          (counted_motion l forward b m).trans h
        have wrong_mem : wrong → (l, .wrongDirection) ∈ countFindings l (counted l forward b) := fun h =>
          mem_countFindings.mpr (.inl ⟨wrong_iff.mp h, rfl, rfl⟩)
        have skewed_mem : skewed → ∀ m, inMotion m → (m, .skew) ∈ countFindings l (counted l forward b) := fun h m hm =>
          mem_countFindings.mpr (.inr (.inl ⟨⟨skewed_iff.mp h, moves m hm⟩, rfl⟩))
        have missed_mem : missed → (l, .seatNotFound) ∈ countFindings l (counted l forward b) := fun h =>
          mem_countFindings.mpr (.inr (.inr ⟨missed_iff.mp h, rfl, rfl⟩))
        have unfound : b.sil.mode ≠ .operate ∨ (¬ wrong ∧ ¬ missed ∧ ¬ skewed) →
            leafCount l forward b = counted l forward b ∧ x = (counted l forward b).leaves.get l := fun h => by
          have same := leafCount_unfound l forward b (h.imp_right fun ⟨hw, hm, hs⟩ =>
            countFindings_nil (mt wrong_iff.mpr hw) (mt missed_iff.mpr hm) (mt skewed_iff.mpr hs))
          exact ⟨same, congrArg (fun c : Blocks => c.leaves.get l) same⟩
        have opposes_iff : (leafInMotion b l && countOpposes r.mot.kind forward) = true ↔ inMotion l ∧ opposes := by
          rw [Bool.and_eq_true, countOpposes_iff]
        have wrongDir : x.flt.wrongDir = if (leafInMotion b l && countOpposes r.mot.kind forward) = true
            then r.flt.wrongDir + 1 else r.flt.wrongDir := by
          rw [leafCount_wrongDir, counted_flt]
        refine ⟨fun hn => ⟨fun h => ?_, fun ho h => ?_⟩, fun hn ho => ?_, fun h => ?_, fun ho => ⟨fun h => ?_, fun h => ?_,
          fun h m hn => ?_, fun h h1 h2 => ?_, fun h h1 h2 => ?_⟩, fun k hk => ?_, fun h => ?_⟩
        · rw [(unfound h).2, counted_flt]
        · rcases h with h | h | h
          · exact leafCount_stall l forward b ho (wrong_mem h)
          · exact leafCount_stall l forward b ho (missed_mem h)
          · exact leafCount_stall l forward b ho (skewed_mem h l hn)
        · rw [wrongDir, if_pos (opposes_iff.mpr ⟨hn, ho⟩)]
        · exact wrongDir.trans (if_neg fun hb => h.elim (· (opposes_iff.mp hb).1) (· (opposes_iff.mp hb).2))
        · exact leafCount_made l forward b ho (wrong_mem h)
        · exact leafCount_made l forward b ho (missed_mem h)
        · exact leafCount_made l forward b ho (skewed_mem h m hn)
        · exact leafCount_alone l forward b ho (countFindings_wrongDirection (wrong_iff.mp h) (mt missed_iff.mpr h1)
            (mt skewed_iff.mpr h2))
        · exact leafCount_alone l forward b ho (countFindings_seatNotFound (mt wrong_iff.mpr h1) (missed_iff.mp h)
            (mt skewed_iff.mpr h2))
        · rcases (mem_kinds_of_leafCount l forward b hk).imp_right mem_countFindings.mp with
            h | ⟨h, -, e⟩ | ⟨⟨h, -⟩, e⟩ | ⟨h, -, e⟩
          · exact .inl h
          · exact .inr (.inl ⟨wrong_iff.mpr h, e⟩)
          · exact .inr (.inr (.inr ⟨skewed_iff.mpr h, e⟩))
          · exact .inr (.inr (.inl ⟨missed_iff.mpr h, e⟩))
        · obtain ⟨same, leaf⟩ := unfound h
          rw [leaf, same, counted_flt]
          exact ⟨counted_sameBut l forward b .brakes (by decide), rfl, rfl, counted_mot l forward b l,
            counted_get_other l forward b⟩
      · rw [leafCount_pos, counted_get_other]
      · rw [leafCount_win, counted_get_other]
    · obtain ⟨rule, h⟩ := leafIllegal_eq l b
      rw [leafState, h, note_leaves, setLeaf_leaves, PerLeaf.get_set_same, perLeaf_get_set_otherLeaf]
      refine ⟨rfl, rfl, rfl, rfl, rfl, rfl, ?_⟩
      rw [← h]
      exact leafIllegal_sameBut l b

end Sys2Proof.Proofs

/-! The wind cap over the gust and the sensor state (R137). -/

namespace Sys2Proof.Proofs

open Sys2Proof.Machine

section

variable {b : Blocks}

/-! ## The rows of the cap's table -/

theorem windCap_of_unsound (h : b.wmn.sound = false) : windCap b = b.par.vCreep := by
  simp [windCap, h]

theorem windCap_of_wStop_le (h : b.par.wStopDms ≤ b.wmn.gust) : windCap b = b.par.vCreep := by
  simp [windCap, h]

theorem windCap_of_le_wKnee (hs : b.wmn.sound = true) (hg : b.wmn.gust < b.par.wStopDms)
    (h : b.wmn.gust ≤ b.par.wKneeDms) : windCap b = 1000 := by
  simp [windCap, hs, Nat.not_le.mpr hg, h]

theorem windCap_on_slope (hs : b.wmn.sound = true) (hk : b.par.wKneeDms < b.wmn.gust)
    (hg : b.wmn.gust < b.par.wStopDms) : windCap b = b.par.vCreep +
      (1000 - b.par.vCreep) * (b.par.wStopDms - b.wmn.gust) / (b.par.wStopDms - b.par.wKneeDms) := by
  simp [windCap, hs, Nat.not_le.mpr hg, Nat.not_le.mpr hk]

/-! ## The bounds of the cap -/

/-- A share of at most the whole: past W_KNEE_DMS, what is left to W_STOP_DMS is no more than the slope's width. -/
theorem slope_le {rise left width : Nat} (h : left ≤ width) : rise * left / width ≤ rise :=
  Nat.div_le_of_le_mul <| calc
    rise * left ≤ rise * width := Nat.mul_le_mul_left rise h
    _ = width * rise := Nat.mul_comm rise width

/-- Every row of the table stays between V_CREEP and 1000. -/
theorem windCap_bounds (hv : b.par.vCreep ≤ 1000) : b.par.vCreep ≤ windCap b ∧ windCap b ≤ 1000 := by
  cases hs : b.wmn.sound with
  | false =>
    rw [windCap_of_unsound hs]
    exact ⟨le_rfl, hv⟩
  | true =>
    rcases le_or_gt b.par.wStopDms b.wmn.gust with stop | below
    · rw [windCap_of_wStop_le stop]
      exact ⟨le_rfl, hv⟩
    rcases le_or_gt b.wmn.gust b.par.wKneeDms with calm | past
    · rw [windCap_of_le_wKnee hs below calm]
      exact ⟨hv, le_rfl⟩
    · have share := slope_le (rise := 1000 - b.par.vCreep) (Nat.sub_le_sub_left past.le b.par.wStopDms)
      rw [windCap_on_slope hs past below]
      exact ⟨Nat.le_add_right _ _, (Nat.add_le_add_left share _).trans_eq (Nat.add_sub_of_le hv)⟩

end

/-- Settles O52: one lemma for each row of R137's table, and the bounds from the rows. W_KNEE_DMS below W_STOP_DMS keeps the
row of 1000 apart from the row of V_CREEP. -/
theorem windCapSlopesToCreep : Obligations.WindCapSlopesToCreep := by
  intro b apart
  exact ⟨windCap_of_unsound, windCap_of_wStop_le,
    fun sound calm => windCap_of_le_wKnee sound (calm.trans_lt apart) calm,
    windCap_on_slope, windCap_bounds⟩

end Sys2Proof.Proofs

/-! The parameters in their ranges and the passage queue in rank order, through every step (R163, R164, R202). -/

namespace Sys2Proof.Proofs

open Sys2Proof.Machine Sys2Proof.Safety

/-! ## A write of one parameter (R202) -/

theorem paramNamed_bounds {i j : Nat} (h : paramNamed i j = true) : 1 ≤ i ∧ i ≤ 40 := by
  simp only [paramNamed, Bool.and_eq_true, decide_eq_true_eq] at h
  exact h.1

theorem paramNamed_of_staged {i : Nat} (h : paramClass i = .staged) : paramNamed i 0 = true := by
  rw [paramClass_staged_iff] at h
  simp only [List.mem_cons, List.not_mem_nil, or_false] at h
  rcases h with rfl | rfl | rfl | rfl | rfl | rfl | rfl <;> rfl

theorem perLeaf_get_set_cases {α : Type} (r : PerLeaf α) (l k : LeafId) (a : α) :
    (r.set l a).get k = a ∨ (r.set l a).get k = r.get k := by
  by_cases h : k = l
  · exact .inl (h ▸ PerLeaf.get_set_same r l a)
  · exact .inr (PerLeaf.get_set_other r l k a h)

/-- Under the identifier written, the leaf named by the subject has the new value and the other leaf its old one. -/
theorem paramGet_paramSet_same (p : Params) (i j l v : Nat) :
    paramGet (paramSet p i j v) i l = v ∨ paramGet (paramSet p i j v) i l = paramGet p i l := by
  unfold paramSet
  split
  case h_40 =>
    unfold paramGet
    split
    case h_40 => exact .inl rfl
    all_goals exact .inr rfl
  all_goals first | exact .inl rfl | exact perLeaf_get_set_cases _ _ _ v

/-- Distinct identifiers name distinct fields: a write of one parameter leaves the others. -/
theorem paramGet_paramSet_other {i k : Nat} (hi : 1 ≤ i ∧ i ≤ 40) (hk : 1 ≤ k ∧ k ≤ 40) (h : k ≠ i) (p : Params)
    (j l v : Nat) : paramGet (paramSet p i j v) k l = paramGet p k l := by
  unfold paramSet
  split
  case h_40 =>
    unfold paramGet
    split
    case h_40 =>
      simp only [imp_false] at *
      omega
    all_goals rfl
  all_goals
    unfold paramGet
    split <;> first | rfl | exact absurd rfl h

/-- A write in range keeps the active values in their ranges. -/
theorem paramsOk_paramSet {p : Params} {i j v : Nat} (h : ParamsOk p) (hn : paramNamed i j = true)
    (hv : paramInRange i v = true) : ParamsOk (paramSet p i j v) := by
  intro k l hk
  by_cases e : k = i
  · subst e
    rcases paramGet_paramSet_same p k j l v with same | same <;> rw [same]
    · exact hv
    · exact h k l hk
  · rw [paramGet_paramSet_other (paramNamed_bounds hn) (paramNamed_bounds hk) e]
    exact h k l hk

/-- A write in range, or a clearing, keeps the pending values in their ranges. -/
theorem pendingOk_pendingSet {q : Pending} {i : Nat} {o : Option Nat} (h : PendingOk q)
    (ho : ∀ v : Nat, o = some v → paramInRange i v = true) : PendingOk (pendingSet q i o) := by
  have unstaged : paramClass i ≠ .staged → pendingSet q i o = q := fun hc => by
    rw [ne_eq, paramClass_staged_iff] at hc
    unfold pendingSet
    split <;> first | rfl | exact absurd (by decide) hc
  intro k v hk
  by_cases hc : paramClass i = .staged
  · by_cases e : k = i
    · subst e
      rw [pendingGet_pendingSet_same hc] at hk
      exact ho v hk
    · rw [pendingGet_pendingSet_other e] at hk
      exact h k v hk
  · rw [unstaged hc] at hk
    exact h k v hk

/-! ## The invariant -/

/-- The passage queue is in rank order with at most twelve places in use (R163). -/
def PassageOk (n : Nav) : Prop := RankOrder n.queue ∧ placesInUse n ≤ 12

/-- The active and the pending parameters are in their ranges, and the passage is in order. -/
def InRange (b : Blocks) : Prop := (ParamsOk b.par ∧ PendingOk b.pend) ∧ PassageOk b.nav

/-- A pending value becomes active (R202). -/
def activate (i : Nat) (b : Blocks) : Blocks :=
  { b with
    par := paramSet b.par i 0 ((pendingGet b.pend i).getD (paramGet b.par i 0))
    pend := pendingSet b.pend i none }

section
variable {a b : Blocks}

/-- An operation that leaves the parameters and the navigation record alone. -/
theorem inRange_of_sameBut {fs : List BlockField} (k : SameBut fs a b) (h : InRange a)
    (hn : BlockField.nav ∉ fs := by decide) (hp : BlockField.par ∉ fs := by decide)
    (hq : BlockField.pend ∉ fs := by decide) : InRange b := by
  have nav : b.nav = a.nav := k .nav hn
  have par : b.par = a.par := k .par hp
  have pend : b.pend = a.pend := k .pend hq
  unfold InRange
  rw [nav, par, pend]
  exact h

/-- An operation that writes the navigation record and leaves the parameters alone. -/
theorem inRange_of_nav {fs : List BlockField} (k : SameBut fs a b) (h : InRange a) (hb : PassageOk b.nav)
    (hp : BlockField.par ∉ fs := by decide) (hq : BlockField.pend ∉ fs := by decide) : InRange b := by
  have par : b.par = a.par := k .par hp
  have pend : b.pend = a.pend := k .pend hq
  refine ⟨?_, hb⟩
  rw [par, pend]
  exact h.1

theorem inRange_ite {p : Prop} [Decidable p] (ha : InRange a) (hb : InRange b) : InRange (if p then a else b) := by
  split
  · exact ha
  · exact hb

/-- A pending value was in its range when it was written, so the active one is after it. -/
theorem inRange_activate {i : Nat} (hi : paramClass i = .staged) (h : InRange b) : InRange (activate i b) := by
  obtain ⟨⟨active, pending⟩, passage⟩ := h
  refine ⟨⟨paramsOk_paramSet active (paramNamed_of_staged hi) ?_, pendingOk_pendingSet pending nofun⟩, passage⟩
  cases hv : pendingGet b.pend i with
  | none => exact active i 0 (paramNamed_of_staged hi)
  | some v => exact pending i v hv

/-! ## Where pending values become active -/

theorem inRange_applyPendingSpeeds (h : InRange b) : InRange (applyPendingSpeeds b) :=
  inRange_activate (i := 20) rfl (inRange_activate (i := 18) rfl h)

theorem inRange_applyCadence (h : InRange b) : InRange (applyCadence b) := inRange_activate (i := 13) rfl h

/-- Every pending value becomes active at RESTART and RECONFIGURE. -/
theorem paramsOk_adoptPending (h : InRange b) : ParamsOk (adoptPending b.par b.pend) := by
  have all : InRange (activate 40 (activate 39 (activate 38 (activate 20 (activate 18 (activate 13 (activate 1 b))))))) := by
    iterate 7 apply inRange_activate rfl
    exact h
  exact all.1.1

theorem inRange_presenceRestart (h : InRange b) : InRange (presenceRestart b) := by
  have active : InRange (activate 1 b) := inRange_activate rfl h
  unfold presenceRestart
  exact inRange_ite (inRange_ite active active) h

theorem inRange_phaseBoundary (h : InRange b) : InRange (phaseBoundary b) :=
  inRange_ite (inRange_applyCadence h) h

end

/-! ## The passage queue and the group (R163, R166) -/

section
variable {n : Nav}

/-- A vessel that leaves WAITING, or was not WAITING, frees places and takes none. -/
theorem waitingSlots_setVessel_le (id : Nat) {s : VesselState} (hs : s ≠ .waiting) (n : Nav) :
    (waitingSlots (setVessel id s n)).length ≤ (waitingSlots n).length := by
  unfold waitingSlots setVessel
  simp only [← List.countP_eq_length_filter, List.countP_map]
  refine List.countP_mono_left fun x _ hx => ?_
  simp only [Function.comp_apply, beq_iff_eq] at hx ⊢
  split at hx
  · exact absurd hx hs
  · exact hx

theorem passageOk_setVessel (id : Nat) {s : VesselState} (hs : s ≠ .waiting) (h : PassageOk n) :
    PassageOk (setVessel id s n) :=
  ⟨h.1, (Nat.add_le_add_left (waitingSlots_setVessel_le id hs n) _).trans h.2⟩

/-- Adoption and the resets empty the queue and the group. -/
theorem passageOk_cleared (n : Nav) : PassageOk n.cleared := ⟨.nil, Nat.zero_le _⟩

/-- A withdrawal from the queue. -/
theorem passageOk_filter (p : Vessel → Bool) (h : PassageOk n) : PassageOk { n with queue := n.queue.filter p } :=
  ⟨h.1.filter p, (Nat.add_le_add_right (List.length_filter_le p _) _).trans h.2⟩

/-- The first four queued vessels leave the queue and fill the slots of a new group (R167). -/
theorem passageOk_formGroup (passage newOpening : Bool) {b : Blocks} (h : PassageOk b.nav) :
    PassageOk (formGroup passage newOpening b).nav := by
  obtain ⟨order, places⟩ := h
  refine ⟨order.sublist (List.drop_sublist 4 _), ?_⟩
  have formed : (waitingSlots (formGroup passage newOpening b).nav).length ≤ (b.nav.queue.take 4).length := by
    refine (List.length_filter_le _ _).trans ?_
    rw [formGroup_nav, List.length_map]
  calc placesInUse (formGroup passage newOpening b).nav
      ≤ (b.nav.queue.drop 4).length + (b.nav.queue.take 4).length := Nat.add_le_add_left formed _
    _ = b.nav.queue.length := by rw [Nat.add_comm, ← List.length_append, List.take_append_drop]
    _ ≤ placesInUse b.nav := Nat.le_add_right _ _
    _ ≤ 12 := places

/-- The waiting vessels return to the queue by rank: as many places are in use as before (R174). -/
theorem passageOk_loweringOrdered {b : Blocks} (h : PassageOk b.nav) : PassageOk (loweringOrdered b).nav := by
  obtain ⟨order, places⟩ := h
  obtain ⟨perm, -, ordered⟩ := loweringOrdered_queue b
  refine ⟨ordered order, ?_⟩
  calc placesInUse (loweringOrdered b).nav
      = (loweringOrdered b).nav.queue.length := rfl
    _ = placesInUse b.nav := by
      rw [perm.length_eq, List.length_append, List.length_map, Nat.add_comm]
      rfl
    _ ≤ 12 := places

/-- A place by rank: the entries before it are of equal or better rank, those after it of a worse one (R164). -/
theorem insertVessel_splits (v : Vessel) (q : List Vessel) : ∃ before after : List Vessel, q = before ++ after ∧
    insertVessel v q = before ++ v :: after ∧ (∀ x ∈ before, classRank x.cls ≤ classRank v.cls) ∧
      (RankOrder q → ∀ x ∈ after, classRank v.cls < classRank x.cls) := by
  induction q with
  | nil => exact ⟨[], [], rfl, rfl, nofun, fun _ => nofun⟩
  | cons x rest ih =>
    rw [insertVessel]
    split
    next better =>
      obtain ⟨before, after, splits, inserted, le, lt⟩ := ih
      refine ⟨x :: before, after, by rw [splits]; rfl, by rw [inserted]; rfl,
        List.forall_mem_cons.mpr ⟨better, le⟩, fun h => lt h.of_cons⟩
    next worse =>
      refine ⟨[], x :: rest, rfl, rfl, nofun, fun h => List.forall_mem_cons.mpr ⟨not_le.mp worse, fun y hy => ?_⟩⟩
      exact (not_le.mp worse).trans_le ((List.pairwise_cons.mp h).1 y hy)

theorem rankOrder_insertVessel (v : Vessel) {q : List Vessel} (h : RankOrder q) : RankOrder (insertVessel v q) := by
  obtain ⟨before, after, rfl, inserted, le, lt⟩ := insertVessel_splits v q
  rw [inserted]
  obtain ⟨hb, ha, across⟩ := List.pairwise_append.mp h
  refine List.pairwise_append.mpr ⟨hb, List.pairwise_cons.mpr ⟨fun y hy => (lt h y hy).le, ha⟩, fun x hx y hy => ?_⟩
  rcases List.mem_cons.mp hy with rfl | hy
  · exact le x hx
  · exact across x hx y hy

/-- An accepted vessel takes one place, in the group or in the queue. -/
theorem passageOk_addVessel (v : Vessel) {b : Blocks} (h : RankOrder b.nav.queue) (hp : placesInUse b.nav < 12) :
    PassageOk (addVessel v b).blocks.nav := by
  unfold addVessel
  split
  · refine ⟨h, ?_⟩
    simpa [placesInUse, waitingSlots, ← Nat.add_assoc] using hp
  · refine ⟨rankOrder_insertVessel v h, ?_⟩
    obtain ⟨before, after, splits, inserted, -, -⟩ := insertVessel_splits v b.nav.queue
    simp only [placesInUse, splits, List.length_append] at hp
    simp only [placesInUse, inserted, List.length_append, List.length_cons]
    have same : waitingSlots { b.nav with queue := before ++ v :: after } = waitingSlots b.nav := rfl
    rw [same]
    omega

end

end Sys2Proof.Proofs

/-! What every operation of an event, and then every step, keeps of the parameters' ranges and the passage's order. -/

namespace Sys2Proof.Proofs

open Sys2Proof.Machine Sys2Proof.Safety

/-! ## What follows by itself -/

section
variable {b : Blocks}

/-- A selection of the aspects writes neither the queue nor the slots. -/
theorem inRange_selectAspects (h : InRange b) : InRange (selectAspects b) := by
  refine inRange_of_nav (selectAspects_sameBut b) h ?_
  rw [selectAspects_nav]
  exact h.2

theorem inRange_movementBegun (m : Movement) (h : InRange b) : InRange (movementBegun m b) := by
  have speeds := inRange_ite (p := (takesPart b .north m || takesPart b .south m) = true) (inRange_applyPendingSpeeds h) h
  exact speeds

theorem inRange_startMovement (m : Movement) (h : InRange b) : InRange (startMovement m b) :=
  inRange_of_sameBut (startMovement_sameBut_movementBegun m b) (inRange_movementBegun m h)

theorem inRange_directMovement (m : Movement) (h : InRange b) : InRange (directMovement m b) :=
  inRange_ite (inRange_of_sameBut (setNext_sameBut (some m) b) h) (inRange_startMovement m h)

theorem inRange_takeNextMovement (h : InRange b) : InRange (takeNextMovement b) := by
  have taken : InRange (setNext none b) := inRange_of_sameBut (setNext_sameBut none b) h
  unfold takeNextMovement
  split
  · exact h
  · refine inRange_ite h (inRange_ite taken (inRange_ite taken ?_))
    split
    · exact inRange_of_sameBut (setHeld_sameBut _ _) taken
    · exact inRange_startMovement _ taken

theorem inRange_followConditions (h : InRange b) : InRange (followConditions b) :=
  inRange_takeNextMovement (inRange_of_sameBut (applyCeiling_sameBut .south _)
    (inRange_of_sameBut (applyCeiling_sameBut .north _) (inRange_of_sameBut (interruptUnseated_sameBut _)
      (inRange_of_sameBut (maintainConditions_sameBut _) (inRange_of_sameBut (dropOverrides_sameBut b) h)))))

theorem passageOk_watchProceed (h : PassageOk b.nav) : PassageOk (watchProceed b).nav := by
  unfold watchProceed
  split
  · split_ifs <;> exact h
  · exact h

theorem passageOk_grantTest (h : PassageOk b.nav) : PassageOk (grantTest b).nav := by
  have granted : ∀ id, PassageOk (setVessel id .proceeding b.nav) := fun id => passageOk_setVessel id nofun h
  unfold grantTest
  split
  · split
    · exact h
    · split
      · exact h
      · split
        · exact h
        · exact granted _
  · exact h

theorem passageOk_followPassage (h : PassageOk b.nav) : PassageOk (followPassage b).nav := by
  have opened : ∀ {x : Blocks}, PassageOk x.nav → PassageOk (openGroup x).nav := fun hx => by
    unfold openGroup
    split <;> exact hx
  have completed : ∀ {x : Blocks}, PassageOk x.nav → PassageOk (completeGroup x).nav := fun hx => by
    unfold completeGroup
    split <;> exact hx
  rw [followPassage, selectAspects_nav]
  exact passageOk_grantTest (completed (opened (passageOk_watchProceed h)))

theorem inRange_followDemand (h : InRange b) : InRange (followDemand b) := by
  unfold followDemand
  split
  · exact inRange_applyCadence h
  · exact h
  · exact h

theorem inRange_followAspects (h : InRange b) : InRange (followAspects b) :=
  inRange_of_sameBut (sameBut_foldl takeCommand takeCommand_sameBut lampGroups _) (inRange_followDemand h)

theorem inRange_settleRound (s0 : Blocks) (h : InRange b) : InRange (settleRound s0 b) := by
  have conditions : InRange (followConditions (noteLeaves s0 (followLeaves b))) :=
    inRange_followConditions (inRange_of_sameBut (noteLeaves_sameBut s0 _) (inRange_of_sameBut (followLeaves_sameBut b) h))
  have road : InRange (roadAdvance (advanceSequence (followConditions (noteLeaves s0 (followLeaves b))))) :=
    inRange_of_sameBut (roadAdvance_sameBut _) (inRange_of_sameBut (advanceSequence_sameBut _) conditions)
  have span := inRange_of_sameBut (followSpan_sameBut s0 _) road
  exact inRange_followAspects (inRange_of_nav (followPassage_sameBut _) span (passageOk_followPassage span.2))

theorem inRange_settleOperate (s0 : Blocks) (h : InRange b) : InRange (settleOperate s0 b) :=
  iter_keeps (P := InRange) (fun _ => inRange_settleRound s0) 4 b h

theorem inRange_adopt (o : AdoptOutcome) (h : InRange b) : InRange (adopt o b) := by
  have set : InRange (adoptionSet o b) := inRange_of_nav (adoptionSet_sameBut o b) h (passageOk_cleared _)
  have entered : InRange (adoptionEntered o b) := inRange_of_sameBut (adoptionEntered_sameBut o b) set
  have lamps : InRange (beginLamps (selectAspects (adoptionEntered o b))) :=
    inRange_of_sameBut (sameBut_foldl beginSupervision beginSupervision_sameBut lampGroups _)
      (inRange_followDemand (inRange_selectAspects entered))
  rw [adopt_eq]
  exact inRange_of_sameBut (adoptionNotes_sameBut _) lamps

theorem inRange_settle (s0 : Blocks) (h : InRange b) : InRange (settle s0 b) := by
  unfold settle
  split
  · exact h
  · exact inRange_ite (inRange_settleOperate s0 (inRange_adopt _ h)) h
  · exact inRange_settleOperate s0 h

/-! ## What the requests do to the parameters and the passage -/

theorem inRange_inMode {m : Mode} {t : Taken} (h : InRange b) (ht : InRange t.blocks) : InRange (inMode m b t).blocks := by
  unfold inMode
  split
  · exact ht
  · exact h

theorem inRange_operate {body : List Octet} {phase : Bool} {permit : List Cond} {effect : Blocks → Blocks}
    (h : InRange b) (he : InRange (effect b)) : InRange (operate body phase permit effect b).blocks := by
  unfold operate
  split
  · exact h
  · refine inRange_inMode h ?_
    split
    · exact h
    · split
      · exact h
      · exact he

/-- An accepted write of a parameter, to its active or to its pending value. -/
theorem inRange_writeParam {ident subject v : Nat} (h : InRange b) (hn : paramNamed ident subject = true)
    (hv : paramInRange ident v = true) : InRange (writeParam ident subject v b) := by
  obtain ⟨⟨active, pending⟩, passage⟩ := h
  unfold writeParam
  split
  · exact ⟨⟨active, pendingOk_pendingSet pending fun w hw => Option.some_inj.mp hw ▸ hv⟩, passage⟩
  · refine inRange_of_sameBut (afterWrite_sameBut ident _) ⟨⟨?_, ?_⟩, passage⟩
    · exact paramsOk_paramSet active hn hv
    · exact pendingOk_pendingSet pending nofun

/-- The ranges hold no negative value, so a value in range is its own natural number. -/
theorem paramInRange_toNat {ident : Nat} {v : Int} (h : paramInRange ident v = true) :
    paramInRange ident v.toNat = true := by
  have nonneg : 0 ≤ v := by
    simp only [paramInRange, Bool.and_eq_true, decide_eq_true_eq] at h
    omega
  rwa [Int.toNat_of_nonneg nonneg]

theorem inRange_setParam (ident subject : Nat) (v : Int) (h : InRange b) :
    InRange (setParam ident subject v b).blocks := by
  unfold setParam
  split_ifs with named mode range creep
  iterate 4 exact h
  exact inRange_writeParam h (Bool.eq_true_of_not_eq_false named) (paramInRange_toNat (Bool.eq_true_of_not_eq_false range))

/-- RESTART and RECONFIGURE make every pending value active and empty the queue and the group. -/
theorem inRange_restartBlocks (h : InRange b) : InRange (restartBlocks b) := by
  refine inRange_of_sameBut (restartBlocks_sameBut_kept b) ⟨⟨paramsOk_adoptPending h, fun i v hv => ?_⟩, passageOk_cleared _⟩
  have reset : pendingGet {} i = some v := hv
  simp [pendingGet_reset] at reset

theorem inRange_formGroup (passage newOpening : Bool) (h : InRange b) : InRange (formGroup passage newOpening b) :=
  ⟨(inRange_activate (i := 38) rfl h).1, passageOk_formGroup passage newOpening h.2⟩

theorem inRange_directUnlessHeld (m : Movement) (h : InRange b) : InRange (directUnlessHeld m b) :=
  inRange_ite h (inRange_directMovement m h)

theorem inRange_raiseLeaves (passage : Bool) (h : InRange b) : InRange (raiseLeaves passage b) := by
  have formed := inRange_formGroup passage (b.sil.phase == .unlocked) h
  exact inRange_ite formed (inRange_directUnlessHeld _ formed)

theorem inRange_lowerLeaves (h : InRange b) : InRange (lowerLeaves b) := by
  have ordered : InRange (loweringOrdered b) :=
    inRange_of_nav (loweringOrdered_sameBut b) h (passageOk_loweringOrdered h.2)
  have stopped := inRange_of_sameBut (stopLeaves_sameBut _) ordered
  refine inRange_ite ordered ?_
  split
  · exact inRange_of_sameBut (setHeld_sameBut _ _) stopped
  · exact inRange_directMovement _ stopped

theorem inRange_resumeMotion (h : InRange b) : InRange (resumeMotion b) := by
  have advanced := inRange_of_sameBut (advanced_sameBut b) h
  have resumed : ∀ {x : Blocks}, InRange x → InRange (resumeMovement x) := fun hx => by
    unfold resumeMovement
    split
    · exact hx
    · exact inRange_ite hx (inRange_directMovement _ hx)
  exact resumed advanced

theorem inRange_clearVessel (v : Vessel) (h : InRange b) : InRange (clearVessel v b) := by
  have gaps : InRange (activate 40 (activate 39 b)) := inRange_activate rfl (inRange_activate rfl h)
  exact inRange_selectAspects ⟨gaps.1, passageOk_setVessel v.ident (s := .cleared) nofun h.2⟩

end

end Sys2Proof.Proofs

/-! The frames of the requests that touch neither the parameters nor the passage, and what every step keeps of both. -/

namespace Sys2Proof.Proofs

open Sys2Proof.Machine Sys2Proof.Safety

/-! ## The frames of the requests -/

section
variable {b : Blocks}

theorem inMode_sameBut {fs : List BlockField} {m : Mode} {t : Taken} (h : SameBut fs b t.blocks) :
    SameBut fs b (inMode m b t).blocks := by
  unfold inMode
  split
  · exact h
  · exact sameBut_refl fs b

theorem takeAssignInput_sameBut (body : List Octet) (b : Blocks) :
    SameBut [.cat, .iq, .notes] b (takeAssignInput body b).blocks := by
  have refused := sameBut_refl [.cat, .iq, .notes] b
  unfold takeAssignInput
  split
  · refine inMode_sameBut ?_
    split
    · unfold assignPosition
      split
      · split_ifs <;> first | exact refused | exact assignEntry_sameBut _ _ b
      · exact refused
    · split
      · exact assignEntry_sameBut _ _ b
      · exact refused
    · exact refused
  · exact refused

theorem takeAssignOutput_sameBut (body : List Octet) (b : Blocks) :
    SameBut [.cat] b (takeAssignOutput body b).blocks := by
  have refused := sameBut_refl [.cat] b
  unfold takeAssignOutput
  split
  · refine inMode_sameBut ?_
    split
    · unfold assignOutput
      split
      · exact refused
      · split
        · split <;> exact refused
        · split
          · exact refused
          · exact setOutput_sameBut _ _ _ b
    · exact refused
  · exact refused

theorem takeClearAssignment_sameBut (body : List Octet) (b : Blocks) :
    SameBut [.cat, .iq, .notes] b (takeClearAssignment body b).blocks := by
  have refused := sameBut_refl [.cat, .iq, .notes] b
  unfold takeClearAssignment
  split
  · refine inMode_sameBut ?_
    split
    · unfold clearInput
      split
      · exact refused
      · split
        · exact refused
        · exact assignEntry_sameBut _ none b
    · unfold clearOutput
      split
      · split
        · exact refused
        · exact sameBut_mono (setOutput_sameBut _ _ none b) (by decide)
      · exact refused
    · exact clearTable_sameBut b
    · exact refused
  · exact refused

theorem takeConfigDone_sameBut (body : List Octet) (b : Blocks) : SameBut [.sil] b (takeConfigDone body b).blocks := by
  unfold takeConfigDone
  split
  · exact sameBut_refl _ b
  · refine inMode_sameBut ?_
    split
    · exact sameBut_refl _ b
    · exact sil_sameBut _ b

theorem takeEstopReset_sameBut (body : List Octet) (b : Blocks) :
    SameBut [.sil, .notes] b (takeEstopReset body b).blocks := by
  have cleared : SameBut [.sil, .notes] b (note (.estop [] [] []) { b with sil := { b.sil with latch := false } }) :=
    sameBut_join (sil_sameBut _ b) (note_sameBut _ _) (by decide) (by decide)
  unfold takeEstopReset
  split
  · exact sameBut_refl _ b
  · exact inMode_sameBut (by split_ifs <;> first | exact cleared | exact sameBut_refl _ b)

theorem takeFaultClear_sameBut (body : List Octet) (b : Blocks) :
    SameBut [.leaves, .locks, .seq, .barriers] b (takeFaultClear body b).blocks := by
  have refused := sameBut_refl [.leaves, .locks, .seq, .barriers] b
  unfold takeFaultClear
  split
  · refine inMode_sameBut ?_
    split
    · unfold faultClearLeaf
      split
      · exact refused
      · split
        · exact refused
        · split
          · exact refused
          · exact sameBut_mono (clearLeaf_sameBut _ b) (by decide)
    · unfold faultClearLock
      split
      · exact refused
      · split_ifs
        iterate 4 exact refused
        exact sameBut_join (clearLock_sameBut _ b) (advanceSequence_sameBut _) (by decide) (by decide)
    · unfold faultClearBarrier
      split
      · exact refused
      · split_ifs
        iterate 3 exact refused
        exact sameBut_mono (clearBarrier_sameBut _ b) (by decide)
    · exact refused
  · exact refused

theorem changeOverrides_sameBut (os : List Override) (b : Blocks) :
    SameBut [.sil, .notes] b (changeOverrides os b) :=
  sameBut_join (sil_sameBut _ b) (note_sameBut _ _) (by decide) (by decide)

theorem takeOverrideGrant_sameBut (body : List Octet) (b : Blocks) :
    SameBut [.sil, .notes] b (takeOverrideGrant body b).blocks := by
  unfold takeOverrideGrant
  split
  · refine inMode_sameBut ?_
    split
    · exact sameBut_refl _ b
    · split_ifs <;> first | exact sameBut_refl _ b | exact changeOverrides_sameBut _ b
  · exact sameBut_refl _ b

theorem takeOverrideRevoke_sameBut (body : List Octet) (b : Blocks) :
    SameBut [.sil, .notes] b (takeOverrideRevoke body b).blocks := by
  unfold takeOverrideRevoke
  split
  · refine inMode_sameBut ?_
    split
    · exact sameBut_refl _ b
    · split
      · exact changeOverrides_sameBut _ b
      · exact sameBut_refl _ b
  · exact sameBut_refl _ b

/-- IDENTIFY, GET_PARAM and PRESENCE change nothing themselves (R203). -/
theorem takeIdentify_blocks (body : List Octet) (b : Blocks) : (takeIdentify body b).blocks = b := by
  unfold takeIdentify
  split <;> rfl

theorem takeGetParam_blocks (body : List Octet) (b : Blocks) : (takeGetParam body b).blocks = b := by
  unfold takeGetParam
  split
  · split <;> rfl
  · rfl

theorem takePresence_blocks (body : List Octet) (b : Blocks) : (takePresence body b).blocks = b := by
  unfold takePresence
  split
  · split <;> rfl
  · rfl

theorem closeRoad_sameBut (b : Blocks) : SameBut [.sil, .rsq, .slu, .barriers] b (closeRoad b) := by
  have closing : SameBut [.sil, .rsq, .slu, .barriers] b (setPhase .closing b) :=
    sameBut_mono (setPhase_sameBut _ b) (by decide)
  have alert : ∀ x, SameBut [.sil, .rsq, .slu, .barriers] x (closeFromAlert x) := fun x =>
    sameBut_mono (closeFromAlert_sameBut x) (by decide)
  unfold closeRoad
  exact sameBut_ite (alert b) (sameBut_ite (sameBut_trans closing (sameBut_mono (enterAmber_sameBut _) (by decide)))
    (sameBut_trans closing (alert _)))

theorem leaveAlert_sameBut (b : Blocks) : SameBut [.sil, .rsq, .slu] b (leaveAlert b) :=
  sameBut_join (sil_sameBut _ b) (showPhase_sameBut .roadOpen .none _) (by decide) (by decide)

theorem openRoad_sameBut (b : Blocks) : SameBut [.sil, .rsq, .slu, .barriers] b (openRoad b) := by
  have reopening : SameBut [.sil, .rsq, .slu, .barriers] b (setPhase .reopening b) :=
    sameBut_mono (setPhase_sameBut _ b) (by decide)
  unfold openRoad
  exact sameBut_ite (sameBut_mono (leaveAlert_sameBut b) (by decide))
    (sameBut_ite (sameBut_trans reopening (abandonClosure_sameBut _))
      (sameBut_trans reopening (sameBut_mono (enterPhase_sameBut _ _) (by decide))))

theorem withdrawLocks_sameBut (b : Blocks) : SameBut [.sil, .seq, .notes, .locks] b (withdrawLocks b) := by
  have started : ∀ x, SameBut [.sil, .seq, .notes, .locks] x (advanceSequence (startSequence .withdraw x)) := fun x =>
    sameBut_join (startSequence_sameBut .withdraw x) (advanceSequence_sameBut _) (by decide) (by decide)
  exact sameBut_trans (sameBut_ite (sameBut_mono (setPhase_sameBut .unlocking b) (by decide)) (sameBut_refl _ b))
    (started _)

theorem driveLocks_sameBut (b : Blocks) : SameBut [.sil, .seq, .notes, .locks] b (driveLocks b) := by
  have locking : SameBut [.sil, .seq, .notes, .locks] b (setPhase .locking b) :=
    sameBut_mono (setPhase_sameBut _ b) (by decide)
  have started : ∀ x, SameBut [.sil, .seq, .notes, .locks] x (startSequence .drive x) := fun x =>
    sameBut_mono (startSequence_sameBut .drive x) (by decide)
  unfold driveLocks
  exact sameBut_trans
    (sameBut_ite (sameBut_trans locking (sameBut_mono (reverseSequence_sameBut _) (by decide)))
      (sameBut_ite (started b) (sameBut_trans locking (started _))))
    (sameBut_mono (advanceSequence_sameBut _) (by decide))

end

/-! ## The requests of the passage and the parameters -/

section
variable (body : List Octet) {b : Blocks}

theorem inRange_takeSetParam (h : InRange b) : InRange (takeSetParam body b).blocks := by
  unfold takeSetParam
  split
  · exact inRange_setParam _ _ _ h
  · exact h

theorem inRange_takeLoadClearance (h : InRange b) : InRange (takeLoadClearance body b).blocks := by
  unfold takeLoadClearance
  split
  · exact h
  · split
    · exact h
    · refine inRange_inMode h ?_
      split <;> exact h

theorem inRange_takeReconfigure (h : InRange b) : InRange (takeReconfigure body b).blocks := by
  unfold takeReconfigure
  split_ifs
  · exact h
  · exact inRange_inMode h h
  · exact inRange_inMode h h
  · exact inRange_inMode h (inRange_restartBlocks h)

theorem inRange_takeRestart (h : InRange b) : InRange (takeRestart body b).blocks := by
  unfold takeRestart
  split_ifs
  · exact h
  · exact inRange_inMode h h
  · exact inRange_inMode h (inRange_of_sameBut (sil_sameBut _ _) (inRange_restartBlocks h))

theorem inRange_takeLeavesRaise (h : InRange b) : InRange (takeLeavesRaise body b).blocks := by
  unfold takeLeavesRaise raiseTo
  split
  · refine inRange_inMode h ?_
    split_ifs
    · exact h
    · exact h
    · split
      · exact h
      · exact inRange_raiseLeaves _ h
  · exact h

theorem inRange_addVessel (v : Vessel) (h : InRange b) (hp : placesInUse b.nav < 12) :
    InRange (addVessel v b).blocks := by
  have written : SameBut [.nav] b (addVessel v b).blocks := by
    unfold addVessel
    split <;> exact nav_sameBut _ b
  exact inRange_of_nav written h (passageOk_addVessel v h.2.1 hp)

/-- A vessel is accepted only while fewer than twelve places are in use (R164, check 5). -/
theorem inRange_takeVesselAdd (h : InRange b) : InRange (takeVesselAdd body b).blocks := by
  unfold takeVesselAdd
  split
  · refine inRange_inMode h ?_
    split
    · split
      · exact h
      · unfold judgeVessel
        split_ifs with held low high full
        iterate 4 exact h
        exact inRange_addVessel _ h (not_le.mp full)
    · exact h
  · exact h

theorem inRange_takeVesselWithdraw (h : InRange b) : InRange (takeVesselWithdraw body b).blocks := by
  unfold takeVesselWithdraw withdrawVessel
  split
  · refine inRange_inMode h ?_
    split_ifs
    · exact h
    · exact ⟨h.1, passageOk_filter _ h.2⟩
    · split
      · exact ⟨h.1, passageOk_setVessel _ (s := .withdrawn) nofun h.2⟩
      all_goals exact h
  · exact h

theorem inRange_takeVesselCleared (h : InRange b) : InRange (takeVesselCleared body b).blocks := by
  unfold takeVesselCleared vesselPassed
  split
  · refine inRange_inMode h ?_
    split
    · exact h
    · split
      · split
        · exact inRange_clearVessel _ h
        · exact h
      · exact h
  · exact h

end

/-- Every taken request, accepted or refused, keeps the parameters in their ranges and the passage in order. -/
theorem inRange_takeRequest (f : Frame) {b : Blocks} (h : InRange b) : InRange (takeRequest f b).blocks := by
  have unchanged : ∀ {t : Taken}, t.blocks = b → InRange t.blocks := fun e => e ▸ h
  have query : ∀ parts, InRange (answerQuery f.body parts b).blocks := fun parts =>
    unchanged (answerQuery_blocks _ parts b)
  unfold takeRequest
  split
  · exact unchanged (takeIdentify_blocks _ b)
  · exact inRange_takeSetParam _ h
  · exact unchanged (takeGetParam_blocks _ b)
  · exact inRange_of_sameBut (takeAssignInput_sameBut _ b) h
  · exact inRange_of_sameBut (takeAssignOutput_sameBut _ b) h
  · exact inRange_of_sameBut (takeClearAssignment_sameBut _ b) h
  · exact inRange_takeLoadClearance _ h
  · exact inRange_of_sameBut (takeConfigDone_sameBut _ b) h
  · exact inRange_takeReconfigure _ h
  · exact inRange_takeRestart _ h
  · exact inRange_operate h (inRange_of_sameBut (closeRoad_sameBut b) h)
  · exact inRange_operate h (inRange_of_sameBut (openRoad_sameBut b) h)
  · exact inRange_operate h (inRange_of_sameBut (withdrawLocks_sameBut b) h)
  · exact inRange_operate h (inRange_of_sameBut (driveLocks_sameBut b) h)
  · exact inRange_takeLeavesRaise _ h
  · exact inRange_operate h (inRange_lowerLeaves h)
  · exact inRange_operate h (inRange_directUnlessHeld _ (inRange_of_sameBut (setOrder_sameBut _ b) h))
  · exact inRange_operate h (inRange_of_sameBut (stopAndHold_sameBut .holdRequest b) h)
  · exact inRange_operate h (inRange_resumeMotion h)
  · exact inRange_of_sameBut (takeEstopReset_sameBut _ b) h
  · exact inRange_of_sameBut (takeFaultClear_sameBut _ b) h
  · exact inRange_of_sameBut (takeOverrideGrant_sameBut _ b) h
  · exact inRange_of_sameBut (takeOverrideRevoke_sameBut _ b) h
  · exact inRange_takeVesselAdd _ h
  · exact inRange_takeVesselWithdraw _ h
  · exact inRange_takeVesselCleared _ h
  iterate 8 exact query _
  · exact unchanged (takePresence_blocks _ b)
  · exact h

/-! ## One event -/

theorem inRange_takeHead {e : Event} (h : InRange e.blocks) : InRange (takeHead e).blocks := by
  rcases takeHead_cases e with ⟨he, -⟩ | ⟨f, rest, -, -, ⟨-, he⟩ | ⟨-, he⟩⟩ <;> rw [he]
  · exact h
  · exact inRange_settle _ (inRange_takeRequest f h)
  · exact inRange_settle _ (inRange_takeRequest f h)

theorem inRange_takeWaiting {e : Event} (h : InRange e.blocks) : InRange (takeWaiting e).blocks :=
  iter_keeps (P := fun e => InRange e.blocks) (fun _ => inRange_takeHead) _ e h

theorem inRange_finishEvent {e : Event} (h : InRange e.blocks) (q : List Instr) :
    InRange ((finishEvent e).toState q).blocks := by
  have taken : InRange (takeWaiting (startReply (takeWaiting e.settled))).blocks := by
    refine inRange_takeWaiting ?_
    rw [(startReply_keeps _).2.1]
    exact inRange_takeWaiting (inRange_settle _ h)
  have reported : (finishEvent e).blocks = (postReports (takeWaiting (startReply (takeWaiting e.settled)))).blocks :=
    (startReport_keeps _).2.1
  rw [toState_blocks, reported, postReports_blocks]
  exact taken

theorem inRange_runEvent {f : Blocks → Blocks} (hf : ∀ b, InRange b → InRange (f b)) {s : State}
    (h : InRange s.blocks) : InRange (runEvent f s).blocks := inRange_finishEvent (hf _ h) _

theorem inRange_inputEvent {f : Blocks → Blocks} (hf : ∀ b, InRange b → InRange (f b)) {s : State}
    (h : InRange s.blocks) : InRange (inputEvent f s).blocks :=
  inRange_runEvent (fun b hb => inRange_of_sameBut (publish_sameBut b _) (hf b hb)) h

theorem inRange_validFrame (f : Frame) {s : State} (h : InRange s.blocks) : InRange (validFrame f s).blocks := by
  refine inRange_finishEvent ?_ _
  unfold receive
  dsimp only
  split <;> exact inRange_presenceRestart h

theorem inRange_completeFrame (kind tag : Octet) (body : List Octet) (crc : BitVec 16) {s : State}
    (h : InRange s.blocks) : InRange (completeFrame kind tag body crc s).blocks := by
  unfold completeFrame
  split_ifs
  · exact h
  · exact inRange_validFrame _ h
  · exact h

theorem inRange_receiveOctet (o : Octet) (stop : Bool) {s : State} (h : InRange s.blocks) :
    InRange (receiveOctet o stop s).blocks := by
  have complete : ∀ os, InRange (completeOctets os s).blocks := fun os => by
    unfold completeOctets
    split
    · split
      · exact inRange_completeFrame _ _ _ _ h
      · exact h
    · exact h
  have taken : ∀ os, InRange (frameOctetTaken os o s).blocks := fun os => by
    unfold frameOctetTaken
    dsimp only
    split_ifs
    · exact h
    · exact complete _
    · exact h
  unfold receiveOctet
  split
  · split <;> exact h
  · split
    · exact taken _
    · exact h

/-! ## One step -/

theorem inRange_powerOn (b : Blocks) : InRange (powerOn b) :=
  ⟨⟨paramsOk_reset, fun i v hv => by
    have reset : pendingGet {} i = some v := hv
    simp [pendingGet_reset] at reset⟩, .nil, Nat.zero_le _⟩

theorem inRange_gapExpiry {b : Blocks} (h : InRange b) : InRange (gapExpiry b) := by
  unfold gapExpiry
  split <;> exact h

theorem inRange_presenceExpiry {b : Blocks} (h : InRange b) : InRange (presenceExpiry b) := by
  have stopped : ∀ {x : Blocks}, InRange x → InRange (note .console (stopAndHold .consoleLost x)) := fun hx =>
    inRange_of_sameBut (sameBut_join (stopAndHold_sameBut .consoleLost _) (note_sameBut _ _)
      (hs := [.sil, .leaves, .notes]) (by decide) (by decide)) hx
  unfold presenceExpiry
  exact inRange_ite (stopped h) h

/-- The invariant through a command that carries no request. -/
theorem inRange_exec_event (i : Instr) (hf : requestFrame i = none) {s t : State} (h : InRange s.blocks)
    (he : exec i s = .next t) : InRange t.blocks := by
  have frame : ∀ {fs : List BlockField} (f : Blocks → Blocks), (∀ b, SameBut fs b (f b)) →
      BlockField.nav ∉ fs → BlockField.par ∉ fs → BlockField.pend ∉ fs → ∀ b, InRange b → InRange (f b) :=
    fun f k hn hp hq b hb => inRange_of_sameBut (k b) hb hn hp hq
  have event : ∀ {fs : List BlockField} (f : Blocks → Blocks), (∀ b, SameBut fs b (f b)) →
      (hn : BlockField.nav ∉ fs := by decide) → (hp : BlockField.par ∉ fs := by decide) →
      (hq : BlockField.pend ∉ fs := by decide) → InRange (runEvent f s).blocks :=
    fun f k hn hp hq => inRange_runEvent (frame f k hn hp hq) h
  have input : ∀ {fs : List BlockField} (f : Blocks → Blocks), (∀ b, SameBut fs b (f b)) →
      (hn : BlockField.nav ∉ fs := by decide) → (hp : BlockField.par ∉ fs := by decide) →
      (hq : BlockField.pend ∉ fs := by decide) → InRange (inputEvent f s).blocks :=
    fun f k hn hp hq => inRange_inputEvent (frame f k hn hp hq) h
  cases i
  case powerOnReset => cases he; exact inRange_powerOn _
  case consoleFrameReceived => cases he; exact inRange_completeFrame _ _ _ _ h
  case frameAbandoned => cases he; exact h
  case octetGapTimeout => cases he; exact h
  case transmitFrameEnd => cases he; exact inRange_finishEvent h _
  case presenceTimerExpiry => cases he; exact inRange_runEvent (fun _ => inRange_presenceExpiry) h
  case foundFrame k f => cases he; exact input _ (huntCandidate_sameBut k f)
  case confirmingFrame k f => cases he; exact input _ (confirmCandidate_sameBut k f)
  case alignedFrameBoundary k f => cases he; exact input _ (boundaryFrame_sameBut k f)
  case fieldFrameStart k => cases he; exact event _ (startFrame_sameBut k)
  case samplingTimerExpiry lines =>
    cases he
    exact inRange_inputEvent (s := tickReceiver s)
      (fun b hb => inRange_of_sameBut (a := passMillisecond b) (mapInputs_sameBut _ _) hb) h
  case holdExpiry k => cases he; exact input (endHolds k) fun _ => mapInputs_sameBut _ _
  case flashPhaseBoundary => cases he; exact inRange_runEvent (fun _ => inRange_phaseBoundary) h
  case edgeWindowExpiry g => cases he; exact event (lampEdgeExpiry g) fun _ => onFitted_sameBut g _ _
  case proveTimerExpiry g => cases he; exact event (lampProveExpiry g) fun _ => onFitted_sameBut g _ _
  case settleExpiry g => cases he; exact event (lampSettleExpiry g) fun _ => onFitted_sameBut g _ _
  case amberExpiry => cases he; exact event _ amberExpiry_sameBut
  case redWarnExpiry => cases he; exact event _ redWarnExpiry_sameBut
  case clearanceTimerExpiry => cases he; exact event _ clearanceExpiry_sameBut
  case barrierTravelTimeout k => cases he; exact event _ (barrierTimeout_sameBut k)
  case encoderCount l forward => cases he; exact event _ (leafCount_sameBut l forward)
  case illegalTransition l => cases he; exact event _ (leafIllegal_sameBut l)
  case speedWindowEnd l => cases he; exact event _ (windowEnd_sameBut l)
  case stallTimerExpiry l => cases he; exact event _ (stallExpiry_sameBut l)
  case profileUpdate l => cases he; exact event _ (leafUpdate_sameBut l)
  case brakeReleaseTimeout l => cases he; exact event _ (brakeNotReleased_sameBut l)
  case brakeSetTimeout l => cases he; exact event _ (brakeNotSet_sameBut l)
  case lockTravelTimeout k => cases he; exact event _ (lockTimeout_sameBut k)
  case gapRunOut => cases he; exact inRange_runEvent (fun _ => inRange_gapExpiry) h
  case anemoFallingEdge n => cases he; exact event _ (onWind_sameBut _)
  case calm => cases he; exact event _ (onWind_sameBut _)
  case gustAgeRise => cases he; exact event _ (onWind_sameBut _)
  case adoptTimeout => cases he; exact inRange_runEvent (fun _ hb => inRange_ite (inRange_adopt _ hb) hb) h
  case consoleOctetReceived o stop => cases he; exact inRange_receiveOctet o stop h
  all_goals cases hf

/-- The invariant through any command: a request is the arrival of its frame. -/
theorem inRange_exec (i : Instr) {s t : State} (h : InRange s.blocks) (he : exec i s = .next t) : InRange t.blocks := by
  cases hf : requestFrame i with
  | some f =>
    rw [exec_requestFrame hf] at he
    cases he
    exact inRange_completeFrame _ _ _ _ h
  | none => exact inRange_exec_event i hf h he

/-- Settles O60: a value is judged in range before it is written, pending or active, and becomes active as it stands; a vessel
takes a place only while one is free and stands by its rank, and the group takes its vessels from the queue and gives the
waiting ones back by rank. -/
theorem parametersAndQueueStayInRange : Obligations.ParametersAndQueueStayInRange := by
  intro s t params pending order places hs
  have before : InRange s.blocks := ⟨⟨params, pending⟩, order, places⟩
  have after : InRange t.blocks := by
    unfold step at hs
    split at hs
    · cases hs
      exact before
    next c rest _ => exact inRange_exec c (s := { s with pending := rest }) before hs
  obtain ⟨⟨active, staged⟩, ordered, used⟩ := after
  exact ⟨active, staged, ordered, used⟩

end Sys2Proof.Proofs

/-! The clearance table: what LOAD_CLEARANCE accepts and the required angle of an air draft (R160, R161). -/

namespace Sys2Proof.Proofs

open Sys2Proof.Machine Sys2Proof.Safety

/-! ## LOAD_CLEARANCE (R160) -/

/-- Until the mode is OPERATE a request's frame changes nothing before the request is taken. -/
theorem atTaking_config {s : State} (h : s.blocks.sil.mode = .config) : atTaking s = s.blocks := by
  have heard : presenceRestart s.blocks = s.blocks := if_neg (by rw [h]; nofun)
  rw [atTaking, heard, settle_config _ _ h]

/-- The two octets of a 16-bit operand hold its number. -/
theorem num16_octets (v : BitVec 16) : num16 (BitVec.ofNat 8 (v.toNat / 256)) (BitVec.ofNat 8 v.toNat) = v.toNat := by
  have hv := v.isLt
  simp only [num16, BitVec.toNat_ofNat]
  omega

/-- The body of a table reads back as its points. -/
theorem readPoints_pointOctets (points : List (BitVec 16 × BitVec 16)) :
    readPoints (pointOctets points) = points.map fun p => (p.1.toNat, p.2.toNat) := by
  induction points with
  | nil => rfl
  | cons p rest ih =>
    have split : pointOctets (p :: rest) = octets16 p.1 ++ octets16 p.2 ++ pointOctets rest := rfl
    have read : readPoints (octets16 p.1 ++ octets16 p.2 ++ pointOctets rest) =
        (num16 (BitVec.ofNat 8 (p.1.toNat / 256)) (BitVec.ofNat 8 p.1.toNat),
          num16 (BitVec.ofNat 8 (p.2.toNat / 256)) (BitVec.ofNat 8 p.2.toNat)) :: readPoints (pointOctets rest) := rfl
    rw [split, read, ih, num16_octets, num16_octets, List.map_cons]

/-- A relation between neighbours that composes holds between any two elements in order. -/
theorem chained_iff (r : Nat → Nat → Bool) (compose : ∀ x y z, r x y = true → r y z = true → r x z = true) :
    ∀ l : List Nat, chained r l = true ↔ l.Pairwise fun x y => r x y = true
  | [] => by simp [chained]
  | [x] => by simp [chained]
  | x :: y :: rest => by
    rw [chained, Bool.and_eq_true, chained_iff r compose (y :: rest), List.pairwise_cons (a := x)]
    refine and_congr_left fun tail => ⟨fun h => ?_, fun h => h y List.mem_cons_self⟩
    exact List.forall_mem_cons.mpr ⟨h, fun z hz => compose x y z h ((List.pairwise_cons.mp tail).1 z hz)⟩

/-- The six checks of R160. -/
theorem tableAccepted_iff (b : Blocks) (ps : List (Nat × Nat)) : tableAccepted b ps = true ↔
    2 ≤ ps.length ∧ ps.length ≤ 8 ∧ (∀ p ∈ ps, p.2 ≤ 6000) ∧ (ps.map Prod.fst).head? = some 0 ∧
      (ps.map Prod.fst).Pairwise (· < ·) ∧
      (ps.map Prod.fst).getLastD 0 ≤ min b.par.openAngleCd.north b.par.openAngleCd.south ∧
      (ps.map Prod.snd).Pairwise (· ≤ ·) := by
  have rising := chained_iff (fun x y => decide (x < y)) (by simp only [decide_eq_true_eq]; omega) (ps.map Prod.fst)
  have level := chained_iff (fun x y => decide (x ≤ y)) (by simp only [decide_eq_true_eq]; omega) (ps.map Prod.snd)
  simp only [decide_eq_true_eq] at rising level
  have opens : openAngle b = min b.par.openAngleCd.north b.par.openAngleCd.south := rfl
  simp only [tableAccepted, Bool.and_eq_true, decide_eq_true_eq, List.all_eq_true, List.forall_mem_map, beq_iff_eq,
    rising, level, opens, and_assoc]

/-- A table as long as its count says, taken in CONFIG, is accepted or refused as its points are judged. -/
theorem takeLoadClearance_config {points : List (BitVec 16 × BitVec 16)} (hn : points.length ≤ 15) {b : Blocks}
    (hm : b.sil.mode = .config) :
    takeLoadClearance (BitVec.ofNat 8 points.length :: pointOctets points) b =
      let ps := points.map fun p => (p.1.toNat, p.2.toNat)
      if tableAccepted b ps then accept { b with nav := { b.nav with table := ps, loaded := true } }
      else refuse .range b := by
  have count : (pointOctets points).length = 4 * num (BitVec.ofNat 8 points.length) := by
    rw [Laws.RequestFits.pointOctets_length, num, BitVec.toNat_ofNat, Nat.mod_eq_of_lt (by omega)]
  simp [takeLoadClearance, count, inMode, hm, readPoints_pointOctets]

/-- Settles O19: the octets of the request read back as its points, and the checks of their chain are the checks of R160. -/
theorem loadClearanceReplacesTheTable : Obligations.LoadClearanceReplacesTheTable := by
  intro tag points s hq hm hn ps f accepted
  have judged := takeLoadClearance_config hn hm
  have fits : f.body.length ≤ 64 := by
    simp only [f, List.length_cons, Laws.RequestFits.pointOctets_length]
    omega
  have answers : ∀ {b : Blocks} {r : Result}, takeLoadClearance f.body s.blocks = { blocks := b, result := r } →
      exec (.loadClearance tag points) s = .next (answered s f b r) := fun h =>
    exec_answered rfl fits hq (by rw [atTaking_config hm]; exact h)
  have checks : tableAccepted s.blocks ps = true ↔ accepted := tableAccepted_iff _ _
  exact ⟨fun h => answers (judged.trans (if_pos (checks.mpr h))), fun h => answers (judged.trans (if_neg (mt checks.mp h)))⟩

/-! ## The clearance of a table (R162) -/

/-- The angles of a table rise and its clearances do not fall. -/
def Rising (t : List (Nat × Nat)) : Prop := t.Pairwise fun p q => p.1 < q.1 ∧ p.2 ≤ q.2

theorem tableOk_rising {t : List (Nat × Nat)} (h : TableOk t) : Rising t := by
  obtain ⟨-, -, angles, heights⟩ := h
  exact (List.pairwise_map.mp angles).and (List.pairwise_map.mp heights)

/-- Below the end of the first segment the clearance stays between its two ends. -/
theorem segment_le {a a' c c' x : Nat} (hc : c ≤ c') (hx : x ≤ a') : c + (x - a) * (c' - c) / (a' - a) ≤ c' := by
  have share := slope_le (rise := c' - c) (Nat.sub_le_sub_right hx a)
  rw [Nat.mul_comm] at share
  omega

/-- The whole of a segment is its rise. -/
theorem segment_end {a a' c c' : Nat} (ha : a < a') (hc : c ≤ c') : c + (a' - a) * (c' - c) / (a' - a) = c' := by
  rw [Nat.mul_div_cancel_left _ (Nat.sub_pos_of_lt ha)]
  omega

theorem clearanceAt_first {a a' c c' x : Nat} (rest : List (Nat × Nat)) (hx : x ≤ a') :
    clearanceAt ((a, c) :: (a', c') :: rest) x = c + (x - a) * (c' - c) / (a' - a) := if_pos hx

/-- At the first angle of a table stands its first clearance. -/
theorem clearanceAt_head {p : Nat × Nat} {rest : List (Nat × Nat)} (h : Rising (p :: rest)) :
    clearanceAt (p :: rest) p.1 = p.2 := by
  obtain ⟨a, c⟩ := p
  cases rest with
  | nil => rfl
  | cons q rest =>
    have rise : a < q.1 := ((List.pairwise_cons.mp h).1 q List.mem_cons_self).1
    rw [clearanceAt_first rest rise.le]
    simp

/-- From the end of its first segment on, a table reads as the table of the other segments. -/
theorem clearanceAt_tail {p q : Nat × Nat} {rest : List (Nat × Nat)} (h : Rising (p :: q :: rest)) {x : Nat}
    (hx : q.1 ≤ x) : clearanceAt (p :: q :: rest) x = clearanceAt (q :: rest) x := by
  obtain ⟨⟨angle, height⟩, -⟩ := List.forall_mem_cons.mp (List.pairwise_cons.mp h).1
  rcases hx.eq_or_lt with rfl | past
  · rw [clearanceAt_head (List.pairwise_cons.mp h).2, clearanceAt_first rest le_rfl, segment_end angle height]
  · exact if_neg (not_le.mpr past)

/-- No clearance is below the first. -/
theorem le_clearanceAt {p : Nat × Nat} {rest : List (Nat × Nat)} (h : Rising (p :: rest)) (x : Nat) :
    p.2 ≤ clearanceAt (p :: rest) x := by
  induction rest generalizing p with
  | nil => exact le_rfl
  | cons q rest ih =>
    obtain ⟨head, tail⟩ := List.pairwise_cons.mp h
    rcases le_total x q.1 with within | past
    · rw [clearanceAt_first rest within]
      exact Nat.le_add_right _ _
    · rw [clearanceAt_tail h past]
      exact (head q List.mem_cons_self).2.trans (ih tail)

/-- The clearance does not fall as the leaves rise. -/
theorem clearanceAt_mono {t : List (Nat × Nat)} (h : Rising t) {x y : Nat} (hxy : x ≤ y) :
    clearanceAt t x ≤ clearanceAt t y := by
  induction t with
  | nil => exact le_rfl
  | cons p rest ih =>
    cases rest with
    | nil => exact le_rfl
    | cons q rest =>
      obtain ⟨head, tail⟩ := List.pairwise_cons.mp h
      have level : p.2 ≤ q.2 := (head q List.mem_cons_self).2
      rcases le_total y q.1 with within | past
      · rw [clearanceAt_first rest within, clearanceAt_first rest (hxy.trans within)]
        exact Nat.add_le_add_left (Nat.div_le_div_right (Nat.mul_le_mul_right _ (Nat.sub_le_sub_right hxy _))) _
      · rw [clearanceAt_tail h past]
        rcases le_total x q.1 with below | beyond
        · rw [clearanceAt_first rest below]
          exact (segment_le level below).trans (le_clearanceAt tail y)
        · rw [clearanceAt_tail h beyond]
          exact ih tail

/-- On each of its segments a table reads as the slope of that segment. -/
theorem clearanceAt_segment {before after : List (Nat × Nat)} {p q : Nat × Nat}
    (h : Rising (before ++ p :: q :: after)) {x : Nat} (hp : p.1 ≤ x) (hq : x ≤ q.1) :
    clearanceAt (before ++ p :: q :: after) x = p.2 + (x - p.1) * (q.2 - p.2) / (q.1 - p.1) := by
  induction before with
  | nil => exact clearanceAt_first after hq
  | cons o before ih =>
    have tail := (List.pairwise_cons.mp h).2
    cases before with
    | nil => exact (clearanceAt_tail h hp).trans (ih tail)
    | cons n before =>
      have rise : n.1 < p.1 := ((List.pairwise_cons.mp tail).1 p (by simp)).1
      exact (clearanceAt_tail h (rise.le.trans hp)).trans (ih tail)

/-! ## The required angle (R161) -/

/-- The first segment that reaches the air draft gives the required angle. -/
theorem requiredAngle_segment {t : List (Nat × Nat)} {h : Nat} (low : closedClearance t < h) (high : h ≤ fullClearance t) :
    ∃ (before after : List (Nat × Nat)) (p q : Nat × Nat), t = before ++ p :: q :: after ∧ p.2 < h ∧ h ≤ q.2 ∧
      (∀ x ∈ before, x.2 < h) ∧ requiredAngle t h = p.1 + divUp ((h - p.2) * (q.1 - p.1)) (q.2 - p.2) := by
  induction t with
  | nil => exact absurd (low.trans_le high) (lt_irrefl 0)
  | cons p rest ih =>
    cases rest with
    | nil => exact absurd (low.trans_le high) (lt_irrefl p.2)
    | cons q rest =>
      rcases le_or_gt h q.2 with reached | short
      · exact ⟨[], rest, p, q, rfl, low, reached, nofun, if_pos ⟨low, reached⟩⟩
      · obtain ⟨before, after, p', q', splits, below, reach, earlier, angle⟩ := ih short high
        refine ⟨p :: before, after, p', q', by rw [splits]; rfl, below, reach, List.forall_mem_cons.mpr ⟨low, earlier⟩, ?_⟩
        rw [← angle]
        exact if_neg fun hq => absurd hq.2 (not_le.mpr short)

/-- The quotient rounded up is Mathlib's. -/
theorem divUp_eq_ceilDiv (n d : Nat) : divUp n d = n ⌈/⌉ d := (Nat.ceilDiv_eq_add_pred_div n d).symm

/-- The required angle on a segment: it lies on the segment past its start, the slope reaches the air draft there, and one
hundredth of a degree below it does not. -/
theorem segment_required {a a' c c' h : Nat} (angle : a < a') (below : c < h) (reach : h ≤ c') :
    let r := a + divUp ((h - c) * (a' - a)) (c' - c)
    a < r ∧ r ≤ a' ∧ h ≤ c + (r - a) * (c' - c) / (a' - a) ∧ c + (r - 1 - a) * (c' - c) / (a' - a) < h := by
  intro r
  have width : 0 < a' - a := Nat.sub_pos_of_lt angle
  have rise : 0 < c' - c := Nat.sub_pos_of_lt (below.trans_le reach)
  have least : ∀ k, divUp ((h - c) * (a' - a)) (c' - c) ≤ k ↔ (h - c) * (a' - a) ≤ (c' - c) * k := fun k => by
    rw [divUp_eq_ceilDiv, ceilDiv_le_iff_le_mul rise]
  have positive : 0 < divUp ((h - c) * (a' - a)) (c' - c) := by
    rw [← not_le, least, Nat.mul_zero, not_le]
    exact Nat.mul_pos (Nat.sub_pos_of_lt below) width
  have within : divUp ((h - c) * (a' - a)) (c' - c) ≤ a' - a :=
    (least _).mpr (Nat.mul_le_mul_right _ (Nat.sub_le_sub_right reach c))
  have reaches := (least _).mp le_rfl
  have short := mt (least _).mpr (not_le.mpr (Nat.sub_one_lt positive.ne'))
  have here : r - a = divUp ((h - c) * (a' - a)) (c' - c) := Nat.add_sub_cancel_left ..
  have before : r - 1 - a = divUp ((h - c) * (a' - a)) (c' - c) - 1 := by omega
  refine ⟨by omega, by omega, ?_, ?_⟩
  · rw [here, Nat.mul_comm _ (c' - c)]
    have share := (Nat.le_div_iff_mul_le width).mpr reaches
    omega
  · rw [before, Nat.mul_comm _ (c' - c)]
    have share := (Nat.div_lt_iff_lt_mul width).mpr (not_le.mp short)
    omega

/-- No angle of a table is beyond its last. -/
theorem le_lastAngle {t : List (Nat × Nat)} (h : Rising t) : ∀ p ∈ t, p.1 ≤ (t.map Prod.fst).getLastD 0 := by
  induction t with
  | nil => nofun
  | cons p rest ih =>
    cases rest with
    | nil => simp
    | cons q rest =>
      obtain ⟨head, tail⟩ := List.pairwise_cons.mp h
      have last : ((p :: q :: rest).map Prod.fst).getLastD 0 = ((q :: rest).map Prod.fst).getLastD 0 := rfl
      rw [last]
      exact List.forall_mem_cons.mpr
        ⟨(head q List.mem_cons_self).1.le.trans (ih tail q List.mem_cons_self), ih tail⟩

/-- Settles O54: on the segment that first reaches the air draft the slope is inverted, rounded up; the clearance does not
fall along the table, so no lower angle reaches the air draft on another segment. -/
theorem requiredAngleIsTheLowest : Obligations.RequiredAngleIsTheLowest := by
  intro t h table low high a
  obtain ⟨before, after, p, q, rfl, below, reach, earlier, angle⟩ := requiredAngle_segment low high
  have rising := tableOk_rising table
  have rise : p.1 < q.1 :=
    ((List.pairwise_cons.mp (List.pairwise_append.mp rising).2.1).1 q List.mem_cons_self).1
  obtain ⟨past, within, reaches, short⟩ := segment_required rise below reach
  rw [← angle] at past within reaches short
  refine ⟨⟨before, after, p, q, rfl, below, reach, earlier, angle⟩, Nat.one_le_of_lt past, ?_, ?_, fun x hx => ?_,
    fun x y hxy _ => clearanceAt_mono rising hxy⟩
  · exact within.trans (le_lastAngle rising q (by simp))
  · rw [clearanceAt_segment rising past.le within]
    exact reaches
  · refine (clearanceAt_mono rising (Nat.le_sub_one_of_lt hx)).trans_lt ?_
    rw [clearanceAt_segment rising (Nat.le_sub_one_of_lt past) ((Nat.sub_le _ _).trans within)]
    exact short

end Sys2Proof.Proofs

/-! The requests of the passage: VESSEL_ADD, VESSEL_WITHDRAW, VESSEL_CLEARED, and the selection of the channel aspects
(R163 to R165, R169, R172 to R176). -/

namespace Sys2Proof.Proofs

open Sys2Proof.Machine Sys2Proof.Safety

/-! ## VESSEL_ADD (R164) -/

theorem takeVesselAdd_eq (ident airDraft : BitVec 16) (direction cls : Octet) {b : Blocks} (hm : b.sil.mode = .operate) :
    takeVesselAdd (octets16 ident ++ direction :: octets16 airDraft ++ [cls]) b =
      match dirOf direction.toNat, classOf cls.toNat with
      | some d, some c =>
        if ident.toNat = 0 ∨ 6000 < airDraft.toNat then refuse .range b
        else judgeVessel ident.toNat d airDraft.toNat c b
      | _, _ => refuse .range b := by
  rw [← num16_octets ident, ← num16_octets airDraft]
  exact inMode_same hm

theorem exec_vesselAdd {tag direction cls : Octet} {ident airDraft : BitVec 16} {s : State} {b : Blocks} {r : Result}
    (hq : QuietPort s) (h : takeVesselAdd (octets16 ident ++ direction :: octets16 airDraft ++ [cls]) (atTaking s) =
      { blocks := b, result := r }) :
    exec (.vesselAdd tag ident direction airDraft cls) s = .next (answered s
      { kind := 0x20#8, tag := tag, body := octets16 ident ++ direction :: octets16 airDraft ++ [cls] } b r) :=
  exec_answered rfl (Nat.le_of_ble_eq_true rfl) hq h

theorem ident_toNat_eq_zero (ident : BitVec 16) : ident.toNat = 0 ↔ ident = 0#16 := by
  rw [← BitVec.toNat_inj]
  rfl

/-- A direction, a class, an id and an air draft that the first check turns away. -/
theorem takeVesselAdd_range {ident airDraft : BitVec 16} {direction cls : Octet} {b : Blocks}
    (hm : b.sil.mode = .operate)
    (h : dirOf direction.toNat = none ∨ classOf cls.toNat = none ∨ ident = 0#16 ∨ 6000 < airDraft.toNat) :
    takeVesselAdd (octets16 ident ++ direction :: octets16 airDraft ++ [cls]) b = refuse .range b := by
  rw [takeVesselAdd_eq _ _ _ _ hm]
  split
  next hd hc =>
    rw [hd, hc, ← ident_toNat_eq_zero] at h
    exact if_pos (by simpa using h)
  next => rfl

theorem takeVesselAdd_judged {ident airDraft : BitVec 16} {direction cls : Octet} {b : Blocks} {d : Dir} {c : VesselClass}
    (hm : b.sil.mode = .operate) (hd : dirOf direction.toNat = some d) (hc : classOf cls.toNat = some c)
    (hi : ident ≠ 0#16) (ha : airDraft.toNat ≤ 6000) :
    takeVesselAdd (octets16 ident ++ direction :: octets16 airDraft ++ [cls]) b =
      judgeVessel ident.toNat d airDraft.toNat c b := by
  rw [takeVesselAdd_eq _ _ _ _ hm, hd, hc]
  rw [ne_eq, ← ident_toNat_eq_zero] at hi
  exact if_neg (not_or.mpr ⟨hi, not_lt.mpr ha⟩)

theorem vesselHeld_iff (n : Nav) (id : Nat) :
    vesselHeld n id = true ↔ (∃ x ∈ n.queue, x.ident = id) ∨ ∃ x ∈ n.slots, x.vessel.ident = id := by
  simp [vesselHeld]

section
variable {id draft : Nat} {d : Dir} {c : VesselClass} {b : Blocks}

theorem judgeVessel_duplicate (h : vesselHeld b.nav id = true) : judgeVessel id d draft c b = refuse .duplicate b :=
  if_pos h

theorem judgeVessel_notRequired (h : vesselHeld b.nav id = false) (hl : draft ≤ closedClearance b.nav.table) :
    judgeVessel id d draft c b = refuse .notRequired b := by
  simp [judgeVessel, h, hl]

variable (h : vesselHeld b.nav id = false) (hl : closedClearance b.nav.table < draft)
include h hl

theorem judgeVessel_exceeds (hf : fullClearance b.nav.table < draft) :
    judgeVessel id d draft c b = refuse .airDraftExceeds b := by
  simp [judgeVessel, h, not_le.mpr hl, hf]

theorem judgeVessel_full (hf : draft ≤ fullClearance b.nav.table) (hp : 12 ≤ placesInUse b.nav) :
    judgeVessel id d draft c b = refuse .queueFull b := by
  simp [judgeVessel, h, not_le.mpr hl, not_lt.mpr hf, hp]

theorem judgeVessel_accepted (hf : draft ≤ fullClearance b.nav.table) (hp : placesInUse b.nav < 12) :
    judgeVessel id d draft c b = addVessel
      { ident := id, dir := d, airDraft := draft, cls := c, required := requiredAngle b.nav.table draft } b := by
  simp [judgeVessel, h, not_le.mpr hl, not_lt.mpr hf, not_le.mpr hp]

end

/-! ## Late joining and the place by rank (R164, R169) -/

theorem groupActive_iff (g : GroupState) : groupActive g = true ↔ g = .awaitingOpen ∨ g = .passing := by
  cases g <;> simp [groupActive]

theorem joinsLate_iff (b : Blocks) (required : Nat) : joinsLate b required = true ↔
    (b.nav.group = .awaitingOpen ∨ b.nav.group = .passing) ∧ b.nav.slots.length < 4 ∧
      required + b.par.angleMarginCd ≤ b.nav.targetAngle := by
  simp [joinsLate, groupActive_iff, and_assoc]

theorem addVessel_late {v : Vessel} {b : Blocks} (h : joinsLate b v.required = true) : addVessel v b =
    { blocks := { b with nav := { b.nav with slots := b.nav.slots ++ [{ vessel := v, state := .waiting }] } }
      result := .ok (u16 v.required ++ [1#8, BitVec.ofNat 8 b.nav.slots.length]) } := if_pos h

/-- The place of a vessel behind those of other ids. -/
theorem queuePlace_append {v : Vessel} {before after : List Vessel} (h : ∀ x ∈ before, x.ident ≠ v.ident) :
    queuePlace v.ident (before ++ v :: after) = before.length + 1 := by
  induction before with
  | nil => exact if_pos rfl
  | cons x before ih =>
    obtain ⟨hx, hb⟩ := List.forall_mem_cons.mp h
    rw [List.cons_append, queuePlace, if_neg hx, ih hb, List.length_cons]

/-- A new vessel of a queue in rank order stands behind those of equal or better rank and before those of a worse one. -/
theorem addVessel_queued {v : Vessel} {b : Blocks} (h : joinsLate b v.required = false) (hr : RankOrder b.nav.queue)
    (hv : ∀ x ∈ b.nav.queue, x.ident ≠ v.ident) : ∃ before after : List Vessel, b.nav.queue = before ++ after ∧
      (∀ x ∈ before, classRank x.cls ≤ classRank v.cls) ∧ (∀ x ∈ after, classRank v.cls < classRank x.cls) ∧
      addVessel v b =
        { blocks := { b with nav := { b.nav with queue := before ++ v :: after } }
          result := .ok (u16 v.required ++ [0#8, BitVec.ofNat 8 (before.length + 1)]) } := by
  obtain ⟨before, after, splits, inserted, better, worse⟩ := insertVessel_splits v b.nav.queue
  have place : queuePlace v.ident (before ++ v :: after) = before.length + 1 :=
    queuePlace_append fun x hx => hv x (by rw [splits]; exact List.mem_append_left _ hx)
  refine ⟨before, after, splits, better, worse hr, ?_⟩
  simp only [addVessel, h, Bool.false_eq_true, if_false, inserted, place]
  rfl

/-- Settles O35: the checks fall through in their order to the place of the accepted vessel, at the end of the group or in the
queue. -/
theorem vesselAddQueuesByRank : Obligations.VesselAddQueuesByRank := by
  intro tag direction cls ident airDraft d c s hq b n f answers required v held places hm
  refine ⟨fun h => exec_vesselAdd hq (takeVesselAdd_range hm h), fun hd hc hi ha => ?_⟩
  have judged : ∀ {x : Blocks} {r : Result}, judgeVessel ident.toNat d airDraft.toNat c b = { blocks := x, result := r } →
      answers x r := fun h => exec_vesselAdd hq ((takeVesselAdd_judged hm hd hc hi ha).trans h)
  have unheld : ¬ held → vesselHeld n ident.toNat = false := fun h =>
    Bool.eq_false_of_not_eq_true (mt (vesselHeld_iff n _).mp h)
  refine ⟨fun h => judged (judgeVessel_duplicate ((vesselHeld_iff n _).mpr h)),
    fun h hl => judged (judgeVessel_notRequired (unheld h) hl), fun h hl =>
      ⟨fun hf => judged (judgeVessel_exceeds (unheld h) hl hf), fun hf hp => judged (judgeVessel_full (unheld h) hl hf hp),
        fun hf hp => ?_⟩⟩
  have accepted := judgeVessel_accepted (d := d) (c := c) (unheld h) hl hf hp
  refine ⟨fun late => judged (accepted.trans (addVessel_late ((joinsLate_iff b _).mpr late))), fun early order => ?_⟩
  obtain ⟨before, after, splits, better, worse, added⟩ := addVessel_queued (v := v)
    (Bool.eq_false_of_not_eq_true (mt (joinsLate_iff b _).mp early)) order fun x hx e => h (.inl ⟨x, hx, e⟩)
  exact ⟨before, after, splits, better, worse, judged (accepted.trans added)⟩

/-! ## The channel aspects (R175) -/

theorem standingCondition_iff (b : Blocks) : standingCondition b = true ↔ (∃ l : LeafId, leafState b l = .fault) ∨
    b.wmn.alarm = .stop ∨ b.wmn.sound = false ∨ b.sil.latch = true ∨ b.sil.consoleLost = true := by
  simp [standingCondition, anyLeaf_iff, or_assoc]

theorem proceedFallen_iff (n : Nav) (d : Dir) : proceedFallen n d = true ↔
    n.fall ≠ .none ∧ ∃ v : Vessel, proceedingVessel n = some v ∧ v.dir = d := by
  simp [proceedFallen, Option.any_eq_true]

theorem anyWaits_iff (n : Nav) (d : Dir) : ((waitingSlots n).any fun x => x.vessel.dir == d) = true ↔
    ∃ x ∈ n.slots, x.state = .waiting ∧ x.vessel.dir = d := by
  simp [waitingSlots]

section
variable {b : Blocks} {d : Dir}

/-- The rows of R175's table while the group is active. -/
theorem channelAspect_shown (ha : groupActive b.nav.group = true) (hs : b.nav.proceedShown = some d) :
    channelAspect b d = .proceed := by
  simp [channelAspect, ha, hs]

theorem channelAspect_fallen (ha : groupActive b.nav.group = true) (hs : b.nav.proceedShown ≠ some d)
    (hf : proceedFallen b.nav d = true) : channelAspect b d = .red := by
  simp [channelAspect, ha, hs, hf]

theorem channelAspect_waits (ha : groupActive b.nav.group = true) (hs : b.nav.proceedShown ≠ some d)
    (hf : proceedFallen b.nav d = false) (hw : ((waitingSlots b.nav).any fun x => x.vessel.dir == d) = true) :
    channelAspect b d = .standby := by
  simp only [channelAspect, ha, hs, hf, hw, if_true, if_false, Bool.false_eq_true]

theorem channelAspect_noneWaits (ha : groupActive b.nav.group = true) (hs : b.nav.proceedShown ≠ some d)
    (hw : ((waitingSlots b.nav).any fun x => x.vessel.dir == d) = false) : channelAspect b d = .red := by
  simp only [channelAspect, ha, hs, hw, if_true, if_false, Bool.false_eq_true, ite_self]

/-- The two rows outside an active group. -/
theorem channelAspect_inactive (ha : groupActive b.nav.group = false) :
    channelAspect b d = if standingCondition b then .outOfService else .red := by
  simp [channelAspect, ha]

end

theorem selectAspects_get (b : Blocks) (d : Dir) : (selectAspects b).nav.aspects.get d = channelAspect b d := by
  rw [selectAspects_nav]
  cases d <;> rfl

theorem selectAspect_notes (b : Blocks) (d : Dir) : (selectAspect b d).notes =
    b.notes ++ ([d].filter fun e => decide (b.nav.aspects.get e ≠ channelAspect b e)).map Note.nav := by
  unfold selectAspect
  dsimp only
  split
  next h => simp [h]
  next h => simp [h, note]

/-- Each direction whose aspect the selection changes is noted, inbound first. -/
theorem selectAspects_notes (b : Blocks) : (selectAspects b).notes = b.notes ++
    ([Dir.inbound, .outbound].filter fun d => decide (b.nav.aspects.get d ≠ (selectAspects b).nav.aspects.get d)).map
      Note.nav := by
  have kept : (selectAspect b .inbound).nav.aspects.get .outbound = b.nav.aspects.get .outbound := by
    rw [selectAspect_aspects]
    rfl
  have outbound : (selectAspects b).notes = (selectAspect b .inbound).notes ++
      ([Dir.outbound].filter fun e => decide (b.nav.aspects.get e ≠ channelAspect b e)).map Note.nav := by
    rw [selectAspects, selectAspect_notes]
    simp only [List.filter_singleton, kept, channelAspect_selectAspect]
  have both : [Dir.inbound, .outbound] = [Dir.inbound] ++ [Dir.outbound] := rfl
  simp only [outbound, selectAspect_notes, selectAspects_get, both, List.filter_append, List.map_append,
    List.append_assoc]

/-! ## VESSEL_WITHDRAW and VESSEL_CLEARED (R165, R172) -/

section
variable {tag : Octet} {ident : BitVec 16} {s : State} {c : Blocks} {r : Result} (hq : QuietPort s)
  (hm : (atTaking s).sil.mode = .operate)
include hq hm

theorem exec_vesselWithdraw (h : withdrawVessel ident.toNat (atTaking s) = { blocks := c, result := r }) :
    exec (.vesselWithdraw tag ident) s =
      .next (answered s { kind := 0x21#8, tag := tag, body := octets16 ident } c r) := by
  rw [← num16_octets ident] at h
  exact exec_answered rfl (Nat.le_of_ble_eq_true rfl) hq ((inMode_same hm).trans h)

theorem exec_vesselCleared (h : vesselPassed ident.toNat (atTaking s) = { blocks := c, result := r }) :
    exec (.vesselCleared tag ident) s =
      .next (answered s { kind := 0x22#8, tag := tag, body := octets16 ident } c r) := by
  rw [← num16_octets ident] at h
  exact exec_answered rfl (Nat.le_of_ble_eq_true rfl) hq ((inMode_same hm).trans h)

end

theorem notQueued {q : List Vessel} {id : Nat} (h : ∀ v ∈ q, v.ident ≠ id) :
    (q.any fun v => v.ident == id) = false := by
  simpa using h

section
variable {id : Nat} {b : Blocks}

theorem withdrawVessel_queued (hi : id ≠ 0) (h : ∃ v ∈ b.nav.queue, v.ident = id) :
    withdrawVessel id b = accept { b with nav := { b.nav with
      queue := b.nav.queue.filter fun v => decide (v.ident ≠ id) } } := by
  have queued : (b.nav.queue.any fun v => v.ident == id) = true := by simpa using h
  have same : (fun v : Vessel => v.ident != id) = fun v => decide (v.ident ≠ id) := by
    funext v
    simp [bne, beq_eq_decide]
  rw [withdrawVessel, if_neg hi, if_pos queued, same]

/-! An id that does not stand in the queue is looked for in the group. -/

variable (hi : id ≠ 0) (hn : (b.nav.queue.any fun v => v.ident == id) = false)
include hi hn

theorem withdrawVessel_absent (h : slotState b.nav id = none) : withdrawVessel id b = refuse .notFound b := by
  simp only [withdrawVessel, hi, hn, h, if_false, Bool.false_eq_true]

theorem withdrawVessel_waiting (h : slotState b.nav id = some .waiting) :
    withdrawVessel id b = accept { b with nav := setVessel id .withdrawn b.nav } := by
  simp only [withdrawVessel, hi, hn, h, if_false, Bool.false_eq_true]

theorem withdrawVessel_proceeding (h : slotState b.nav id = some .proceeding) :
    withdrawVessel id b = refuse .vesselUnderway b := by
  simp only [withdrawVessel, hi, hn, h, if_false, Bool.false_eq_true]

theorem withdrawVessel_gone {x : VesselState} (h : slotState b.nav id = some x) (hx : x = .cleared ∨ x = .withdrawn) :
    withdrawVessel id b = refuse .notFound b := by
  rcases hx with rfl | rfl <;> simp only [withdrawVessel, hi, hn, h, if_false, Bool.false_eq_true]

end

theorem slotState_none {n : Nav} {id : Nat} (h : ∀ x ∈ n.slots, x.vessel.ident ≠ id) : slotState n id = none := by
  simpa [slotState] using h

/-- The first slot with an id gives the state of its vessel. -/
theorem slotState_first {n : Nav} {id : Nat} {before after : List Slot} {x : Slot} (hs : n.slots = before ++ x :: after)
    (hx : x.vessel.ident = id) (hb : ∀ y ∈ before, y.vessel.ident ≠ id) : slotState n id = some x.state := by
  have found : n.slots.find? (fun y => y.vessel.ident == id) = some x := by
    rw [List.find?_eq_some_iff_append]
    exact ⟨by simp [hx], before, after, hs, by simpa using hb⟩
  rw [slotState, found]
  rfl

theorem vesselPassed_other {id : Nat} {b : Blocks} (hi : id ≠ 0) (h : ∀ v, proceedingVessel b.nav = some v → v.ident ≠ id) :
    vesselPassed id b = refuse .notProceeding b := by
  rw [vesselPassed, if_neg hi]
  split
  next v hv => exact if_neg (h v hv)
  next => rfl

theorem vesselPassed_proceeding {b : Blocks} {v : Vessel} (hi : v.ident ≠ 0) (h : proceedingVessel b.nav = some v) :
    vesselPassed v.ident b = accept (clearVessel v b) := by
  simp [vesselPassed, hi, h]

/-- Settles O36: a selection writes the aspects by the rows of R175 and notes those it changes; a withdrawal looks in the queue
and then in the group; a vessel that has passed is the one PROCEEDING. -/
theorem vesselsAreWithdrawnAndCleared : Obligations.VesselsAreWithdrawnAndCleared := by
  refine ⟨?aspects, ?requests⟩
  case aspects =>
    intro b c n active fallen waits stands
    have running : active ↔ groupActive n.group = true := (groupActive_iff _).symm
    have fell : ∀ d, fallen d ↔ proceedFallen n d = true := fun d => (proceedFallen_iff n d).symm
    have wait : ∀ d, waits d ↔ ((waitingSlots n).any fun x => x.vessel.dir == d) = true := fun d => (anyWaits_iff n d).symm
    have standing : stands ↔ standingCondition b = true := (standingCondition_iff b).symm
    refine ⟨?_, selectAspects_sameBut b, selectAspects_notes b, fun d => ?_⟩
    · rw [show c.nav = _ from selectAspects_nav b]
    · have aspect : c.nav.aspects.get d = channelAspect b d := selectAspects_get b d
      rw [aspect, running, fell, wait, standing, Bool.not_eq_true, Bool.not_eq_true, Bool.not_eq_true, Bool.not_eq_true]
      exact ⟨channelAspect_shown, channelAspect_fallen, channelAspect_waits, channelAspect_noneWaits,
        fun ha hs => (channelAspect_inactive ha).trans (if_pos hs),
        fun ha hs => (channelAspect_inactive ha).trans (if_neg (by rw [hs]; nofun))⟩
  case requests =>
    intro tag ident s hq b n f withdrawn cleared marked hm
    refine ⟨fun h0 => ⟨exec_vesselWithdraw hq hm (if_pos ((ident_toNat_eq_zero ident).mpr h0)),
      exec_vesselCleared hq hm (if_pos ((ident_toNat_eq_zero ident).mpr h0))⟩, fun h0 => ?_⟩
    have hi : ident.toNat ≠ 0 := mt (ident_toNat_eq_zero ident).mp h0
    refine ⟨fun h => exec_vesselWithdraw hq hm (withdrawVessel_queued hi h), fun absent => ⟨fun hs => ?_,
      fun before after x hs hx hb => ?_⟩, fun h => exec_vesselCleared hq hm (vesselPassed_other hi h), fun v hv hid => ?_⟩
    · exact exec_vesselWithdraw hq hm (withdrawVessel_absent hi (notQueued absent) (slotState_none hs))
    · have hn := notQueued absent
      have state := slotState_first hs hx hb
      exact ⟨fun h => exec_vesselWithdraw hq hm (withdrawVessel_waiting hi hn (h ▸ state)),
        fun h => exec_vesselWithdraw hq hm (withdrawVessel_proceeding hi hn (h ▸ state)),
        fun h => exec_vesselWithdraw hq hm (withdrawVessel_gone hi hn state h)⟩
    · have passed := vesselPassed_proceeding (b := b) (v := v) (by rw [hid]; exact hi) hv
      rw [hid] at passed
      refine exec_vesselCleared hq hm (passed.trans ?_)
      rw [clearVessel, hid]
      rfl

end Sys2Proof.Proofs

/-! The wind monitor: the edges of the anemometer, calm, the gust and its level (R180 to R185). -/

namespace Sys2Proof.Proofs

open Sys2Proof.Machine Sys2Proof.Safety

/-! ## The gust and the sensor, field by field (R182, R184) -/

/-- The gust takes a value that is not below it, and any value once it is old; a gust taken has the age 0. -/
theorem judgeGust_eq (p : Params) (value : Nat) (w : Wmn) : judgeGust p value w = { w with
    gust := if w.gust ≤ value ∨ p.gustHoldS ≤ w.age then value else w.gust
    age := if w.gust ≤ value ∨ p.gustHoldS ≤ w.age then 0 else w.age } := by
  rw [judgeGust]
  split <;> rfl

/-- The third plausible period of a run makes a failed sensor sound, and a sound sensor counts no run. -/
theorem countPlausible_eq (w : Wmn) : countPlausible w = { w with
    run := if w.sound = true ∨ 3 ≤ w.run + 1 then 0 else w.run + 1
    sound := decide (w.sound = true ∨ 3 ≤ w.run + 1) } := by
  rw [countPlausible]
  split
  case isTrue sound => simp [sound]
  case isFalse failed =>
    split
    case isTrue short => simp [failed, Nat.not_le.mpr short]
    case isFalse third => simp [failed, Nat.not_lt.mp third]

/-! ## A period and its judgement (R182, R183) -/

theorem judgePeriod_implausible {p : Params} {period : Nat} (w : Wmn) (h : period < p.anemoMinUs) :
    judgePeriod p period w = { w with
      lastPeriod := some period, implausible := min (w.implausible + 1) 255, run := 0, sound := false } := if_pos h

theorem judgePeriod_plausible {p : Params} {period : Nat} (w : Wmn) (h : p.anemoMinUs ≤ period) :
    judgePeriod p period w =
      judgeGust p (windOf p period) (countPlausible { w with lastPeriod := some period, wind := windOf p period }) :=
  if_neg (Nat.not_lt.mpr h)

/-! ## The events, by the measure state (R181, R184) -/

theorem anemoEdge_starts (p : Params) {elapsed : Nat} {w : Wmn} (h : w.measure ≠ .timing ∨ Config.calmLimit ≤ elapsed) :
    anemoEdge p elapsed w = { w with measure := .timing, period := 0 } := by
  rw [anemoEdge]
  split
  case h_1 => rfl
  case h_2 => rfl
  case h_3 timing => exact if_pos (h.resolve_left (· timing))

theorem anemoEdge_measures (p : Params) {elapsed : Nat} {w : Wmn} (hm : w.measure = .timing)
    (h : elapsed < Config.calmLimit) :
    anemoEdge p elapsed w = judgeLevels p (judgePeriod p elapsed { w with measure := .timing, period := 0 }) := by
  simp only [anemoEdge, hm]
  exact if_neg (Nat.not_le.mpr h)

theorem declareCalm_timing (p : Params) {w : Wmn} (h : w.measure = .timing) : declareCalm p w =
    judgeLevels p (judgeGust p 0 { w with measure := .calm, period := Config.calmLimit, wind := 0, run := 0 }) := by
  simp only [declareCalm, h]

theorem declareCalm_rest (p : Params) {w : Wmn} (h : w.measure ≠ .timing) : declareCalm p w = w := by
  rw [declareCalm]
  split
  case h_1 timing => exact absurd timing h
  case h_2 => rfl
  case h_3 => rfl

theorem riseAge_calm (p : Params) {w : Wmn} (h : w.measure = .calm) :
    riseAge p w = judgeLevels p (judgeGust p 0 { w with age := min (w.age + 1) 255 }) := by
  simp only [riseAge, h]

theorem riseAge_rest (p : Params) {w : Wmn} (h : w.measure ≠ .calm) :
    riseAge p w = { w with age := min (w.age + 1) 255 } := by
  rw [riseAge]
  split
  case h_1 calm => exact absurd calm h
  case h_2 => rfl
  case h_3 => rfl

/-! ## The steps of the level (R185) -/

theorem gustLevelOf_normal {p : Params} (g : Nat) (band : p.wKneeDms < p.wStopDms) : gustLevelOf p g .normal =
    if p.wStopDms ≤ g then .stop else if p.wKneeDms ≤ g then .high else .normal := by
  by_cases knee : p.wKneeDms ≤ g
  · have kept : ¬ g < p.wKneeDms - p.wHystDms := by omega
    simp [gustLevelOf, gustStep, knee, kept]
  · have below : ¬ p.wStopDms ≤ g := by omega
    simp [gustLevelOf, gustStep, knee, below]

theorem gustLevelOf_high {p : Params} (g : Nat) : gustLevelOf p g .high =
    if p.wStopDms ≤ g then .stop else if g < p.wKneeDms - p.wHystDms then .normal else .high := by
  by_cases stop : p.wStopDms ≤ g
  · have kept : ¬ g < p.wStopDms - p.wHystDms := by omega
    simp [gustLevelOf, gustStep, stop, kept]
  · by_cases low : g < p.wKneeDms - p.wHystDms
    · have below : ¬ p.wKneeDms ≤ g := by omega
      simp [gustLevelOf, gustStep, stop, low, below]
    · simp [gustLevelOf, gustStep, stop, low]

theorem gustLevelOf_stop {p : Params} (g : Nat) (band : p.wKneeDms < p.wStopDms) : gustLevelOf p g .stop =
    if g < p.wKneeDms - p.wHystDms then .normal else if g < p.wStopDms - p.wHystDms then .high else .stop := by
  by_cases falls : g < p.wStopDms - p.wHystDms
  · have below : ¬ p.wStopDms ≤ g := by omega
    simp [gustLevelOf, gustStep, falls, below]
  · have kept : ¬ g < p.wKneeDms - p.wHystDms := by omega
    simp [gustLevelOf, gustStep, falls, kept]

/-! ## The events of the monitor -/

theorem eventEnd_onWind {f : Params → Wmn → Wmn} {s : State} {x : Wmn} (h : f s.blocks.par s.blocks.wmn = x) :
    eventEnd s (onWind f s.blocks) = eventEnd s { s.blocks with wmn := x } := by
  rw [onWind, h]

theorem exec_anemoFallingEdge (elapsed : Nat) (s : State) : exec (.anemoFallingEdge elapsed) s =
    .next (eventEnd s (onWind (fun p w => anemoEdge p elapsed w) s.blocks)) := rfl

theorem exec_calm (s : State) : exec .calm s = .next (eventEnd s (onWind declareCalm s.blocks)) := rfl

theorem exec_gustAgeRise (s : State) : exec .gustAgeRise s = .next (eventEnd s (onWind riseAge s.blocks)) := rfl

/-- Settles O56: the measure state picks the case of each event, the wind record is read off its judgements, and the level
takes the one or two steps that the gust calls for. -/
theorem windFollowsTheAnemometer : Obligations.WindFollowsTheAnemometer := by
  refine ⟨fun elapsed s => ?events,
    fun p g _ band => ⟨gustLevelOf_normal g band, gustLevelOf_high g, gustLevelOf_stop g band⟩⟩
  case events =>
    intro b w leads level gusts
    have edge {x : Wmn} (h : anemoEdge b.par elapsed w = x) : leads (.anemoFallingEdge elapsed) x :=
      (exec_anemoFallingEdge elapsed s).trans (congrArg _ (eventEnd_onWind h))
    have calm {x : Wmn} (h : declareCalm b.par w = x) : leads .calm x :=
      (exec_calm s).trans (congrArg _ (eventEnd_onWind h))
    have rise {x : Wmn} (h : riseAge b.par w = x) : leads .gustAgeRise x :=
      (exec_gustAgeRise s).trans (congrArg _ (eventEnd_onWind h))
    refine ⟨fun h => edge (anemoEdge_starts _ h), fun hm hl h => edge ?short, fun hm hl h => edge ?measured,
      fun hm => calm ?declared, fun hm => calm (declareCalm_rest _ hm), fun hm => rise (riseAge_rest _ hm),
      fun hm => rise ?calmAge⟩
    case short =>
      rw [anemoEdge_measures _ hm hl, judgePeriod_implausible _ h, ← hm]
      rfl
    case measured =>
      rw [anemoEdge_measures _ hm hl, judgePeriod_plausible _ h, countPlausible_eq, judgeGust_eq, ← hm]
      simp only [judgeLevels, decide_eq_true_eq]
      rfl
    case declared =>
      rw [declareCalm_timing _ hm, judgeGust_eq]
      rfl
    case calmAge =>
      rw [riseAge_calm _ hm, judgeGust_eq]
      rfl

end Sys2Proof.Proofs

/-! A received frame that waits or is discarded, the console's presence it proves, and the reset of the E-stop latch (R190 to
R193, R198). -/

namespace Sys2Proof.Proofs

open Sys2Proof.Machine Sys2Proof.Safety

/-! ## ESTOP_RESET (R190) -/

theorem takeEstopReset_eq {b : Blocks} (hm : b.sil.mode = .operate) : takeEstopReset [] b =
    if b.sil.latch then
      if made b .estop then accept (note (.estop [] [] []) { b with sil := { b.sil with latch := false } })
      else refuse (.notPermitted .estopLatched) b
    else accept b := inMode_same hm

/-- ESTOP_RESET on a quiet port is answered as its taking says. -/
theorem exec_estopReset {tag : Octet} {s : State} {b : Blocks} {r : Result} (hq : QuietPort s)
    (h : takeEstopReset [] (atTaking s) = { blocks := b, result := r }) :
    exec (.estopReset tag) s = .next (answered s { kind := 0x19#8, tag := tag, body := [] } b r) :=
  exec_answered rfl (Nat.zero_le _) hq h

/-- Settles O32: the latch and then the input pick the answer. -/
theorem estopResetNeedsTheInput : Obligations.EstopResetNeedsTheInput := by
  intro tag s hq b f hm
  refine ⟨fun hl hi => exec_estopReset hq ?cleared, fun hl hi => exec_estopReset hq ?refused,
    fun hl => exec_estopReset hq ?clear⟩
  case cleared =>
    rw [takeEstopReset_eq hm, if_pos hl, if_pos hi]
    rfl
  case refused =>
    rw [takeEstopReset_eq hm, if_pos hl, if_neg (ne_true_of_eq_false hi)]
    rfl
  case clear =>
    rw [takeEstopReset_eq hm, if_neg (ne_true_of_eq_false hl)]
    rfl

/-! ## What following leaves of the SIL record -/

/-- The SIL record without the fields that what follows by itself in OPERATE writes: the mode, the latch, the console-lost
flag and the record of adoption stand. -/
def lastingSil (b : Blocks) : Sil :=
  { b.sil with phase := .traffic, held := false, cause := .none, order := none, overrides := [] }

theorem lastingSil_congr {a b : Blocks} (h : b.sil = a.sil) : lastingSil b = lastingSil a := by
  rw [lastingSil, lastingSil, h]

theorem lastingSil_setHeld (c : HoldCause) (b : Blocks) : lastingSil (setHeld c b) = lastingSil b := rfl

theorem lastingSil_stopAndHold (c : HoldCause) (b : Blocks) : lastingSil (stopAndHold c b) = lastingSil b := by
  rw [lastingSil, stopAndHold_sil]
  rfl

theorem lastingSil_maintainConditions (b : Blocks) : lastingSil (maintainConditions b) = lastingSil b := by
  unfold maintainConditions
  split
  · split
    · exact lastingSil_stopAndHold _ b
    · split
      · exact lastingSil_stopAndHold _ b
      · rfl
  · rfl

theorem lastingSil_interruptUnseated (b : Blocks) : lastingSil (interruptUnseated b) = lastingSil b := by
  unfold interruptUnseated
  split
  · rw [lastingSil_setHeld]
    exact lastingSil_congr (interruptLocks_sameBut b .sil (by decide))
  · rfl

theorem lastingSil_takeNextMovement (b : Blocks) : lastingSil (takeNextMovement b) = lastingSil b := by
  unfold takeNextMovement
  split
  · rfl
  · dsimp only
    split_ifs
    · rfl
    · rfl
    · rfl
    · split
      · rfl
      · exact lastingSil_congr (startMovement_sameBut _ _ .sil (by decide))

theorem lastingSil_followConditions (b : Blocks) : lastingSil (followConditions b) = lastingSil b := by
  have ceilings : ∀ x, lastingSil (applyCeiling .south (applyCeiling .north x)) = lastingSil x := fun x =>
    lastingSil_congr (sameBut_trans (applyCeiling_sameBut .north x) (applyCeiling_sameBut .south _) .sil (by decide))
  rw [followConditions, lastingSil_takeNextMovement, ceilings, lastingSil_interruptUnseated,
    lastingSil_maintainConditions]
  rfl

theorem lastingSil_roadAdvance (b : Blocks) : lastingSil (roadAdvance b) = lastingSil b := by
  rcases roadAdvance_sil b with h | h
  · exact lastingSil_congr h
  · rw [lastingSil, h]
    rfl

theorem lastingSil_completePhase (b : Blocks) : lastingSil (completePhase b) = lastingSil b := by
  unfold completePhase
  dsimp only
  split_ifs <;> rfl

theorem lastingSil_rederive (b : Blocks) : lastingSil (rederive b) = lastingSil b := by
  rw [lastingSil, rederive_sil]
  rfl

theorem lastingSil_completeRecovery (b : Blocks) : lastingSil (completeRecovery b) = lastingSil b := by
  unfold completeRecovery
  split
  · exact lastingSil_rederive (setOrder none b)
  · rfl

theorem lastingSil_rederiveAt (s0 b : Blocks) : lastingSil (rederiveAt s0 b) = lastingSil b := by
  unfold rederiveAt
  split
  · exact lastingSil_rederive b
  · rfl

theorem lastingSil_endShort (b : Blocks) : lastingSil (endShort b) = lastingSil b := by
  unfold endShort
  split <;> rfl

theorem lastingSil_followSpan (s0 b : Blocks) : lastingSil (followSpan s0 b) = lastingSil b := by
  rw [followSpan, lastingSil_endShort, lastingSil_rederiveAt, lastingSil_completeRecovery, lastingSil_completePhase]

theorem lastingSil_settleRound (s0 b : Blocks) : lastingSil (settleRound s0 b) = lastingSil b := by
  rw [settleRound, lastingSil_congr (followAspects_sameBut _ .sil (by decide)),
    lastingSil_congr (followPassage_sameBut _ .sil (by decide)), lastingSil_followSpan, lastingSil_roadAdvance,
    lastingSil_congr (advanceSequence_sameBut _ .sil (by decide)), lastingSil_followConditions,
    lastingSil_congr (noteLeaves_sameBut s0 _ .sil (by decide)), lastingSil_congr (followLeaves_sameBut b .sil (by decide))]

theorem lastingSil_settle (s0 : Blocks) {b : Blocks} (hm : b.sil.mode = .operate) :
    lastingSil (settle s0 b) = lastingSil b := by
  rw [settle_operate s0 b hm]
  exact iter_keeps (P := fun x => lastingSil x = lastingSil b) (fun x h => (lastingSil_settleRound s0 x).trans h) 4 b rfl

/-- What follows an event in OPERATE neither sets nor clears the console-lost flag. -/
theorem settle_consoleLost (s0 : Blocks) {b : Blocks} (hm : b.sil.mode = .operate) :
    (settle s0 b).sil.consoleLost = b.sil.consoleLost := by
  have stands := congrArg Sil.consoleLost (lastingSil_settle s0 hm)
  exact stands

/-! ## Console presence (R191, R193) -/

theorem presenceRestart_other {b : Blocks} (h : b.sil.mode ≠ .operate) : presenceRestart b = b := if_neg h

/-- A frame in OPERATE restarts the timer at the value that is then active and clears the flag. -/
theorem presenceRestart_operate {b : Blocks} (h : b.sil.mode = .operate) : presenceRestart b = { b with
    presence := some (b.pend.presenceMs.getD b.par.presenceMs)
    par := { b.par with presenceMs := b.pend.presenceMs.getD b.par.presenceMs }
    pend := { b.pend with presenceMs := none }
    sil := { b.sil with consoleLost := false }
    notes := if b.sil.consoleLost then b.notes ++ [.console] else b.notes } := by
  rw [presenceRestart, if_pos h]
  cases hc : b.sil.consoleLost
  · have clear : { b.sil with consoleLost := false } = b.sil := by rw [← hc]
    rw [clear]
    rfl
  · rfl

theorem presenceRestart_mode (b : Blocks) : (presenceRestart b).sil.mode = b.sil.mode := by
  by_cases h : b.sil.mode = .operate
  · rw [presenceRestart_operate h]
  · rw [presenceRestart_other h]

/-- The CONSOLE report of a console that is heard again: the flag is clear, and the PRESENCE_MS is that which ran out. -/
theorem presenceRestart_posts (s0 : Blocks) {b : Blocks} (hm : b.sil.mode = .operate) (hc : b.sil.consoleLost = true) :
    ({ kind := .console, subject := 0, body := 0#8 :: u16 b.presRanOut } : Posting) ∈
      eventPostings s0 (settle s0 (presenceRestart b)) := by
  have operates : (presenceRestart b).sil.mode = .operate := (presenceRestart_mode b).trans hm
  have noted : Note.console ∈ (settle s0 (presenceRestart b)).notes :=
    (settle_kept s0 _ operates).subset (by simp [presenceRestart_operate hm, hc])
  have heard : (settle s0 (presenceRestart b)).sil.consoleLost = false := by
    rw [settle_consoleLost s0 operates, presenceRestart_operate hm]
  have ranOut : (settle s0 (presenceRestart b)).presRanOut = b.presRanOut :=
    (settle_sameBut s0 _ .presRanOut (by decide)).trans (presenceRestart_sameBut b .presRanOut (by decide))
  refine (mem_eventPostings s0 _).mpr ⟨.console, mem_postIf.mpr ⟨by simpa using noted, ?_⟩⟩
  rw [consoleFields, heard, ranOut]
  rfl

/-! ## A posting stands in RQ (R204) -/

/-- An entry of RQ holds a posting: it has its key and its content. -/
def HoldsPosting (e : Entry) (p : Posting) : Prop := e.kind = p.kind ∧ e.subject = p.subject ∧ e.body = p.body

theorem post_holds (rq : List Entry) (p : Posting) : ∃ e ∈ post rq p, HoldsPosting e p := by
  by_cases stands : (rq.any fun e => e.hasKey p.kind p.subject) = true
  · obtain ⟨e, he, key⟩ := List.any_eq_true.mp stands
    obtain ⟨kind, subject⟩ := Prod.mk.inj ((hasKey_iff _ _ _).mp key)
    rw [post_present rq p stands]
    exact ⟨_, List.mem_map_of_mem he, by rw [if_pos key]; exact ⟨kind, subject, rfl⟩⟩
  · rw [post_absent rq p (Bool.eq_false_of_not_eq_true stands)]
    exact ⟨_, List.mem_append_right _ (List.mem_singleton_self _), rfl, rfl, rfl⟩

/-- A posting under another key leaves an entry as it is. -/
theorem mem_post_other {rq : List Entry} {e : Entry} {p : Posting} (he : e ∈ rq)
    (hk : (e.kind, e.subject) ≠ (p.kind, p.subject)) : e ∈ post rq p := by
  have other : ¬ e.hasKey p.kind p.subject = true := mt (hasKey_iff _ _ _).mp hk
  unfold post
  split
  · exact List.mem_map.mpr ⟨e, he, if_neg other⟩
  · exact List.mem_append_left _ he

theorem mem_foldl_post_other (ps : List Posting) {rq : List Entry} {e : Entry} (he : e ∈ rq)
    (hk : ∀ p ∈ ps, (e.kind, e.subject) ≠ (p.kind, p.subject)) : e ∈ ps.foldl post rq := by
  induction ps generalizing rq with
  | nil => exact he
  | cons p ps ih =>
    exact ih (mem_post_other he (hk p (List.mem_cons_self ..))) fun q hq => hk q (List.mem_cons_of_mem _ hq)

/-- Of postings under different keys each stands in RQ once all are made. -/
theorem foldl_post_holds {ps : List Posting} (rq : List Entry)
    (keys : ps.Pairwise fun p q => (p.kind, p.subject) ≠ (q.kind, q.subject)) {p : Posting} (hp : p ∈ ps) :
    ∃ e ∈ ps.foldl post rq, HoldsPosting e p := by
  induction ps generalizing rq with
  | nil => cases hp
  | cons q ps ih =>
    obtain ⟨apart, keys⟩ := List.pairwise_cons.mp keys
    rcases List.mem_cons.mp hp with rfl | hp
    · obtain ⟨e, he, kind, subject, body⟩ := post_holds rq p
      refine ⟨e, mem_foldl_post_other ps he fun x hx => ?_, kind, subject, body⟩
      rw [kind, subject]
      exact apart x hx
    · exact ih (post rq q) keys hp

/-- What an event posts stands in RQ at its end. -/
theorem eventPostings_hold (s0 b : Blocks) (rq : List Entry) {p : Posting} (hp : p ∈ eventPostings s0 b) :
    ∃ e ∈ (eventPostings s0 b).foldl post rq, HoldsPosting e p :=
  foldl_post_holds rq (eventPostings_pairwise s0 b ReportKey.all_pairs_nodup) hp

/-! ## A frame while both replies wait (R198, R199) -/

theorem takeWaiting_full {e : Event} (h : Config.replyCapacity ≤ e.cpt.replies.length) : takeWaiting e = e :=
  iter_keeps (P := fun x => x = e) (fun x hx => by
    rw [hx]
    rcases takeHead_cases e with ⟨rests, -⟩ | ⟨f, rest, -, room, -⟩
    · exact rests
    · exact absurd room (Nat.not_lt.mpr h)) _ e rfl

/-- While a frame is being sent and both replies wait an event takes no request and starts nothing. -/
theorem finishEvent_full {e : Event} {sent : Frame} (hr : Config.replyCapacity ≤ e.cpt.replies.length)
    (ht : e.cpt.tx = some sent) : finishEvent e = postReports e.settled := by
  rw [finishEvent, takeWaiting_full (e := e.settled) hr, startReply_busy e.settled sent ht,
    takeWaiting_full (e := e.settled) hr, startReport_busy (postReports e.settled) sent ht]

/-- With room in the receive buffer a valid frame waits there. -/
theorem receive_room (f : Frame) {e : Event} (h : e.cpt.buffer.length < 2) : receive f e =
    { e with blocks := presenceRestart e.blocks, cpt := { e.cpt with buffer := e.cpt.buffer ++ [f] } } := if_pos h

/-- With the receive buffer full a valid frame is counted alone. -/
theorem receive_full (f : Frame) {e : Event} (h : ¬ e.cpt.buffer.length < 2) : receive f e = { e with
    blocks := presenceRestart e.blocks
    cpt := { e.cpt with overrun := min (e.cpt.overrun + 1) 255 }
    port := true } := if_neg h

/-- The PORT report of a frame discarded for overrun. -/
def overrunPosting (overrun : Nat) : Posting := { kind := .port, subject := 0, body := u8 overrun }

section
variable {f sent : Frame} {s : State} (hr : s.cpt.replies.length = 2) (ht : s.cpt.tx = some sent)
include hr ht

/-- With room in the receive buffer the frame waits there. -/
theorem validFrame_waits (hb : s.cpt.buffer.length < 2) : validFrame f s =
    { pending := s.pending
      blocks := following s.blocks (presenceRestart s.blocks)
      cpt := { s.cpt with receiver := .hunting, buffer := s.cpt.buffer ++ [f] }
      rq := (eventPostings s.blocks (settle s.blocks (presenceRestart s.blocks))).foldl post s.rq } := by
  rw [validFrame, receive_room f, finishEvent_full (sent := sent), Event.toState, postReports_rq_quiet]
  · rfl
  · rfl
  · exact hr.ge
  · exact ht
  · exact hb

/-- With the receive buffer full the frame is discarded, counted and reported; its restart of the presence timer stands. -/
theorem validFrame_overruns (hb : ¬ s.cpt.buffer.length < 2) : validFrame f s =
    { pending := s.pending
      blocks := following s.blocks (presenceRestart s.blocks)
      cpt := { s.cpt with receiver := .hunting, overrun := min (s.cpt.overrun + 1) 255 }
      rq := post ((eventPostings s.blocks (settle s.blocks (presenceRestart s.blocks))).foldl post s.rq)
        (overrunPosting (min (s.cpt.overrun + 1) 255)) } := by
  rw [validFrame, receive_full f, finishEvent_full (sent := sent), Event.toState, postReports, List.foldl_append]
  · rfl
  · exact hr.ge
  · exact ht
  · exact hb

end

/-- The CONSOLE report of an event stands in RQ also after the PORT report of an overrun. -/
theorem presenceRestart_reported {s : State} (hm : s.blocks.sil.mode = .operate)
    (hc : s.blocks.sil.consoleLost = true) :
    let rq := (eventPostings s.blocks (settle s.blocks (presenceRestart s.blocks))).foldl post s.rq
    let reports := fun e : Entry => e.kind = .console ∧ e.subject = 0 ∧ e.body = 0#8 :: u16 s.blocks.presRanOut
    (∃ e ∈ rq, reports e) ∧ ∀ n, ∃ e ∈ post rq (overrunPosting n), reports e := by
  intro rq reports
  obtain ⟨e, he, kind, subject, body⟩ := eventPostings_hold s.blocks _ s.rq (presenceRestart_posts s.blocks hm hc)
  have other (n : Nat) : (e.kind, e.subject) ≠ ((overrunPosting n).kind, (overrunPosting n).subject) := by
    rw [kind]
    nofun
  exact ⟨⟨e, he, kind, subject, body⟩, fun n => ⟨e, mem_post_other he (other n), kind, subject, body⟩⟩

/-- Settles O9: the restart is read off the mode; the room in the receive buffer says what becomes of the frame, and the
CONSOLE report stands in RQ either way. -/
theorem framesWaitOrOverrun : Obligations.FramesWaitOrOverrun := by
  refine ⟨fun b => ⟨presenceRestart_other, presenceRestart_operate⟩, fun i f s hf hl hr ht => ?_⟩
  obtain ⟨sent, hs⟩ := Option.ne_none_iff_exists'.mp ht
  refine ⟨validFrame f s, by rw [exec_requestFrame hf, consoleRequest_valid _ _ _ _ hl], ?_⟩
  by_cases hb : s.cpt.buffer.length < 2
  case pos =>
    rw [validFrame_waits hr hs hb]
    exact ⟨rfl, rfl, rfl, rfl, fun _ => ⟨rfl, rfl, rfl⟩, fun full => absurd hb full.not_lt,
      fun _ hm hc => (presenceRestart_reported hm hc).1⟩
  case neg =>
    rw [validFrame_overruns hr hs hb]
    exact ⟨rfl, rfl, rfl, rfl, fun room => absurd room hb, fun _ => ⟨rfl, rfl, rfl⟩,
      fun _ hm hc => (presenceRestart_reported hm hc).2 _⟩

end Sys2Proof.Proofs

/-! The bounds of the report queue and of the console port through every step (R198, R199, R204). -/

namespace Sys2Proof.Proofs

open Sys2Proof.Machine Sys2Proof.Safety

/-! ## One event -/

/-- The port and RQ of a state or of an event under way keep their bounds. -/
def InBounds (c : Cpt) (rq : List Entry) : Prop := QueueOk rq ∧ PortOk c

theorem queueOk_nil : QueueOk [] := ⟨List.nodup_nil, nofun⟩

/-- RQ stays in order when entries leave it (R205). -/
theorem queueOk_filter {rq : List Entry} (keep : Entry → Bool) (h : QueueOk rq) : QueueOk (rq.filter keep) :=
  ⟨h.1.sublist (List.filter_sublist.map _), fun e he => h.2 e (List.mem_of_mem_filter he)⟩

/-- A taking needs room in the reply list, and its frame leaves the receive buffer (R199). -/
theorem inBounds_takeHead {e : Event} (h : InBounds e.cpt e.rq) : InBounds (takeHead e).cpt (takeHead e).rq := by
  rcases takeHead_cases e with ⟨he, -⟩ | ⟨f, rest, hbuffer, room, taken⟩
  · rw [he]
    exact h
  · obtain ⟨queue, buffer, -, overrun⟩ := h
    have buffer' : rest.length ≤ 2 := by
      rw [hbuffer, List.length_cons] at buffer
      omega
    have replies (r : Frame) : (e.cpt.replies ++ [r]).length ≤ 2 := by
      rw [List.length_append]
      exact room
    rcases taken with ⟨-, he⟩ | ⟨-, he⟩ <;> rw [he]
    · exact ⟨queue, buffer', replies _, overrun⟩
    · exact ⟨queueOk_nil, buffer', replies _, Nat.zero_le _⟩

theorem inBounds_takeWaiting {e : Event} (h : InBounds e.cpt e.rq) :
    InBounds (takeWaiting e).cpt (takeWaiting e).rq :=
  iter_keeps (P := fun e => InBounds e.cpt e.rq) (fun _ => inBounds_takeHead) _ e h

theorem inBounds_startReply {e : Event} (h : InBounds e.cpt e.rq) :
    InBounds (startReply e).cpt (startReply e).rq := by
  unfold startReply
  split
  next hreplies =>
    obtain ⟨queue, buffer, replies, overrun⟩ := h
    rw [hreplies, List.length_cons] at replies
    exact ⟨queue, buffer, Nat.le_of_succ_le replies, overrun⟩
  next => exact h

theorem inBounds_startReport {e : Event} (h : InBounds e.cpt e.rq) :
    InBounds (startReport e).cpt (startReport e).rq := by
  unfold startReport
  split
  · exact h
  · split
    · exact h
    · exact ⟨queueOk_filter _ h.1, h.2⟩

/-- The end of an event keeps the bounds: it takes what there is room for, posts key by key, and starts one frame. -/
theorem inBounds_finishEvent {e : Event} (h : InBounds e.cpt e.rq) :
    InBounds (finishEvent e).cpt (finishEvent e).rq := by
  have taken := inBounds_takeWaiting (inBounds_startReply (inBounds_takeWaiting (e := e.settled) h))
  exact inBounds_startReport ⟨queueOk_foldl_post _ taken.1, taken.2⟩

/-! ## Reception (R198) -/

theorem inBounds_receive (f : Frame) {e : Event} (h : InBounds e.cpt e.rq) :
    InBounds (receive f e).cpt (receive f e).rq := by
  obtain ⟨queue, buffer, replies, overrun⟩ := h
  by_cases room : e.cpt.buffer.length < 2
  · rw [receive_room f room]
    refine ⟨queue, ?_, replies, overrun⟩
    rw [List.length_append]
    exact room
  · rw [receive_full f room]
    exact ⟨queue, buffer, replies, Nat.min_le_right _ _⟩

section
variable {s : State} (h : InBounds s.cpt s.rq)
include h

theorem inBounds_validFrame (f : Frame) : InBounds (validFrame f s).cpt (validFrame f s).rq :=
  inBounds_finishEvent (inBounds_receive f (e := beginEvent s { s.cpt with receiver := .hunting }) h)

theorem inBounds_completeFrame (kind tag : Octet) (body : List Octet) (crc : BitVec 16) :
    InBounds (completeFrame kind tag body crc s).cpt (completeFrame kind tag body crc s).rq := by
  unfold completeFrame
  split_ifs
  · exact h
  · exact inBounds_validFrame h _
  · exact h

theorem inBounds_completeOctets (os : List Octet) :
    InBounds (completeOctets os s).cpt (completeOctets os s).rq := by
  unfold completeOctets
  split
  · split
    · exact inBounds_completeFrame h _ _ _ _
    · exact h
  · exact h

theorem inBounds_receiveOctet (o : Octet) (stop : Bool) :
    InBounds (receiveOctet o stop s).cpt (receiveOctet o stop s).rq := by
  have taken (os : List Octet) : InBounds (frameOctetTaken os o s).cpt (frameOctetTaken os o s).rq := by
    unfold frameOctetTaken
    dsimp only
    split_ifs
    · exact h
    · exact inBounds_completeOctets h _
    · exact h
  unfold receiveOctet
  split
  · split <;> exact h
  · split
    · exact taken _
    · exact h

/-! ## One step -/

/-- The bounds through a command that carries no request: all but those of the console line are an event of the blocks. -/
theorem inBounds_exec_event (i : Instr) (hf : requestFrame i = none) {t : State} (he : exec i s = .next t) :
    InBounds t.cpt t.rq := by
  have event (f : Blocks → Blocks) : InBounds (runEvent f s).cpt (runEvent f s).rq := inBounds_finishEvent h
  cases i
  case powerOnReset => cases he; exact ⟨queueOk_nil, Nat.zero_le _, Nat.zero_le _, Nat.zero_le _⟩
  case consoleFrameReceived => cases he; exact inBounds_completeFrame h _ _ _ _
  case consoleOctetReceived => cases he; exact inBounds_receiveOctet h _ _
  case frameAbandoned => cases he; exact h
  case octetGapTimeout => cases he; exact h
  case transmitFrameEnd =>
    cases he
    exact inBounds_finishEvent (e := beginEvent s { s.cpt with tx := none }) h
  case samplingTimerExpiry =>
    cases he
    exact inBounds_finishEvent (e := { beginEvent s (tickReceiver s).cpt with blocks := _ }) h
  all_goals first
    | cases hf; done
    | cases he; exact event _

/-- The bounds through any command: a request is the arrival of its frame. -/
theorem inBounds_exec (i : Instr) {t : State} (he : exec i s = .next t) : InBounds t.cpt t.rq := by
  cases hf : requestFrame i with
  | some f =>
    rw [exec_requestFrame hf] at he
    cases he
    exact inBounds_completeFrame h _ _ _ _
  | none => exact inBounds_exec_event h i hf he

end

/-- Settles O12: a frame enters the buffer or the reply list where there is room, the overrun count saturates, and RQ is
written by postings and takings alone. -/
theorem queueAndPortStayInBounds : Obligations.QueueAndPortStayInBounds := by
  intro s t queue port hs
  unfold step at hs
  split at hs
  · cases hs
    exact ⟨queue, port⟩
  next c rest _ => exact inBounds_exec (s := { s with pending := rest }) ⟨queue, port⟩ c hs

end Sys2Proof.Proofs

/-! Frames and octets on the console line: what a request's frame does, and how the receiver finds a frame octet by octet
(R197 to R200). -/

namespace Sys2Proof.Proofs

open Sys2Proof.Machine Sys2Proof.Safety

/-! ## Requests as frames (R197, R199) -/

/-- A frame whose CRC differs is discarded. -/
theorem completeFrame_crcDiffers {kind tag : Octet} {body : List Octet} {crc : BitVec 16} (s : State)
    (hl : body.length ≤ 64) (hc : crc ≠ crc16 (crcOctets kind tag body)) :
    completeFrame kind tag body crc s = abandonFrame s := by
  rw [completeFrame, if_neg (Nat.not_lt.mpr hl), if_neg hc]

/-- Settles O6: a request is the valid frame that carries it, and a quiet port takes that frame in its own event. -/
theorem requestsAreFramesTakenAndAnswered : Obligations.RequestsAreFramesTakenAndAnswered := by
  refine ⟨fun i f s hf hl hq hr => ?_, fun i f s hf => exec_requestFrame hf s, fun kind tag body crc s hl hc => ?_⟩
  · rw [exec_requestFrame hf, consoleRequest_valid _ _ _ _ hl, validFrame_quiet _ s hq hr]
  · exact congrArg _ (completeFrame_crcDiffers s hl hc)

/-! ## One octet (R198) -/

theorem exec_octet (o : Octet) (stop : Bool) (s : State) :
    exec (.consoleOctetReceived o stop) s = .next (receiveOctet o stop s) := rfl

theorem receiveOctet_hunting {o : Octet} {stop : Bool} {s : State} (h : s.cpt.receiver = .hunting) :
    receiveOctet o stop s = if stop = true ∧ o = 0xC5#8 then
      { s with cpt := { s.cpt with receiver := .inFrame [] octetGapMs } } else s := by
  rw [receiveOctet, h]

theorem receiveOctet_inFrame {o : Octet} {stop : Bool} {os : List Octet} {ms : Nat} {s : State}
    (h : s.cpt.receiver = .inFrame os ms) :
    receiveOctet o stop s = if stop = true then frameOctetTaken os o s else abandonFrame s := by
  rw [receiveOctet, h]

/-- The octet after START is LEN, which lies within 2 to 66. -/
theorem frameOctetTaken_len (o : Octet) (s : State) : frameOctetTaken [] o s =
    { s with cpt := { s.cpt with receiver :=
      if 2 ≤ o.toNat ∧ o.toNat ≤ 66 then .inFrame [o] octetGapMs else .hunting } } := by
  have taken : frameOctetTaken [] o s = if o.toNat < 2 ∨ 66 < o.toNat then abandonFrame s
      else if 1 = o.toNat + 3 then completeOctets [o] s
      else { s with cpt := { s.cpt with receiver := .inFrame [o] octetGapMs } } := rfl
  by_cases fits : 2 ≤ o.toNat ∧ o.toNat ≤ 66
  · rw [taken, if_pos fits, if_neg (by omega), if_neg (by omega)]
  · rw [taken, if_neg fits, if_pos (by omega)]
    rfl

section
variable {len : Octet} (low : 2 ≤ len.toNat) (high : len.toNat ≤ 66) (o : Octet) (os : List Octet) (s : State)
include low high

/-- After LEN an octet completes the frame or is kept. -/
theorem frameOctetTaken_after : frameOctetTaken (len :: os) o s =
    if os.length + 1 = len.toNat + 2 then completeOctets (len :: os ++ [o]) s
    else { s with cpt := { s.cpt with receiver := .inFrame (len :: os ++ [o]) octetGapMs } } := by
  have taken : frameOctetTaken (len :: os) o s = if len.toNat < 2 ∨ 66 < len.toNat then abandonFrame s
      else if (len :: os ++ [o]).length = len.toNat + 3 then completeOctets (len :: os ++ [o]) s
      else { s with cpt := { s.cpt with receiver := .inFrame (len :: os ++ [o]) octetGapMs } } := rfl
  simp only [taken, if_neg (show ¬ (len.toNat < 2 ∨ 66 < len.toNat) by omega), List.length_append,
    List.length_cons, List.length_nil, Nat.zero_add, Nat.add_right_cancel_iff]

end

/-- Settles O8: the receiver's two states and the branches of an octet taken inside a frame. -/
theorem receiverTakesOctets : Obligations.ReceiverTakesOctets := by
  refine ⟨⟨fun o stop s h => ?_, fun o os ms s h => ?_, fun o ms s h => ?_, fun len o os ms s h low high hl => ?_⟩,
    fun s => ⟨rfl, rfl⟩⟩
  · rw [exec_octet, receiveOctet_hunting h]
  · rw [exec_octet, receiveOctet_inFrame h]
    rfl
  · rw [exec_octet, receiveOctet_inFrame h, if_pos rfl, frameOctetTaken_len]
  · rw [exec_octet, receiveOctet_inFrame h, if_pos rfl, frameOctetTaken_after low high, if_neg hl.ne]

/-! ## The octets of a frame one after another (R197, R198) -/

theorem execAll_octet (o : Octet) (rest : List Octet) (s : State) :
    execAll ((o :: rest).map octetCommand) s = execAll (rest.map octetCommand) (receiveOctet o true s) := rfl

/-- What a complete frame does does not depend on the receiver that found it. -/
theorem completeOctets_abandonFrame (os : List Octet) (s : State) :
    completeOctets os (abandonFrame s) = completeOctets os s := by
  have frame (kind tag : Octet) (body : List Octet) (crc : BitVec 16) :
      completeFrame kind tag body crc (abandonFrame s) = completeFrame kind tag body crc s := by
    unfold completeFrame
    split_ifs <;> rfl
  unfold completeOctets
  split
  · split
    · exact frame _ _ _ _
    · rfl
  · rfl

/-- Inside a frame the octets still missing complete it. -/
theorem execAll_frameOctets {len : Octet} (low : 2 ≤ len.toNat) (high : len.toNat ≤ 66) :
    ∀ (missing : List Octet) (os : List Octet) (ms : Nat) (s : State), s.cpt.receiver = .inFrame (len :: os) ms →
      missing ≠ [] → os.length + missing.length = len.toNat + 2 →
        execAll (missing.map octetCommand) s = .next (completeOctets (len :: os ++ missing) (abandonFrame s))
  | [], _, _, _, _, hne, _ => absurd rfl hne
  | [o], os, ms, s, hr, _, hl => by
    rw [execAll_octet, receiveOctet_inFrame hr, if_pos rfl, frameOctetTaken_after low high, 
      if_pos (show os.length + 1 = len.toNat + 2 from hl), completeOctets_abandonFrame]
    rfl
  | o :: p :: missing, os, ms, s, hr, _, hl => by
    simp only [List.length_cons] at hl
    rw [execAll_octet, receiveOctet_inFrame hr, if_pos rfl, frameOctetTaken_after low high, if_neg (by omega),
      execAll_frameOctets low high (p :: missing) (os ++ [o]) octetGapMs _ rfl (List.cons_ne_nil _ _)
        (by simp only [List.length_append, List.length_cons, List.length_nil]; omega),
      ← List.cons_append, List.append_assoc]
    rfl

/-- The two octets of a CRC hold it. -/
theorem crcOf_octets (crc : BitVec 16) : crcOf (crc.extractLsb' 8 8) (crc.extractLsb' 0 8) = crc :=
  BitVec.extractLsb'_append_extractLsb'

theorem completeOctets_line (len kind tag hi lo : Octet) (body : List Octet) (s : State) :
    completeOctets (len :: kind :: tag :: body ++ [hi, lo]) s = completeFrame kind tag body (crcOf hi lo) s := by
  simp [completeOctets]

/-- Settles O7: START opens a frame, LEN says how many octets are missing, and the last of them completes the frame with the
CRC that its two octets hold. -/
theorem octetsMakeTheFrame : Obligations.OctetsMakeTheFrame := by
  intro kind tag body crc s hl hr
  have len : (BitVec.ofNat 8 (body.length + 2)).toNat = body.length + 2 := by
    rw [BitVec.toNat_ofNat, Nat.mod_eq_of_lt (by omega)]
  have hunting : abandonFrame s = s := by
    rw [abandonFrame, ← hr]
  rw [lineOctets, crcOctets, List.cons_append, execAll_octet, receiveOctet_hunting hr, if_pos ⟨rfl, rfl⟩,
    execAll_octet, receiveOctet_inFrame rfl, if_pos rfl, frameOctetTaken_len, if_pos (by omega),
    execAll_frameOctets (by omega) (by omega) _ [] octetGapMs _ rfl (by simp) (by simp [len])]
  exact congrArg Host.Outcome.next ((completeOctets_line _ kind tag _ _ body (abandonFrame s)).trans
    (by rw [crcOf_octets, hunting]))

end Sys2Proof.Proofs

/-! The end of a frame sent: the transmitter's next choice, and the octets on the line (R197, R200, R205). -/

namespace Sys2Proof.Proofs

open Sys2Proof.Machine Sys2Proof.Safety

/-! ## The transmitter is IDLE (R200) -/

/-- With no eligible entry the transmitter stays IDLE. -/
theorem startReport_none {e : Event} (ht : e.cpt.tx = none)
    (h : firstEligible e.blocks.par.reportFloor e.rq = none) : startReport e = e := by
  simp only [startReport, ht, h]

/-- The first eligible entry starts and leaves RQ. -/
theorem startReport_some {e : Event} {x : Entry} (ht : e.cpt.tx = none)
    (h : firstEligible e.blocks.par.reportFloor e.rq = some x) : startReport e = { e with
      cpt := { e.cpt with tx := some (reportFrame x) }
      rq := e.rq.filter fun y => decide ((y.kind, y.subject) ≠ (x.kind, x.subject)) } := by
  have other : (fun y : Entry => !(y.hasKey x.kind x.subject)) =
      fun y => decide ((y.kind, y.subject) ≠ (x.kind, x.subject)) := by
    funext y
    rw [Bool.eq_iff_iff, Bool.not_eq_true', ← Bool.not_eq_true, hasKey_iff, decide_eq_true_eq]
  simp only [startReport, ht, h, other]

/-- The reports of an event in which no frame was discarded. -/
theorem postReports_quiet {e : Event} (h : e.port = false) : postReports e = { e with
    rq := (eventPostings e.base e.blocks).foldl post e.rq
    blocks := { e.blocks with notes := [] } } := by
  simp [postReports, h, postIf]

/-- The event of the end of a frame sent, after what follows by itself. -/
def sentEvent (s : State) : Event := (beginEvent s { s.cpt with tx := none }).settled

theorem endTransmission_eq (s : State) : endTransmission s =
    (startReport (postReports (takeWaiting (startReply (takeWaiting (sentEvent s)))))).toState s.pending := rfl

/-- That event with its postings in RQ. -/
def sentReported (s : State) : Event where
  base := s.blocks
  blocks := following s.blocks s.blocks
  cpt := { s.cpt with tx := none }
  rq := (eventPostings s.blocks (settle s.blocks s.blocks)).foldl post s.rq
  port := false

section
variable {s : State} (hb : s.cpt.buffer = [])
include hb

/-- With nothing received that waits, the transmitter chooses among the replies and then among the reports. -/
theorem endTransmission_idle :
    endTransmission s = (startReport (postReports (startReply (sentEvent s)))).toState s.pending := by
  rw [endTransmission, finishEvent_idle (e := beginEvent s { s.cpt with tx := none }) hb]
  rfl

/-- The oldest reply starts, whatever stands in RQ. -/
theorem endTransmission_reply {r : Frame} {rest : List Frame} (hr : s.cpt.replies = r :: rest) :
    endTransmission s = { (sentReported s).toState s.pending with
      cpt := { s.cpt with tx := some r, replies := rest } } := by
  rw [endTransmission_idle hb, startReply_idle (sentEvent s) r rest rfl hr, postReports_quiet rfl,
    startReport_busy _ r rfl]
  rfl

/-- With no reply waiting a report is looked for in RQ. -/
theorem endTransmission_noReply (hr : s.cpt.replies = []) :
    endTransmission s = (startReport (sentReported s)).toState s.pending := by
  rw [endTransmission_idle hb, startReply_none (sentEvent s) hr, postReports_quiet rfl]
  rfl

end

/-! ## A received frame waits beside both replies (R199, R200) -/

/-- The event after the taking of a request that resets nothing. -/
def takenEvent (e : Event) (f : Frame) (rest : List Frame) : Event :=
  ({ e with
    blocks := (takeRequest f e.blocks).blocks
    cpt := { e.cpt with
      buffer := rest
      replies := e.cpt.replies ++ [replyFrame f (takeRequest f e.blocks).result] } } : Event).settled

/-- With one place of the reply list free, one waiting request is taken. -/
theorem takeWaiting_one {e : Event} {f : Frame} {rest : List Frame} (hb : e.cpt.buffer = f :: rest)
    (hl : e.cpt.replies.length = 1) (hr : (takeRequest f e.blocks).resets = false) :
    takeWaiting e = takenEvent e f rest := by
  have taken : takeHead e = takenEvent e f rest := by simp [takeHead, takenEvent, hb, hl, hr, Config.replyCapacity]
  have full : ¬ (takenEvent e f rest).cpt.replies.length < Config.replyCapacity := by
    simp [takenEvent, hl, Config.replyCapacity]
  have twice : takeWaiting e = takeHead (takeHead e) := rfl
  rw [twice, taken]
  rcases takeHead_cases (takenEvent e f rest) with ⟨rests, -⟩ | ⟨_, _, -, room, -⟩
  · exact rests
  · exact absurd room full

/-- The start of the oldest of two replies lets the waiting request in. -/
theorem endTransmission_full {s : State} {f first second : Frame} {rest : List Frame} (hb : s.cpt.buffer = f :: rest)
    (hr : s.cpt.replies = [first, second]) (hx : (takeRequest f (settle s.blocks s.blocks)).resets = false) :
    endTransmission s =
      { pending := s.pending
        blocks := following s.blocks (takeRequest f (settle s.blocks s.blocks)).blocks
        cpt := { s.cpt with
          tx := some first
          replies := [second, replyFrame f (takeRequest f (settle s.blocks s.blocks)).result]
          buffer := rest }
        rq := (eventPostings s.blocks (settle s.blocks (takeRequest f (settle s.blocks s.blocks)).blocks)).foldl post
          s.rq } := by
  have full : Config.replyCapacity ≤ (sentEvent s).cpt.replies.length := (congrArg List.length hr).ge
  rw [endTransmission_eq, takeWaiting_full full, startReply_idle (sentEvent s) first [second] rfl hr,
    takeWaiting_one hb rfl hx, postReports_quiet rfl, startReport_busy _ first rfl]
  rfl

/-- Settles O10: the transmitter is IDLE when a frame has gone, so a reply starts, else a report; the start of a reply makes
the room in which a waiting request is taken. -/
theorem transmitterChoosesAgain : Obligations.TransmitterChoosesAgain := by
  refine ⟨fun s hb => ?_, fun s f first second rest hb hr hx => congrArg _ (endTransmission_full hb hr hx),
    fun c => ⟨fun h => ?_, fun f h => ?_⟩⟩
  · refine ⟨endTransmission s, rfl, rfl, ?_, fun r rest hr => ?_, fun hr e he => ?_, fun hr he => ?_⟩
    · obtain ⟨-, replied, -⟩ := startReply_keeps (sentEvent s)
      obtain ⟨-, reported, -⟩ := startReport_keeps (postReports (startReply (sentEvent s)))
      rw [endTransmission_idle hb, toState_blocks, reported, postReports_blocks, replied]
      rfl
    · rw [endTransmission_reply hb hr]
      exact ⟨rfl, rfl⟩
    · rw [endTransmission_noReply hb hr, startReport_some rfl he]
      exact ⟨rfl, rfl⟩
    · rw [endTransmission_noReply hb hr, startReport_none rfl he]
      exact ⟨rfl, rfl⟩
  · rw [Cpt.sending, h]
    rfl
  · rw [Cpt.sending, h]
    rfl

end Sys2Proof.Proofs

/-! The queries and the information requests: what they answer, and that they change nothing (R199, R201 to R203), and the
step that runs them. -/

namespace Sys2Proof.Proofs

open Sys2Proof.Machine Sys2Proof.Safety

/-! ## Subjects and parts (R203) -/

/-- A query has `count` parts for the subjects that it names, and no part for any other. -/
def PartsNamed (names : Nat → Prop) (count : Nat) (parts : Nat → Option (List (List Octet))) : Prop :=
  ∀ n, (names n → ∃ ps, parts n = some ps ∧ ps.length = count) ∧ (¬ names n → parts n = none)

theorem partsNamed_onlyZero {ps : List (List Octet)} {count : Nat} (h : ps.length = count) :
    PartsNamed (· < 1) count (onlyZero ps) := fun _ =>
  ⟨fun hn => ⟨ps, if_pos (Nat.lt_one_iff.mp hn), h⟩, fun hn => if_neg (mt Nat.lt_one_iff.mpr hn)⟩

theorem linkOf_none : ∀ {n : Nat}, 3 ≤ n → linkOf n = none
  | 0, h => absurd h (by decide)
  | 1, h => absurd h (by decide)
  | 2, h => absurd h (by decide)
  | _ + 3, _ => rfl

theorem partsNamed_leaf (b : Blocks) :
    PartsNamed (· < 2) 2 fun n => (leafOf n).map fun l => [leafPart0 b l, leafPart1 b l] := fun n =>
  ⟨fun h => match n, h with
    | 0, _ => ⟨_, rfl, rfl⟩
    | 1, _ => ⟨_, rfl, rfl⟩, fun h => congrArg (Option.map _) (leafOf_none (Nat.not_lt.mp h))⟩

theorem partsNamed_link (b : Blocks) : PartsNamed (· < 3) 1 fun n => (linkOf n).map fun l => [linkPart b l] := fun n =>
  ⟨fun h => match n, h with
    | 0, _ => ⟨_, rfl, rfl⟩
    | 1, _ => ⟨_, rfl, rfl⟩
    | 2, _ => ⟨_, rfl, rfl⟩, fun h => congrArg (Option.map _) (linkOf_none (Nat.not_lt.mp h))⟩

theorem partsNamed_input (b : Blocks) :
    PartsNamed (fun n => 1 ≤ n ∧ n ≤ 41) 1 fun n => (inputNumbered n).map fun i => [inputPart b i] := fun _ =>
  ⟨fun h => ⟨_, congrArg (Option.map _) (dif_pos h), rfl⟩, fun h => congrArg (Option.map _) (dif_neg h)⟩

section
variable {i : Instr} {kind tag subject part : Octet} {s : State} {names : Nat → Prop} {count : Nat}
  {parts : Nat → Option (List (List Octet))}

/-- What a query on a quiet port is answered: the fields of a part that it has, and RANGE for any other. -/
theorem exec_queryJudged (hq : QuietPort s)
    (hf : requestFrame i = some { kind := kind, tag := tag, body := [subject, part] })
    (ht : takeRequest { kind := kind, tag := tag, body := [subject, part] } (atTaking s) =
      answerQuery [subject, part] parts (atTaking s)) (named : PartsNamed names count parts) :
    (names subject.toNat → part.toNat < count → ∃ fields : List Octet, exec i s =
      .next (answered s { kind := kind, tag := tag, body := [subject, part] } (atTaking s)
        (.ok (part :: BitVec.ofNat 8 count :: fields)))) ∧
    (¬ names subject.toNat ∨ count ≤ part.toNat → exec i s =
      .next (answered s { kind := kind, tag := tag, body := [subject, part] } (atTaking s) .range)) := by
  obtain ⟨has, hasNot⟩ := named subject.toNat
  constructor
  · intro hn hp
    obtain ⟨ps, found, rfl⟩ := has hn
    refine ⟨ps[part.toNat], exec_query parts hq hf ht found (List.getElem?_eq_getElem hp) ?_⟩
    simp [queryData, u8]
  · intro out
    refine exec_answered hf (Nat.le_of_ble_eq_true rfl) hq (ht.trans ?_)
    by_cases hn : names subject.toNat
    · obtain ⟨ps, found, rfl⟩ := has hn
      have none : ps[part.toNat]? = none := List.getElem?_eq_none (out.resolve_left (not_not_intro hn))
      simp only [answerQuery, num, found, none, refuse]
    · simp only [answerQuery, num, hasNot hn, refuse]

/-- A query whose subjects are the numbers below a bound. -/
theorem exec_queryBelow {subjects : Nat} (hq : QuietPort s)
    (hf : requestFrame i = some { kind := kind, tag := tag, body := [subject, part] })
    (ht : takeRequest { kind := kind, tag := tag, body := [subject, part] } (atTaking s) =
      answerQuery [subject, part] parts (atTaking s)) (named : PartsNamed (· < subjects) count parts) :
    (subject.toNat < subjects → part.toNat < count → ∃ fields : List Octet, exec i s =
      .next (answered s { kind := kind, tag := tag, body := [subject, part] } (atTaking s)
        (.ok (part :: BitVec.ofNat 8 count :: fields)))) ∧
    (subjects ≤ subject.toNat ∨ count ≤ part.toNat → exec i s =
      .next (answered s { kind := kind, tag := tag, body := [subject, part] } (atTaking s) .range)) := by
  obtain ⟨answers, turnsAway⟩ := exec_queryJudged hq hf ht named
  exact ⟨answers, fun out => turnsAway (out.imp_left Nat.not_lt.mpr)⟩

end

/-! ## PRESENCE and unknown kinds (R199, R203) -/

theorem toNat_eq_zero_iff (o : Octet) : o.toNat = 0 ↔ o = 0#8 := BitVec.toNat_inj (y := 0#8)

theorem takePresence_eq (subject part : Octet) (b : Blocks) : takePresence [subject, part] b =
    { blocks := b, result := if subject = 0#8 ∧ part = 0#8 then .ok [] else .range } := by
  simp only [takePresence, num, toNat_eq_zero_iff]
  split <;> rfl

/-- A kind that is no request's has no taking of its own. -/
theorem takeRequest_unknownKind {f : Frame} (b : Blocks) (h : knownKind f.kind = false) :
    takeRequest f b = refuse .unknownKind b := by
  unfold takeRequest
  split
  case h_36 => rfl
  all_goals
    next kind => simp [knownKind, kind] at h

/-- Settles O37: each query's parts are counted, and any other subject or part, and any other kind, is named. -/
theorem queriesAnswerAndChangeNothing : Obligations.QueriesAnswerAndChangeNothing := by
  intro tag subject part s hq b f query
  obtain ⟨input, noInput⟩ := exec_queryJudged (i := .getInput tag subject part) hq rfl rfl (partsNamed_input b)
  refine ⟨exec_queryBelow hq rfl rfl (partsNamed_onlyZero rfl), exec_queryBelow hq rfl rfl (partsNamed_onlyZero rfl),
    exec_queryBelow hq rfl rfl (partsNamed_leaf b), exec_queryBelow hq rfl rfl (partsNamed_onlyZero rfl),
    exec_queryBelow hq rfl rfl (partsNamed_link b), exec_queryBelow hq rfl rfl (partsNamed_onlyZero rfl),
    exec_queryBelow hq rfl rfl (partsNamed_onlyZero rfl), fun low high hp => ?_, fun out => noInput ?_,
    exec_answered rfl (Nat.le_of_ble_eq_true rfl) hq (takePresence_eq subject part b), fun kind body hk hl => ⟨?_, rfl⟩⟩
  · subst hp
    exact input ⟨low, high⟩ (by decide)
  · rcases out with hs | hs | hp
    · exact .inl fun named => absurd named.1 (by simp [hs])
    · exact .inl fun named => absurd named.2 (Nat.not_le.mpr hs)
    · exact .inr (Nat.pos_of_ne_zero (mt (toNat_eq_zero_iff part).mp hp))
  · exact exec_answered rfl hl hq (takeRequest_unknownKind b hk)

/-! ## One step (R199) -/

/-- Settles O1: the queue's front is run on the state with the queue's rest. -/
theorem stepRunsTheFrontCommand : Obligations.StepRunsTheFrontCommand := by
  refine ⟨fun c rest s => rfl, fun s h => ?_⟩
  rw [step, h]

/-! ## IDENTIFY and GET_PARAM (R202, R203) -/

theorem takeGetParam_eq (ident subject : Octet) (b : Blocks) : takeGetParam [ident, subject] b =
    if paramNamed ident.toNat subject.toNat = true then
      { blocks := b, result := .ok (paramData ident.toNat subject.toNat b) }
    else refuse .range b := rfl

/-- GET_PARAM on a quiet port is answered as its two octets are judged. -/
theorem exec_getParam {tag ident subject : Octet} {s : State} {r : Result} (hq : QuietPort s)
    (h : takeGetParam [ident, subject] (atTaking s) = { blocks := atTaking s, result := r }) :
    exec (.getParam tag ident subject) s =
      .next (answered s { kind := 0x03#8, tag := tag, body := [ident, subject] } (atTaking s) r) :=
  exec_answered rfl (Nat.le_of_ble_eq_true rfl) hq h

theorem paramNamed_iff (ident subject : Nat) : paramNamed ident subject = true ↔
    1 ≤ ident ∧ ident ≤ 40 ∧ (subject = 0 ∨ (subject = 1 ∧ 15 ≤ ident ∧ ident ≤ 17)) := by
  simp only [paramNamed, paramPerLeaf, Bool.and_eq_true, Bool.or_eq_true, decide_eq_true_eq, beq_iff_eq]
  omega

/-- Settles O14: both requests answer from the blocks as they stand, and the named parameters are those of R202. -/
theorem identifyAndGetParamAnswer : Obligations.IdentifyAndGetParamAnswer := by
  refine ⟨fun tag s hq => exec_answered rfl (Nat.zero_le _) hq rfl, fun tag ident subject s hq hn => ?_,
    fun tag ident subject s hq hn => ?_, paramNamed_iff⟩
  · exact exec_getParam hq (by rw [takeGetParam_eq, if_pos hn]; rfl)
  · exact exec_getParam hq (by rw [takeGetParam_eq, if_neg (by simp [hn])]; rfl)

end Sys2Proof.Proofs

/-! SET_PARAM in CONFIG: the write of one active value and what it does to the input records and the wind record (R63, R185,
R202). -/

namespace Sys2Proof.Proofs

open Sys2Proof.Machine Sys2Proof.Safety

/-! ## The value written -/

theorem paramGet_paramSet_self {i : Nat} (hi : 1 ≤ i ∧ i ≤ 40) (p : Params) (j v : Nat) :
    paramGet (paramSet p i j v) i j = v := by
  unfold paramSet
  split
  case h_40 =>
    unfold paramGet
    split
    case h_40 => rfl
    all_goals exact absurd rfl ‹_›
  all_goals first | rfl | exact PerLeaf.get_set_same _ _ v

/-- The other leaf's value of a per-leaf parameter stands (R202). -/
theorem paramGet_paramSet_otherLeaf {i j l : Nat} (hi : 15 ≤ i ∧ i ≤ 17) (h : subjectLeaf l ≠ subjectLeaf j) (p : Params)
    (v : Nat) : paramGet (paramSet p i j v) i l = paramGet p i l := by
  obtain rfl | rfl | rfl : i = 15 ∨ i = 16 ∨ i = 17 := by omega
  all_goals exact PerLeaf.get_set_other _ _ _ v h

/-- A write of one named parameter leaves the value of every other. -/
theorem paramGet_paramSet_named {i j k l : Nat} (hi : paramNamed i j = true) (hk : paramNamed k l = true)
    (h : ¬ (k = i ∧ l = j)) (p : Params) (v : Nat) : paramGet (paramSet p i j v) k l = paramGet p k l := by
  by_cases same : k = i
  · subst same
    obtain ⟨-, -, hj⟩ := (paramNamed_iff k j).mp hi
    obtain ⟨-, -, hl⟩ := (paramNamed_iff k l).mp hk
    have subjects : (15 ≤ k ∧ k ≤ 17) ∧ (l = 0 ∧ j = 1 ∨ l = 1 ∧ j = 0) := by omega
    obtain ⟨leaf, ⟨rfl, rfl⟩ | ⟨rfl, rfl⟩⟩ := subjects
    · exact paramGet_paramSet_otherLeaf leaf (by decide) p v
    · exact paramGet_paramSet_otherLeaf leaf (by decide) p v
  · exact paramGet_paramSet_other (paramNamed_bounds hi) (paramNamed_bounds hk) same p j l v

/-- A parameter that is not staged never has a pending value. -/
theorem pendingGet_unstaged {i : Nat} (h : paramClass i ≠ .staged) (q : Pending) : pendingGet q i = none := by
  rw [ne_eq, paramClass_staged_iff] at h
  simp only [List.mem_cons, List.not_mem_nil, or_false, not_or] at h
  unfold pendingGet
  split <;> simp_all

theorem pendingGet_pendingSet_cleared (i : Nat) (q : Pending) : pendingGet (pendingSet q i none) i = none := by
  by_cases staged : paramClass i = .staged
  · exact pendingGet_pendingSet_same staged q none
  · exact pendingGet_unstaged staged _

/-! ## What a write does beside storing the value (R63, R185) -/

theorem written_sameBut (p : Params) (q : Pending) (b : Blocks) : SameBut [.par, .pend] b { b with par := p, pend := q } := by
  intro f hf
  cases f <;> first | rfl | exact absurd (by decide) hf

theorem writeParam_config {b : Blocks} (hm : b.sil.mode = .config) (i j v : Nat) : writeParam i j v b =
    afterWrite i { b with par := paramSet b.par i j v, pend := pendingSet b.pend i none } :=
  if_neg fun h => by cases hm.symm.trans h.2

theorem afterWrite_par (i : Nat) (b : Blocks) : (afterWrite i b).par = b.par := afterWrite_sameBut i b .par (by decide)

theorem afterWrite_pend (i : Nat) (b : Blocks) : (afterWrite i b).pend = b.pend := afterWrite_sameBut i b .pend (by decide)

theorem afterWrite_iq_rest {i : Nat} (h : i ≠ 6) (b : Blocks) : (afterWrite i b).iq = b.iq := by
  unfold afterWrite
  split
  case h_1 => exact absurd rfl h
  all_goals rfl

theorem afterWrite_wmn_rest {i : Nat} (h : i < 34 ∨ 36 < i) (b : Blocks) : (afterWrite i b).wmn = b.wmn := by
  unfold afterWrite
  split
  case h_1 => exact mapInputs_wmn _ b
  case h_5 => rfl
  all_goals omega

theorem afterWrite_thresholds {i : Nat} (h : 34 ≤ i) (h' : i ≤ 36) (b : Blocks) : afterWrite i b = onWind judgeLevels b := by
  obtain rfl | rfl | rfl : i = 34 ∨ i = 35 ∨ i = 36 := by omega
  all_goals rfl

theorem mapInputs_lastGood (g : Fin 41 → InputRec → InputRec) (b : Blocks) :
    (mapInputs g b).iq.lastGood = b.iq.lastGood := by simp only [mapInputs]

theorem holdWritten_get (b : Blocks) (i : Fin 41) : (holdWritten b).iq.recs.get i =
    (b.iq.recs.get i).holdWritten b.par.holdMs b.now (failSafe (inputAt i)) := mapInputs_get _ b i

section
variable {r : InputRec} {holdMs now : Nat} (safe : Bool)

/-- A HELD record whose time has reached the new HOLD_MS falls. -/
theorem holdWritten_falls (hf : r.freshness = .held) {since : Nat} (hs : r.heldSince = some since)
    (h : holdMs ≤ now - since) : r.holdWritten holdMs now safe = r.fallSafe safe := by
  simp only [InputRec.holdWritten, hf, hs, if_pos h]

theorem holdWritten_stays (h : ¬ (r.freshness = .held ∧ ∃ since, r.heldSince = some since ∧ holdMs ≤ now - since)) :
    r.holdWritten holdMs now safe = r := by
  unfold InputRec.holdWritten
  split
  case h_1 since hf hs => exact if_neg fun hn => h ⟨hf, since, hs, hn⟩
  case h_2 => rfl

end

/-- Settles O15: the value is stored in its own field, and what HOLD_MS and the wind thresholds do beside is the judgement of
the records by the parameters as written. -/
theorem setParamInConfigIsActiveAtOnce : Obligations.SetParamInConfigIsActiveAtOnce := by
  intro tag ident subject value s hq hm hn hr
  have taken := atTaking_config hm
  have allowed : paramModeFails ident.toNat (atTaking s).sil.mode = false := by rw [taken, hm]; rfl
  have speed : ¬ (ident.toNat = 18 ∧ (atTaking s).sil.mode = .operate ∧ value.toInt < ((atTaking s).par.vCreep : Int)) :=
    fun h => by rw [taken, hm] at h; cases h.2.1
  have accepted := setParam_accepted hn allowed hr speed
  obtain ⟨c, hc⟩ : ∃ c, c = { s.blocks with
      par := paramSet s.blocks.par ident.toNat subject.toNat value.toInt.toNat
      pend := pendingSet s.blocks.pend ident.toNat none } := ⟨_, rfl⟩
  rw [taken, writeParam_config hm, ← hc] at accepted
  have frame : SameBut [.par, .pend] s.blocks c := hc ▸ written_sameBut _ _ s.blocks
  have par : c.par = paramSet s.blocks.par ident.toNat subject.toNat value.toInt.toNat := by rw [hc]
  have pend : c.pend = pendingSet s.blocks.pend ident.toNat none := by rw [hc]
  have iq : c.iq = s.blocks.iq := frame .iq (by decide)
  have now : c.now = s.blocks.now := frame .now (by decide)
  have wmn : c.wmn = s.blocks.wmn := frame .wmn (by decide)
  refine ⟨afterWrite ident.toNat c, exec_setParam hq (by rw [taken]; exact accepted), ?active, ?pending,
    fun i j hi other => ?others, fun i other => ?otherPending,
    sameBut_join frame (afterWrite_sameBut _ c) (by decide) (by decide), fun h => (afterWrite_iq_rest h c).trans iq,
    fun h => ?holds, fun h => (afterWrite_wmn_rest h c).trans wmn, fun h h' => ?wind⟩
  case active =>
    rw [afterWrite_par, par]
    exact paramGet_paramSet_self (paramNamed_bounds hn) _ _ _
  case pending =>
    rw [afterWrite_pend, pend]
    exact pendingGet_pendingSet_cleared _ _
  case others =>
    rw [afterWrite_par, par]
    exact paramGet_paramSet_named hn hi other _ _
  case otherPending =>
    rw [afterWrite_pend, pend]
    exact pendingGet_pendingSet_other other _ _
  case holds =>
    have holdMs : c.par.holdMs = value.toInt.toNat := by rw [par, h]; rfl
    rw [h, show afterWrite 6 c = holdWritten c from rfl, ← iq, ← now, ← holdMs]
    refine ⟨mapInputs_lastGood _ c, fun i => ⟨fun ⟨held, since, hs, reached⟩ => ?_, fun stands => ?_⟩⟩
    · exact (holdWritten_get c i).trans (holdWritten_falls _ held hs reached)
    · exact (holdWritten_get c i).trans (holdWritten_stays _ stands)
  case wind =>
    rw [afterWrite_thresholds h h', ← wmn]
    rfl

end Sys2Proof.Proofs

/-! The channel assignment table: ASSIGN_INPUT, ASSIGN_OUTPUT and CLEAR_ASSIGNMENT in CONFIG (R64 to R67). -/

namespace Sys2Proof.Proofs

open Sys2Proof.Machine Sys2Proof.Safety

/-! ## One entry of a table written -/

theorem vector_get_set_same {α : Type} {n : Nat} (v : Vector α n) (i : Fin n) (a : α) :
    (v.set i.val a i.isLt).get i = a := Vector.getElem_set_self i.isLt

theorem vector_get_set_other {α : Type} {n : Nat} (v : Vector α n) {i j : Fin n} (a : α) (h : j ≠ i) :
    (v.set i.val a i.isLt).get j = v.get j :=
  Vector.getElem_set_ne i.isLt j.isLt fun e => h (Fin.ext e).symm

theorem fieldRec_injective : Function.Injective fieldRec := fun _ _ h => Fin.ext (Fin.mk.inj h)

section
variable (i : Fin 24) (e : Option InputEntry) (b : Blocks)

/-- The posting of a restarted record leaves the table and the records as set. -/
theorem assignEntry_set : (assignEntry i e b).cat = (setEntry i e b).cat ∧ (assignEntry i e b).iq = (setEntry i e b).iq := by
  unfold assignEntry
  dsimp only
  split <;> exact ⟨rfl, rfl⟩

theorem assignEntry_inputs_same : (assignEntry i e b).cat.inputs.get i = e := by
  rw [(assignEntry_set i e b).1]
  exact vector_get_set_same _ i e

theorem assignEntry_inputs_other {j : Fin 24} (h : j ≠ i) :
    (assignEntry i e b).cat.inputs.get j = b.cat.inputs.get j := by
  rw [(assignEntry_set i e b).1]
  exact vector_get_set_other _ e h

theorem assignEntry_outputs : (assignEntry i e b).cat.outputs = b.cat.outputs := by
  rw [(assignEntry_set i e b).1]
  rfl

/-- The record of an input restarts by its new entry (R65, R67). -/
theorem assignEntry_rec_same : (assignEntry i e b).iq.recs.get (fieldRec i) = restartedRec (fieldFn i) e := by
  rw [(assignEntry_set i e b).2]
  exact vector_get_set_same _ (fieldRec i) _

theorem assignEntry_rec_other {j : Fin 41} (h : j ≠ fieldRec i) :
    (assignEntry i e b).iq.recs.get j = b.iq.recs.get j := by
  rw [(assignEntry_set i e b).2]
  exact vector_get_set_other _ (i := fieldRec i) _ h

end

theorem restartedRec_none_optional {f : InputFn} (h : isOptional f = true) :
    restartedRec f none = { qualified := false, freshness := .fresh, pendingFirst := false } := if_pos h

theorem restartedRec_none_mandatory {f : InputFn} (h : isOptional f = false) :
    restartedRec f none = { qualified := failSafe f, freshness := .failsafe, pendingFirst := true } :=
  if_neg (by simp [h])

/-! ## ASSIGN_INPUT (R65) -/

theorem fieldIndex_of_number {n : Nat} {i : Fin 24} (h : n = i.val + 1) : fieldIndex n = some i := by
  subst h
  exact dif_pos ⟨Nat.succ_pos _, i.isLt⟩

theorem fieldIndex_none_iff (n : Nat) : fieldIndex n = none ↔ n = 0 ∨ 24 < n := by
  unfold fieldIndex
  split
  · simp only [reduceCtorEq, false_iff]
    omega
  · simp only [true_iff]
    omega

section
variable {fn form link channel bit n flags : Octet} {b : Blocks} {i : Fin 24} (hm : b.sil.mode = .config)
include hm

theorem takeAssignInput_position (hi : fieldIndex fn.toNat = some i) :
    takeAssignInput [fn, 0#8, link, channel, bit, n, flags] b =
      assignPosition i link.toNat channel.toNat bit.toNat n.toNat flags.toNat b := by
  simp [takeAssignInput, inMode_same hm, num, hi]

theorem takeAssignInput_notFitted (hi : fieldIndex fn.toNat = some i) :
    takeAssignInput [fn, 1#8, link, channel, bit, n, flags] b =
      if isOptional (fieldFn i) = true then accept (assignEntry i (some .notFitted) b) else refuse .range b := by
  simp [takeAssignInput, inMode_same hm, num, hi]

theorem takeAssignInput_unnamed (h : fieldIndex fn.toNat = none ∨ 2 ≤ form.toNat) :
    takeAssignInput [fn, form, link, channel, bit, n, flags] b = refuse .range b := by
  simp only [takeAssignInput, inMode_same hm, num]
  split
  case h_1 hi hf => exact absurd h (by simp [hi, hf])
  case h_2 hi hf => exact absurd h (by simp [hi, hf])
  case h_3 => rfl

end

section
variable {i : Fin 24} {l : Link} {p : Position} {link channel bit n : Nat} {b : Blocks} (flags : Nat)

/-- Checks 2 and 3 of R65: a position that R27 does not name, a debounce count out of its range, or a link that is not the
function's own. -/
theorem assignPosition_range (h : ∀ l p, linkOf link = some l → positionOf channel bit = some p → 1 ≤ n → n ≤ 15 →
    inputLink (fieldFn i) ≠ some l) : assignPosition i link channel bit n flags b = refuse .range b := by
  unfold assignPosition
  split
  case h_1 l p hl hp =>
    by_cases count : 1 ≤ n ∧ n ≤ 15
    · rw [if_neg (not_not.mpr count), if_pos (h l p hl hp count.1 count.2)]
    · exact if_pos count
  case h_2 => rfl

/-- Check 4 of R65 alone is left for a position of the function's own link. -/
theorem assignPosition_own (hl : linkOf link = some l) (hp : positionOf channel bit = some p) (h1 : 1 ≤ n) (h15 : n ≤ 15)
    (own : inputLink (fieldFn i) = some l) : assignPosition i link channel bit n flags b =
      if receiveHeld b i l p = true then refuse .conflict b
      else accept (assignEntry i (some (.position p n (flags.testBit 0) (flags.testBit 1))) b) := by
  simp only [assignPosition, hl, hp, h1, h15, own, and_self, not_true, ne_eq, if_false]

end

/-- Another input of the link holds the position. -/
theorem receiveHeld_of_entry {b : Blocks} {i j : Fin 24} {l : Link} {p : Position} {m : Nat} {inv rep : Bool} (h : j ≠ i)
    (own : inputLink (fieldFn j) = some l) (entry : b.cat.inputs.get j = some (.position p m inv rep)) :
    receiveHeld b i l p = true :=
  List.any_eq_true.mpr ⟨j, List.mem_finRange j, by simp [h, own, entry]⟩

/-- ASSIGN_INPUT on a quiet port in CONFIG is answered as its octets are judged. -/
theorem exec_assignInput {tag fn form link channel bit n flags : Octet} {s : State} {b : Blocks} {r : Result}
    (hq : QuietPort s) (hm : s.blocks.sil.mode = .config)
    (h : takeAssignInput [fn, form, link, channel, bit, n, flags] s.blocks = { blocks := b, result := r }) :
    exec (.assignInput tag fn form link channel bit n flags) s =
      .next (answered s { kind := 0x04#8, tag := tag, body := [fn, form, link, channel, bit, n, flags] } b r) :=
  exec_answered rfl (Nat.le_of_ble_eq_true rfl) hq (by rw [atTaking_config hm]; exact h)

/-- Settles O17: an accepted form writes its entry and restarts its record, and each check of R65 that fails ends the request
before. -/
theorem assignInputPlacesAndRestarts : Obligations.AssignInputPlacesAndRestarts := by
  refine ⟨?position, fun tag fn form link channel bit n flags s hq hm => ⟨?unnamed, fun i hi => ⟨?mandatory, ?notFitted,
    fun hf => ⟨?range, ?link, ?conflict⟩⟩⟩⟩
  case position =>
    intro tag fn link channel bit n flags i l p s hq hm hi hl hp own h1 h15 free
    have judged := (takeAssignInput_position hm (fieldIndex_of_number hi)).trans
      ((assignPosition_own flags.toNat hl hp h1 h15 own).trans (if_neg (by simp [free])))
    exact ⟨_, exec_assignInput hq hm judged, assignEntry_inputs_same _ _ _, fun j hj => assignEntry_inputs_other _ _ _ hj,
      assignEntry_outputs _ _ _, assignEntry_rec_same _ _ _, fun j hj => assignEntry_rec_other _ _ _ hj,
      assignEntry_sameBut _ _ _⟩
  case unnamed =>
    intro h
    refine exec_assignInput hq hm (takeAssignInput_unnamed hm ?_)
    rw [fieldIndex_none_iff, toNat_eq_zero_iff, or_assoc]
    exact h
  case mandatory =>
    rintro rfl hf
    exact exec_assignInput hq hm ((takeAssignInput_notFitted hm (fieldIndex_of_number hi)).trans (if_neg (by simp [hf])))
  case notFitted =>
    rintro rfl hf
    have judged := (takeAssignInput_notFitted (link := link) (channel := channel) (bit := bit) (n := n) (flags := flags) hm
      (fieldIndex_of_number hi)).trans (if_pos hf)
    exact ⟨_, exec_assignInput hq hm judged, assignEntry_inputs_same _ _ _, fun j hj => assignEntry_inputs_other _ _ _ hj,
      assignEntry_outputs _ _ _, assignEntry_rec_same _ _ _, fun j hj => assignEntry_rec_other _ _ _ hj,
      assignEntry_sameBut _ _ _⟩
  all_goals subst hf
  case range =>
    intro h
    refine exec_assignInput hq hm ((takeAssignInput_position hm (fieldIndex_of_number hi)).trans
      (assignPosition_range _ fun l p hl hp h1 h15 => ?_))
    rcases h with h | h | rfl | h
    · exact absurd (h.symm.trans hl) nofun
    · exact absurd (h.symm.trans hp) nofun
    · exact absurd h1 (by decide)
    · exact absurd h15 (Nat.not_le.mpr h)
  case link =>
    intro h
    exact exec_assignInput hq hm ((takeAssignInput_position hm (fieldIndex_of_number hi)).trans
      (assignPosition_range _ fun l p hl _ _ _ own => h (own.trans hl.symm)))
  case conflict =>
    intro l p j m inv rep hl hp h1 h15 own other ownOther entry
    exact exec_assignInput hq hm ((takeAssignInput_position hm (fieldIndex_of_number hi)).trans
      ((assignPosition_own _ hl hp h1 h15 own).trans (if_pos (receiveHeld_of_entry other ownOther entry))))

/-! ## What the numbers of an output name (R27, R64, R66) -/

theorem outputOf_none_iff (n : Nat) : outputOf n = none ↔ n = 0 ∨ 22 < n := by
  cases n with
  | zero => exact ⟨fun _ => .inl rfl, fun _ => rfl⟩
  | succ k =>
    have length : outputFunctions.length = 22 := rfl
    rw [outputOf, List.getElem?_eq_none_iff, length]
    omega

theorem linkOf_none_iff (n : Nat) : linkOf n = none ↔ 2 < n := by
  unfold linkOf
  split
  case h_4 h0 h1 h2 =>
    simp only [imp_false] at h0 h1 h2
    simp only [true_iff]
    omega
  all_goals decide

theorem positionOf_none_iff (channel bit : Nat) : positionOf channel bit = none ↔
    channel = 0 ∨ 8 < channel ∨ 7 < bit ∨ (channel = 8 ∧ 3 < bit) := by
  unfold positionOf
  split_ifs with named
  · dsimp only
    split_ifs with inside
    · simp only [false_iff]
      omega
    · simp only [true_iff]
      omega
  · simp only [true_iff]
    omega

theorem barrierLink_eq (i : BarrierId) : approachLink (barrierApproach i) =
    if i = .northEntry ∨ i = .northExit then .n else .s := by cases i <;> rfl

/-- Only a barrier command is bound to a link, that of its own approach (R66). -/
theorem outputLinkAllows_false_iff (g : OutputFn) (l : Link) : outputLinkAllows g l = false ↔
    ∃ i : BarrierId, (g = .lower i ∨ g = .raise i) ∧ l ≠ (if i = .northEntry ∨ i = .northExit then .n else .s) := by
  simp only [← barrierLink_eq]
  cases g
  case lower i => simp [outputLinkAllows, outputLink, eq_comm (a := l)]
  case raise i => simp [outputLinkAllows, outputLink, eq_comm (a := l)]
  all_goals simp [outputLinkAllows, outputLink]

/-! ## ASSIGN_OUTPUT (R66) -/

section
variable (l : Link) (p : Position) (e : Option OutputFn) (b : Blocks)

theorem setOutput_get_same : ((setOutput l p e b).cat.outputs.get l).get p = e := by
  rw [setOutput, PerLink.get_set_same]
  exact vector_get_set_same _ p e

theorem setOutput_get_other {q : Position} (h : q ≠ p) :
    ((setOutput l p e b).cat.outputs.get l).get q = (b.cat.outputs.get l).get q := by
  rw [setOutput, PerLink.get_set_same]
  exact vector_get_set_other _ e h

theorem setOutput_otherLink {k : Link} (h : k ≠ l) : (setOutput l p e b).cat.outputs.get k = b.cat.outputs.get k :=
  PerLink.get_set_other _ _ _ _ h

theorem setOutput_inputs : (setOutput l p e b).cat.inputs = b.cat.inputs := rfl

end

section
variable {fn link channel bit : Octet} {g : OutputFn} {l : Link} {p : Position} {b : Blocks}

theorem takeAssignOutput_named (hm : b.sil.mode = .config) (hg : outputOf fn.toNat = some g)
    (hl : linkOf link.toNat = some l) (hp : positionOf channel.toNat bit.toNat = some p) :
    takeAssignOutput [fn, link, channel, bit] b = assignOutput g l p b := by
  simp only [takeAssignOutput, inMode_same hm, num, hg, hl, hp]

theorem takeAssignOutput_unnamed (hm : b.sil.mode = .config)
    (h : outputOf fn.toNat = none ∨ linkOf link.toNat = none ∨ positionOf channel.toNat bit.toNat = none) :
    takeAssignOutput [fn, link, channel, bit] b = refuse .range b := by
  simp only [takeAssignOutput, inMode_same hm, num]
  split
  case h_1 hg hl hp => exact absurd h (by simp [hg, hl, hp])
  case h_2 => rfl

theorem assignOutput_offLink (h : outputLinkAllows g l = false) : assignOutput g l p b = refuse .range b := if_pos h

theorem assignOutput_free (ha : outputLinkAllows g l = true) (hf : (b.cat.outputs.get l).get p = none) :
    assignOutput g l p b = if 4 ≤ outputCount b g then refuse .range b else accept (setOutput l p (some g) b) := by
  simp only [assignOutput, ha, hf, Bool.true_eq_false, if_false]

theorem assignOutput_held (ha : outputLinkAllows g l = true) {h : OutputFn}
    (hh : (b.cat.outputs.get l).get p = some h) :
    assignOutput g l p b = { blocks := b, result := if h = g then .ok [] else .conflict } := by
  simp only [assignOutput, ha, hh, Bool.true_eq_false, if_false]
  split <;> rfl

end

/-- ASSIGN_OUTPUT on a quiet port in CONFIG is answered as its octets are judged. -/
theorem exec_assignOutput {tag fn link channel bit : Octet} {s : State} {b : Blocks} {r : Result}
    (hq : QuietPort s) (hm : s.blocks.sil.mode = .config)
    (h : takeAssignOutput [fn, link, channel, bit] s.blocks = { blocks := b, result := r }) :
    exec (.assignOutput tag fn link channel bit) s =
      .next (answered s { kind := 0x05#8, tag := tag, body := [fn, link, channel, bit] } b r) :=
  exec_answered rfl (Nat.le_of_ble_eq_true rfl) hq (by rw [atTaking_config hm]; exact h)

/-! ## CLEAR_ASSIGNMENT (R67) -/

section
variable {form x y z : Octet} {b : Blocks} (hm : b.sil.mode = .config)
include hm

theorem takeClearAssignment_input : takeClearAssignment [0#8, x, y, z] b = clearInput x.toNat b := inMode_same hm

theorem takeClearAssignment_output : takeClearAssignment [1#8, x, y, z] b = clearOutput x.toNat y.toNat z.toNat b :=
  inMode_same hm

theorem takeClearAssignment_all : takeClearAssignment [2#8, x, y, z] b = accept (clearTable b) := inMode_same hm

theorem takeClearAssignment_unformed (h : 2 < form.toNat) : takeClearAssignment [form, x, y, z] b = refuse .range b := by
  simp only [takeClearAssignment, inMode_same hm, num]
  split
  case h_4 => rfl
  all_goals omega

end

theorem clearInput_unnamed {n : Nat} (h : fieldIndex n = none) (b : Blocks) : clearInput n b = refuse .range b := by
  simp only [clearInput, h]

theorem clearInput_named {n : Nat} {i : Fin 24} (h : fieldIndex n = some i) (b : Blocks) : clearInput n b =
    if b.cat.inputs.get i = none then refuse .notFound b else accept (assignEntry i none b) := by
  simp only [clearInput, h, Option.isNone_iff_eq_none]

theorem clearOutput_unnamed {link channel bit : Nat} (h : linkOf link = none ∨ positionOf channel bit = none) (b : Blocks) :
    clearOutput link channel bit b = refuse .range b := by
  unfold clearOutput
  split
  case h_1 hl hp => exact absurd h (by simp [hl, hp])
  case h_2 => rfl

theorem clearOutput_named {link channel bit : Nat} {l : Link} {p : Position} (hl : linkOf link = some l)
    (hp : positionOf channel bit = some p) (b : Blocks) : clearOutput link channel bit b =
      if (b.cat.outputs.get l).get p = none then refuse .notFound b else accept (setOutput l p none b) := by
  simp only [clearOutput, hl, hp, Option.isNone_iff_eq_none]

/-! ### The whole table -/

/-- Inputs cleared one after another: every one that is cleared has no entry and a restarted record. -/
theorem clearInputs_cleared (i : Fin 24) : ∀ (is : List (Fin 24)) (b : Blocks),
    i ∈ is ∨ (b.cat.inputs.get i = none ∧ b.iq.recs.get (fieldRec i) = restartedRec (fieldFn i) none) →
      (is.foldl (fun x j => assignEntry j none x) b).cat.inputs.get i = none ∧
        (is.foldl (fun x j => assignEntry j none x) b).iq.recs.get (fieldRec i) = restartedRec (fieldFn i) none
  | [], b, h => h.resolve_left List.not_mem_nil
  | j :: is, b, h => by
    refine clearInputs_cleared i is _ ?_
    by_cases same : i = j
    · subst same
      exact .inr ⟨assignEntry_inputs_same i none b, assignEntry_rec_same i none b⟩
    · rw [assignEntry_inputs_other j none b same, assignEntry_rec_other j none b (fieldRec_injective.ne same)]
      exact h.imp_left fun mem => (List.mem_cons.mp mem).resolve_left same

/-- The machinery records stand while field inputs are cleared. -/
theorem clearInputs_machinery {k : Fin 41} (hk : 24 ≤ k.val) : ∀ (is : List (Fin 24)) (b : Blocks),
    (is.foldl (fun x j => assignEntry j none x) b).iq.recs.get k = b.iq.recs.get k
  | [], _ => rfl
  | j :: is, b => by
    have other : k ≠ fieldRec j := by
      rintro rfl
      exact absurd hk (Nat.not_le.mpr j.isLt)
    exact (clearInputs_machinery hk is _).trans (assignEntry_rec_other j none b other)

theorem clearTable_inputs (b : Blocks) :
    (clearTable b).cat.inputs = ((List.finRange 24).foldl (fun x j => assignEntry j none x) b).cat.inputs := by
  simp only [clearTable]

theorem clearTable_iq (b : Blocks) :
    (clearTable b).iq = ((List.finRange 24).foldl (fun x j => assignEntry j none x) b).iq := by
  simp only [clearTable]

theorem clearTable_outputs (b : Blocks) : (clearTable b).cat.outputs =
    ⟨Vector.replicate 60 none, Vector.replicate 60 none, Vector.replicate 60 none⟩ := by
  simp only [clearTable]

theorem clearTable_input (b : Blocks) (i : Fin 24) : (clearTable b).cat.inputs.get i = none := by
  rw [clearTable_inputs]
  exact (clearInputs_cleared i (List.finRange 24) b (.inl (List.mem_finRange i))).1

theorem clearTable_fieldRec (b : Blocks) (i : Fin 24) :
    (clearTable b).iq.recs.get (fieldRec i) = restartedRec (fieldFn i) none := by
  rw [clearTable_iq]
  exact (clearInputs_cleared i (List.finRange 24) b (.inl (List.mem_finRange i))).2

theorem clearTable_machinery (b : Blocks) {k : Fin 41} (hk : 24 ≤ k.val) :
    (clearTable b).iq.recs.get k = b.iq.recs.get k := by
  rw [clearTable_iq]
  exact clearInputs_machinery hk (List.finRange 24) b

theorem clearTable_output (b : Blocks) (l : Link) (p : Position) : ((clearTable b).cat.outputs.get l).get p = none := by
  rw [clearTable_outputs]
  cases l <;> exact Vector.getElem_replicate p.isLt

/-- CLEAR_ASSIGNMENT on a quiet port in CONFIG is answered as its octets are judged. -/
theorem exec_clearAssignment {tag form x y z : Octet} {s : State} {b : Blocks} {r : Result}
    (hq : QuietPort s) (hm : s.blocks.sil.mode = .config)
    (h : takeClearAssignment [form, x, y, z] s.blocks = { blocks := b, result := r }) :
    exec (.clearAssignment tag form x y z) s =
      .next (answered s { kind := 0x06#8, tag := tag, body := [form, x, y, z] } b r) :=
  exec_answered rfl (Nat.le_of_ble_eq_true rfl) hq (by rw [atTaking_config hm]; exact h)

/-- Settles O18: each check of R66 and R67 that fails ends the request before, and an accepted one writes the entries of its
form. -/
theorem outputsAreAssignedAndEntriesCleared : Obligations.OutputsAreAssignedAndEntriesCleared := by
  refine ⟨?assigned, ?unassignable, ⟨outputOf_none_iff, linkOf_none_iff, positionOf_none_iff, outputLinkAllows_false_iff⟩,
    ?unclearable, fun tag x y z s hq hm => ⟨?clearedInput, ?clearedOutput, ?clearedTable⟩⟩
  case assigned =>
    intro tag fn link channel bit g l p s hq hm hg hl hp ha f
    have taken := takeAssignOutput_named hm hg hl hp
    refine ⟨fun free few => ?_, fun free full => ?_, fun h held => ?_⟩
    · exact ⟨_, exec_assignOutput hq hm (taken.trans ((assignOutput_free ha free).trans (if_neg (Nat.not_le.mpr few)))),
        setOutput_get_same _ _ _ _, fun q hq => setOutput_get_other _ _ _ _ hq, fun k hk => setOutput_otherLink _ _ _ _ hk,
        setOutput_inputs _ _ _ _, setOutput_sameBut _ _ _ _⟩
    · exact exec_assignOutput hq hm (taken.trans ((assignOutput_free ha free).trans (if_pos full)))
    · exact exec_assignOutput hq hm (taken.trans (assignOutput_held ha held))
  case unassignable =>
    intro tag fn link channel bit s hq hm
    exact ⟨fun h => exec_assignOutput hq hm (takeAssignOutput_unnamed hm h), fun g l p hg hl hp ha =>
      exec_assignOutput hq hm ((takeAssignOutput_named hm hg hl hp).trans (assignOutput_offLink ha))⟩
  case unclearable =>
    rintro tag form x y z s hq hm (⟨rfl, h⟩ | ⟨rfl, h⟩ | h)
    · have unnamed : fieldIndex x.toNat = none := (fieldIndex_none_iff _).mpr (h.imp_left (toNat_eq_zero_iff x).mpr)
      exact exec_clearAssignment hq hm ((takeClearAssignment_input hm).trans (clearInput_unnamed unnamed _))
    · exact exec_clearAssignment hq hm ((takeClearAssignment_output hm).trans (clearOutput_unnamed h _))
    · exact exec_clearAssignment hq hm (takeClearAssignment_unformed hm h)
  case clearedInput =>
    intro i hi f
    have taken := (takeClearAssignment_input (y := y) (z := z) hm).trans (clearInput_named (fieldIndex_of_number hi) _)
    refine ⟨fun none => exec_clearAssignment hq hm (taken.trans (if_pos none)), fun some => ⟨_,
      exec_clearAssignment hq hm (taken.trans (if_neg some)), assignEntry_inputs_same _ _ _,
      fun j hj => assignEntry_inputs_other _ _ _ hj, fun h => ?_, fun h => ?_,
      fun j hj => assignEntry_rec_other _ _ _ hj, assignEntry_outputs _ _ _, assignEntry_sameBut _ _ _⟩⟩
    · exact (assignEntry_rec_same i none _).trans (restartedRec_none_optional h)
    · exact (assignEntry_rec_same i none _).trans (restartedRec_none_mandatory h)
  case clearedOutput =>
    intro l p hl hp f
    have taken := (takeClearAssignment_output hm).trans (clearOutput_named hl hp s.blocks)
    exact ⟨fun none => exec_clearAssignment hq hm (taken.trans (if_pos none)), fun some => ⟨_,
      exec_clearAssignment hq hm (taken.trans (if_neg some)), setOutput_get_same _ _ _ _, setOutput_inputs _ _ _ _,
      fun q hq => setOutput_get_other _ _ _ _ hq, fun k hk => setOutput_otherLink _ _ _ _ hk, setOutput_sameBut _ _ _ _⟩⟩
  case clearedTable =>
    exact ⟨_, exec_clearAssignment hq hm (takeClearAssignment_all hm), clearTable_input _, clearTable_output _,
      clearTable_fieldRec _, fun k hk => clearTable_machinery _ hk, clearTable_sameBut _⟩

end Sys2Proof.Proofs

/-! The passing of a millisecond, the samples of the machinery lines and the expiry of a hold (R54 to R58, R61). -/

namespace Sys2Proof.Proofs

open Sys2Proof.Machine Sys2Proof.Safety

/-! ## One sample of a record (R55, R56) -/

section
variable {r : InputRec} {n : Nat} {sample : Bool}

theorem sample_equal (hp : r.pendingFirst = false) (h : sample = r.qualified) :
    r.sample n sample = { r with candidate := none, agreement := 0 } := by
  simp [InputRec.sample, InputRec.laterSample, hp, h]

theorem sample_other (hp : r.pendingFirst = false) (h : sample ≠ r.qualified) : r.sample n sample =
    if n ≤ if r.candidate = some sample then r.agreement + 1 else 1 then
      { r with qualified := sample, candidate := none, agreement := 0 }
    else
      { r with candidate := some sample, agreement := if r.candidate = some sample then r.agreement + 1 else 1 } := by
  simp [InputRec.sample, InputRec.laterSample, hp, h]

theorem sample_pending (hp : r.pendingFirst = true) : r.sample n sample =
    if n ≤ if r.candidate = some sample then r.agreement + 1 else 1 then
      { r with qualified := sample, freshness := .fresh, pendingFirst := false, candidate := none, agreement := 0 }
    else
      { r with candidate := some sample, agreement := if r.candidate = some sample then r.agreement + 1 else 1 } := by
  simp [InputRec.sample, InputRec.firstSample, hp]

end

/-! ## The lines of the machinery (R54) -/

theorem debounceCount_machinery {i : Fin 41} (h : 24 ≤ i.val) (b : Blocks) :
    debounceCount b i = if i.val = 40 then 2 else b.par.directDebounce := if_neg (Nat.not_lt.mpr h)

theorem takeLines_field (lines : BitVec 17) (b : Blocks) {i : Fin 41} (h : i.val < 24) :
    (takeLines lines b).iq.recs.get i = b.iq.recs.get i :=
  (mapInputs_get _ b i).trans (if_neg (Nat.not_le.mpr h))

/-- Each machinery record takes one sample of its line. -/
theorem takeLines_machinery (lines : BitVec 17) (b : Blocks) {i : Fin 41} (h : 24 ≤ i.val) :
    (takeLines lines b).iq.recs.get i =
      (b.iq.recs.get i).sample (if i.val = 40 then 2 else b.par.directDebounce) (lines.getLsbD (i.val - 24)) := by
  rw [← debounceCount_machinery h b]
  exact (mapInputs_get _ b i).trans (if_pos h)

/-! ## The millisecond (assumption log 3) -/

theorem passMillisecond_sameBut (b : Blocks) :
    SameBut [.sil, .slu, .rsq, .barriers, .locks, .brakes, .leaves, .nav, .wmn, .presence, .now] b (passMillisecond b) := by
  intro f hf
  cases f <;> first | rfl | exact absurd (by decide) hf

theorem passMillisecond_lampRec (b : Blocks) (g : Lamp) : lampRec (passMillisecond b) g = (lampRec b g).tick :=
  Vector.getElem_ofFn (lampIndex g).isLt

theorem passMillisecond_barrier (b : Blocks) (i : BarrierId) :
    (passMillisecond b).barriers.get i = (b.barriers.get i).tick := by cases i <;> rfl

theorem passMillisecond_lock (b : Blocks) (k : LockId) : (passMillisecond b).locks.get k = (b.locks.get k).tick := by
  cases k <;> rfl

theorem passMillisecond_brake (b : Blocks) (l : LeafId) : (passMillisecond b).brakes.get l = (b.brakes.get l).tick := by
  cases l <;> rfl

theorem passMillisecond_leaf (b : Blocks) (l : LeafId) : (passMillisecond b).leaves.get l = (b.leaves.get l).tick := by
  cases l <;> rfl

theorem travelTimer_tick (t : TravelTimer) : (∀ ms, t = .running ms → t.tick = .running (ms + 1)) ∧
    ((∀ ms, t ≠ .running ms) → t.tick = t) := by
  cases t with
  | running ms => exact ⟨fun m h => by cases h; rfl, fun h => absurd rfl (h ms)⟩
  | idle => exact ⟨nofun, fun _ => rfl⟩
  | halted ms => exact ⟨nofun, fun _ => rfl⟩

theorem phaseTimer_tick (t : PhaseTimer) : (∀ ms, t = .running ms → t.tick = .running (ms - 1)) ∧
    ((∀ ms, t ≠ .running ms) → t.tick = t) := by
  cases t with
  | running ms => exact ⟨fun m h => by cases h; rfl, fun h => absurd rfl (h ms)⟩
  | idle => exact ⟨nofun, fun _ => rfl⟩
  | runOut => exact ⟨nofun, fun _ => rfl⟩

theorem clearanceTimer_tick (t : ClearanceTimer) : (∀ ms, t = .running ms → t.tick = .running (ms - 1)) ∧
    ((∀ ms, t ≠ .running ms) → t.tick = t) := by
  cases t with
  | running ms => exact ⟨fun m h => by cases h; rfl, fun h => absurd rfl (h ms)⟩
  | idle => exact ⟨nofun, fun _ => rfl⟩
  | full => exact ⟨nofun, fun _ => rfl⟩
  | runOut => exact ⟨nofun, fun _ => rfl⟩

/-! ## The expiry of a hold (R58) -/

theorem endHold_held {r : InputRec} (h : r.freshness = .held) (safe : Bool) : r.endHold safe = r.fallSafe safe := by
  simp only [InputRec.endHold, h]

theorem endHold_rest {r : InputRec} (h : r.freshness ≠ .held) (safe : Bool) : r.endHold safe = r := by
  unfold InputRec.endHold
  split
  case h_1 held => exact absurd held h
  all_goals rfl

/-! ## The events -/

theorem exec_samplingTimerExpiry (lines : BitVec 17) (s : State) : exec (.samplingTimerExpiry lines) s =
    .next (inputEvent (fun b => takeLines lines (passMillisecond b)) (tickReceiver s)) := rfl

theorem exec_holdExpiry (l : Link) (s : State) : exec (.holdExpiry l) s = .next (inputEvent (endHolds l) s) := rfl

/-- The receiver's gap is no record of the blocks: the sampling event publishes against the blocks before it. -/
theorem exec_samplingTimerExpiry_publishes (lines : BitVec 17) (s : State) : exec (.samplingTimerExpiry lines) s =
    .next (eventEnd (tickReceiver s) (publish s.blocks (takeLines lines (passMillisecond s.blocks)))) := rfl

theorem tickReceiver_eq (s : State) : tickReceiver s = { s with cpt := { s.cpt with receiver := match s.cpt.receiver with
    | .hunting => .hunting
    | .inFrame os ms => .inFrame os (ms - 1) } } := by
  unfold tickReceiver
  cases s.cpt.receiver <;> rfl

/-- Settles O43: the events keep the input records that the samples or the holds leave, and the tick of each timer is read
off its record. -/
theorem samplesAndHoldsMoveTheInputs : Obligations.SamplesAndHoldsMoveTheInputs := by
  refine ⟨fun lines s hb => ?samples, fun l frame lines s => ⟨?published, rfl, rfl⟩, fun b => ?millisecond,
    fun l s hb => ?holds⟩
  case samples =>
    have kept := inputEvent_sameBut (s := tickReceiver s) (fun b => takeLines lines (passMillisecond b)) hb
    have iq := kept .iq (by decide)
    have now := kept .now (by decide)
    refine ⟨_, exec_samplingTimerExpiry lines s, now.trans (mapInputs_now _ _), inputEvent_pending _ _, fun i => ?_⟩
    rw [show (inputEvent _ (tickReceiver s)).blocks.iq = _ from iq]
    refine ⟨fun hi => takeLines_field _ _ hi, fun hi hp hs => ?_, fun hi hp hs => ?_, fun hi hp => ?_⟩
    · exact (takeLines_machinery _ _ hi).trans (sample_equal hp hs)
    · exact (takeLines_machinery _ _ hi).trans (sample_other hp hs)
    · exact (takeLines_machinery _ _ hi).trans (sample_pending hp)
  case published =>
    exact (exec_samplingTimerExpiry_publishes lines s).trans
      (congrArg (fun t => Host.Outcome.next (eventEnd t (publish s.blocks _))) (tickReceiver_eq s))
  case millisecond =>
    have phase := phaseTimer_tick b.rsq.timer
    have clearance := clearanceTimer_tick b.rsq.clearance
    refine ⟨rfl, rfl, rfl, passMillisecond_lampRec b, rfl, phase.1, phase.2, clearance.1, clearance.2, fun i => ?_,
      fun k => ?_, fun l => ⟨passMillisecond_brake b l, passMillisecond_leaf b l⟩, rfl, rfl, passMillisecond_sameBut b⟩
    · rw [passMillisecond_barrier]
      exact ⟨rfl, travelTimer_tick _⟩
    · rw [passMillisecond_lock]
      exact ⟨rfl, travelTimer_tick _⟩
  case holds =>
    have kept := inputEvent_sameBut (endHolds l) hb
    have iq := kept .iq (by decide)
    have now := kept .now (by decide)
    refine ⟨_, exec_holdExpiry l s, now.trans (mapInputs_now _ _), fun i => ?_⟩
    rw [show (inputEvent (endHolds l) s).blocks.iq = _ from iq, endHolds, mapLinkInputs_get]
    refine ⟨fun source held => ?_, fun rests => ?_⟩
    · rw [if_pos source]
      exact endHold_held held _
    · split
      case isTrue source => exact endHold_rest (fun held => rests ⟨source, held⟩) _
      case isFalse => rfl

end Sys2Proof.Proofs

/-! The E-stop: what it stops, what a publication that meets it leaves, and the order of a publication (R61, R100, R188,
R189). -/

namespace Sys2Proof.Proofs

open Sys2Proof.Machine Sys2Proof.Safety

/-! ## One leaf (R189) -/

/-- The record of a leaf after the immediate stop. -/
def stoppedAtOnce (b : Blocks) (l : LeafId) : LeafRec :=
  let r := b.leaves.get l
  if leafInMotion b l then
    { r with
      mot := { r.mot with state := if made b (.seated l) then .seated else .parked, command := 0, updateTimer := none,
                          next := none, arrived := r.mot.arrivalReached, lastStop := .stoppedByEstop }
      flt := { r.flt with stall := none }
      win := if made b (.seated l) then r.win.abandon else r.win }
  else r

theorem estopLeaf_eq (l : LeafId) (b : Blocks) : estopLeaf l b = setLeaf l (stoppedAtOnce b l) b := by
  unfold estopLeaf stoppedAtOnce
  dsimp only
  by_cases moves : leafInMotion b l = true
  · rw [if_pos moves, if_pos moves]
    by_cases seated : made b (.seated l) = true <;> simp only [seated, if_true, if_false, Bool.false_eq_true]
  · rw [if_neg moves, if_neg moves, setLeaf_self]

theorem stoppedAtOnce_state {b : Blocks} {l : LeafId} (h : leafInMotion b l = true) :
    (stoppedAtOnce b l).mot.state = if made b (.seated l) then .seated else .parked := by
  rw [stoppedAtOnce, if_pos h]

theorem stoppedAtOnce_rest {b : Blocks} {l : LeafId} (h : leafInMotion b l = false) : stoppedAtOnce b l = b.leaves.get l :=
  if_neg (by simp [h])

/-! ## One brake (R148) -/

/-- What a set request makes of a brake follows from its record, its feedback and its prove time. -/
theorem brakeSetRequest_congr {a b : Blocks} (l : LeafId) (hq : b.iq = a.iq) (hp : b.par = a.par)
    (hr : b.brakes.get l = a.brakes.get l) : (brakeSetRequest l b).brakes.get l = (brakeSetRequest l a).brakes.get l := by
  unfold brakeSetRequest
  dsimp only
  rw [hr, hp, made_congr hq]
  split
  case h_1 => exact hr
  case h_2 => exact hr
  case h_3 => rw [setBrake_get, setBrake_get]
  all_goals split <;> rw [setBrake_get, setBrake_get]

theorem brakeSetRequest_both (b : Blocks) (l : LeafId) :
    (brakeSetRequest .south (brakeSetRequest .north b)).brakes.get l = (brakeSetRequest l b).brakes.get l := by
  have north := brakeSetRequest_sameBut .north b
  cases l with
  | north => exact brakeSetRequest_get_other .south _
  | south =>
    exact brakeSetRequest_congr .south (north .iq (by decide)) (north .par (by decide)) (brakeSetRequest_get_other .north b)

theorem brakeSetRequest_standing {l : LeafId} {b : Blocks}
    (h : (b.brakes.get l).state = .set ∨ (b.brakes.get l).state = .setting) : brakeSetRequest l b = b := by
  rcases h with h | h <;> simp only [brakeSetRequest, h]

/-- After a set request a brake is neither released nor being released. -/
theorem brakeSetRequest_engages (l : LeafId) (b : Blocks) : ((brakeSetRequest l b).brakes.get l).state ≠ .released ∧
    ((brakeSetRequest l b).brakes.get l).state ≠ .releasing := by
  unfold brakeSetRequest
  dsimp only
  split
  case h_1 h => simp [h]
  case h_2 h => simp [h]
  case h_3 => simp
  case h_4 => split <;> simp
  case h_5 h => split <;> simp [h]

/-! ## One barrier (R100) -/

/-- A barrier that the E-stop stops: a travelling one, or an UNPROVEN one whose timer runs. -/
def barrierRuns (r : BarrierRec) : Bool := barrierTravelling r || (r.state == .unproven && r.timer.isRunning)

/-- The record of a barrier after the E-stop. -/
def barrierStopped (r : BarrierRec) : BarrierRec :=
  if barrierRuns r then
    { r with command := .stop, state := if barrierTravelling r then .stopped else r.state, timer := r.timer.halt }
  else r

theorem barrierTravelling_iff (r : BarrierRec) : barrierTravelling r = true ↔ r.state = .lowering ∨ r.state = .raising := by
  simp [barrierTravelling]

theorem barrierRuns_iff (r : BarrierRec) : barrierRuns r = true ↔
    r.state = .lowering ∨ r.state = .raising ∨ (r.state = .unproven ∧ r.timer.isRunning = true) := by
  simp [barrierRuns, barrierTravelling_iff, or_assoc]

theorem barrierEstop_runs {i : BarrierId} {b : Blocks} (h : barrierRuns (b.barriers.get i) = true) :
    barrierEstop i b = barrierStop i b := if_pos h

theorem barrierEstop_rests {i : BarrierId} {b : Blocks} (h : ¬ barrierRuns (b.barriers.get i) = true) :
    barrierEstop i b = b := if_neg h

theorem barrierEstop_eq (i : BarrierId) (b : Blocks) :
    barrierEstop i b = setBarrier i (barrierStopped (b.barriers.get i)) b := by
  by_cases runs : barrierRuns (b.barriers.get i) = true
  · rw [barrierEstop_runs runs, barrierStopped, if_pos runs]
    rcases (barrierRuns_iff _).mp runs with h | h | ⟨h, -⟩ <;> simp [barrierStop, barrierTravelling, h]
  · rw [barrierEstop_rests runs, barrierStopped, if_neg runs, setBarrier_self]

theorem ownBarrier_barrierEstop : OwnBarrier fun x i => barrierEstop i x where
  frame b i := barrierEstop_sameBut i b
  other b i j h := by
    rw [barrierEstop_eq]
    exact setBarrier_get_other i _ b h
  own a b i _ hr := by rw [barrierEstop_eq, barrierEstop_eq, setBarrier_get, setBarrier_get, hr]

theorem barrierStopped_travelling {r : BarrierRec} (h : r.state = .lowering ∨ r.state = .raising) {ms : Nat}
    (ht : r.timer = .running ms) :
    barrierStopped r = { r with command := .stop, state := .stopped, timer := .halted ms } := by
  have travels := (barrierTravelling_iff r).mpr h
  simp [barrierStopped, barrierRuns, travels, ht, TravelTimer.halt]

theorem barrierStopped_unproven {r : BarrierRec} (h : r.state = .unproven) {ms : Nat} (ht : r.timer = .running ms) :
    barrierStopped r = { r with command := .stop, timer := .halted ms } := by
  simp [barrierStopped, barrierRuns, barrierTravelling, h, ht, TravelTimer.halt, TravelTimer.isRunning]

theorem barrierStopped_standing {r : BarrierRec} (h : r.state = .up ∨ r.state = .down) : barrierStopped r = r := by
  rcases h with h | h <;> simp [barrierStopped, barrierRuns, barrierTravelling, h]

theorem halt_not_running (t : TravelTimer) : t.halt.isRunning = false := by cases t <;> rfl

/-- Nothing of a stopped barrier runs. -/
theorem barrierRuns_stopped (r : BarrierRec) : barrierRuns (barrierStopped r) = false := by
  unfold barrierStopped
  by_cases runs : barrierRuns r = true
  · rw [if_pos runs]
    by_cases travels : barrierTravelling r = true
    · rw [if_pos travels]
      rfl
    · rw [if_neg travels]
      have halted := halt_not_running r.timer
      have rests : barrierTravelling { r with command := .stop, timer := r.timer.halt } = false :=
        Bool.eq_false_of_not_eq_true travels
      simp only [barrierRuns, rests, halted, Bool.and_false, Bool.or_self]
  · rw [if_neg runs]
    exact Bool.eq_false_of_not_eq_true runs

/-! ## The E-stop, stage by stage (R188) -/

section
variable (b : Blocks)

/-- The latch and the HELD flag are set. -/
def estopLatched : Blocks := setHeld .estop { b with sil := { b.sil with latch := true } }

/-- The leaves are at rest. -/
def estopRested : Blocks := estopLeaf .south (estopLeaf .north (estopLatched b))

/-- The brakes are asked to set. -/
def estopBraked : Blocks := brakeSetRequest .south (brakeSetRequest .north (estopRested b))

theorem estopEvent_eq : estopEvent b = note (.estop (LeafId.all.filter (leafInMotion b))
    (LockId.all.filter fun k => lockTravelling (b.locks.get k)) (estopBarriers b))
      (BarrierId.all.foldl (fun x i => barrierEstop i x) (interruptLocks (estopBraked b))) := rfl

theorem estopLatched_sameBut : SameBut [.sil] b (estopLatched b) :=
  sameBut_trans (sil_sameBut _ b) (setHeld_sameBut .estop _)

theorem estopRested_sameBut : SameBut [.leaves] (estopLatched b) (estopRested b) :=
  sameBut_trans (estopLeaf_sameBut .north _) (estopLeaf_sameBut .south _)

theorem estopBraked_sameBut : SameBut [.brakes] (estopRested b) (estopBraked b) :=
  sameBut_trans (brakeSetRequest_sameBut .north _) (brakeSetRequest_sameBut .south _)

theorem estopEvent_sameBut_braked : SameBut [.locks, .barriers, .notes] (estopBraked b) (estopEvent b) :=
  sameBut_join (interruptLocks_sameBut _)
    (sameBut_join (sameBut_foldl (fun x i => barrierEstop i x) (fun x i => barrierEstop_sameBut i x) BarrierId.all _)
      (note_sameBut _ _) (hs := [.barriers, .notes]) (by decide) (by decide)) (by decide) (by decide)

theorem estopEvent_sameBut_rested : SameBut [.brakes, .locks, .barriers, .notes] (estopRested b) (estopEvent b) :=
  sameBut_join (estopBraked_sameBut b) (estopEvent_sameBut_braked b) (by decide) (by decide)

theorem estopBraked_sameBut_start : SameBut [.sil, .leaves, .brakes] b (estopBraked b) :=
  sameBut_join (estopLatched_sameBut b)
    (sameBut_join (estopRested_sameBut b) (estopBraked_sameBut b) (hs := [.leaves, .brakes]) (by decide) (by decide))
    (by decide) (by decide)

theorem estopEvent_sil : (estopEvent b).sil = { b.sil with latch := true, held := true, cause := .estop } :=
  (estopEvent_sameBut_rested b .sil (by decide)).trans (estopRested_sameBut b .sil (by decide))

theorem estopEvent_leaf (l : LeafId) : (estopEvent b).leaves.get l = stoppedAtOnce b l := by
  have leaves : (estopEvent b).leaves = (estopRested b).leaves := estopEvent_sameBut_rested b .leaves (by decide)
  rw [leaves, estopRested, estopLeaf_eq, estopLeaf_eq]
  cases l <;> rfl

theorem estopEvent_brake (l : LeafId) : (estopEvent b).brakes.get l = (brakeSetRequest l b).brakes.get l := by
  have brakes : (estopEvent b).brakes = (estopBraked b).brakes := estopEvent_sameBut_braked b .brakes (by decide)
  have rested : SameBut [.sil, .leaves] b (estopRested b) :=
    sameBut_join (estopLatched_sameBut b) (estopRested_sameBut b) (by decide) (by decide)
  rw [brakes, estopBraked, brakeSetRequest_both]
  exact brakeSetRequest_congr l (rested .iq (by decide)) (rested .par (by decide))
    (congrArg (·.get l) (rested .brakes (by decide)))

theorem estopEvent_lock (k : LockId) : (estopEvent b).locks.get k = interrupted (b.locks.get k) := by
  have stopped := sameBut_foldl (fun x i => barrierEstop i x) (fun x i => barrierEstop_sameBut i x) BarrierId.all
    (interruptLocks (estopBraked b))
  have locks : (BarrierId.all.foldl (fun x i => barrierEstop i x) (interruptLocks (estopBraked b))).locks =
      (interruptLocks (estopBraked b)).locks := stopped .locks (by decide)
  have start : (estopBraked b).locks = b.locks := estopBraked_sameBut_start b .locks (by decide)
  rw [estopEvent_eq, note_locks, locks, interruptLocks_get, start]

theorem estopEvent_barrier (i : BarrierId) : (estopEvent b).barriers.get i = barrierStopped (b.barriers.get i) := by
  have start : (interruptLocks (estopBraked b)).barriers = b.barriers :=
    (interruptLocks_sameBut _ .barriers (by decide)).trans (estopBraked_sameBut_start b .barriers (by decide))
  rw [estopEvent_eq, note_barriers, ownBarrier_barrierEstop.all_get, barrierEstop_eq, setBarrier_get, start]

theorem estopEvent_notes : (estopEvent b).notes = b.notes ++ [.estop (LeafId.all.filter (leafInMotion b))
    (LockId.all.filter fun k => lockTravelling (b.locks.get k)) (estopBarriers b)] := by
  have stopped := sameBut_foldl (fun x i => barrierEstop i x) (fun x i => barrierEstop_sameBut i x) BarrierId.all
    (interruptLocks (estopBraked b))
  have notes : (BarrierId.all.foldl (fun x i => barrierEstop i x) (interruptLocks (estopBraked b))).notes = b.notes :=
    (stopped .notes (by decide)).trans ((interruptLocks_sameBut _ .notes (by decide)).trans
      (estopBraked_sameBut_start b .notes (by decide)))
  rw [estopEvent_eq, note_notes, notes]

end

/-! ## Nothing moves after the E-stop -/

theorem estopEvent_leavesRest (b : Blocks) (l : LeafId) : leafInMotion (estopEvent b) l = false := by
  rw [leafInMotion_eq_false_iff, leafState, estopEvent_leaf]
  cases moves : leafInMotion b l
  · rw [stoppedAtOnce_rest moves]
    exact (leafInMotion_eq_false_iff b l).mp moves
  · rw [stoppedAtOnce_state moves]
    split
    · exact .inl rfl
    · exact .inr (.inl rfl)

theorem interrupted_state (r : LockRec) : (interrupted r).state ≠ .driving ∧ (interrupted r).state ≠ .withdrawing := by
  unfold interrupted
  split
  case isTrue => exact ⟨nofun, nofun⟩
  case isFalse rests => exact not_or.mp (mt (lockTravelling_iff r).mpr rests)

theorem interrupted_rest {r : LockRec} (hd : r.state ≠ .driving) (hw : r.state ≠ .withdrawing) : interrupted r = r :=
  if_neg fun travels => ((lockTravelling_iff r).mp travels).elim hd hw

theorem interrupted_travelling {r : LockRec} (h : r.state = .driving ∨ r.state = .withdrawing) {ms : Nat}
    (ht : r.timer = .running ms) : interrupted r = { r with state := .interrupted, timer := .halted ms } := by
  rw [interrupted, if_pos ((lockTravelling_iff r).mpr h), ht]
  rfl

/-! ## The barriers judged after the E-stop (R103 to R105) -/

section
variable {i : BarrierId} {b : Blocks}

theorem barrierArrive_rests {p : Proven} {s : BarrierState} (h : barrierStateAt p = some s) :
    barrierTravelling ((barrierArrive i s b).barriers.get i) = false := by
  rw [barrierArrive, setBarrier_get]
  cases p <;> cases h <;> rfl

theorem barrierFault_rests (f : TravelFault) : barrierTravelling ((barrierFault i f b).barriers.get i) = false := by
  rw [barrierFault, setBarrier_get]
  rfl

/-- An UNPROVEN barrier whose timer does not run takes a proven position, STOPPED or FAULT. -/
theorem rejudgeBarrier_rests (h : (b.barriers.get i).timer.isRunning = false) :
    barrierTravelling ((rejudgeBarrier i b).barriers.get i) = false := by
  by_cases conflict : barrierShows b i = .conflict
  · rw [rejudgeBarrier, if_pos conflict]
    exact barrierFault_rests _
  · cases timer : (b.barriers.get i).timer with
    | running ms => exact absurd h (by simp [timer, TravelTimer.isRunning])
    | halted ms =>
      rw [rejudgeBarrier_halted conflict timer]
      cases found : barrierStateAt (barrierShows b i) with
      | none =>
        rw [Option.elim, setBarrier_get]
        rfl
      | some s => exact barrierArrive_rests found
    | idle =>
      cases command : (b.barriers.get i).command with
      | stop =>
        rw [rejudgeBarrier_idle_stop conflict timer command]
        cases found : barrierStateAt (barrierShows b i) with
        | none => exact barrierFault_rests _
        | some s => exact barrierArrive_rests found
      | lower =>
        rw [rejudgeBarrier_idle conflict timer command rfl]
        split
        · exact barrierArrive_rests (p := .second) rfl
        · exact barrierFault_rests _
      | raise =>
        rw [rejudgeBarrier_idle conflict timer command rfl]
        split
        · exact barrierArrive_rests (p := .first) rfl
        · exact barrierFault_rests _

/-- A barrier of which nothing runs does not travel by a judgement of its switches. -/
theorem judgeBarrier_rests (h : barrierRuns (b.barriers.get i) = false) :
    barrierTravelling ((judgeBarrier i b).barriers.get i) = false := by
  obtain ⟨still, unproven⟩ := Bool.or_eq_false_iff.mp h
  by_cases fault : (b.barriers.get i).state = .fault
  · rw [judgeBarrier_fault fault]
    exact still
  cases fresh : barrierFresh b i
  · rw [judgeBarrier_stale fault fresh, setBarrier_get]
    rfl
  by_cases conflict : barrierShows b i = .conflict
  · rw [judgeBarrier_conflict fault fresh conflict]
    exact barrierFault_rests _
  cases state : (b.barriers.get i).state with
  | up =>
    rw [judgeBarrier_up fresh conflict state, setBarrier_self]
    split
    · exact still
    · exact barrierFault_rests _
  | down =>
    rw [judgeBarrier_down fresh conflict state, setBarrier_self]
    split
    · exact still
    · exact barrierFault_rests _
  | lowering => exact absurd still (by simp [barrierTravelling, state])
  | raising => exact absurd still (by simp [barrierTravelling, state])
  | stopped =>
    rw [judgeBarrier_stopped fresh conflict state, setBarrier_self]
    cases found : barrierStateAt (barrierShows b i) with
    | none => exact still
    | some s => exact barrierArrive_rests found
  | unproven =>
    rw [judgeBarrier_unproven fresh state]
    exact rejudgeBarrier_rests (by simpa [state] using unproven)
  | fault => exact absurd state fault

end

theorem judgeBarrier_get_other (i : BarrierId) {j : BarrierId} (b : Blocks) (h : j ≠ i) :
    (judgeBarrier i b).barriers.get j = b.barriers.get j := by
  unfold judgeBarrier rejudgeBarrier
  dsimp only
  repeat' split
  all_goals first | rfl | exact setBarrier_get_other i _ b h

/-- The published switches of one barrier after another: each barrier is judged once. -/
theorem publishBarriers_rest (s0 : Blocks) {i : BarrierId} : ∀ (is : List BarrierId) (b : Blocks), is.Nodup →
    (i ∈ is → barrierRuns (b.barriers.get i) = false) → (i ∉ is → barrierTravelling (b.barriers.get i) = false) →
      barrierTravelling ((is.foldl (publishBarrier s0) b).barriers.get i) = false
  | [], b, _, _, h => h List.not_mem_nil
  | j :: is, b, hn, hr, ht => by
    obtain ⟨fresh, distinct⟩ := List.nodup_cons.mp hn
    have other : i ≠ j → (publishBarrier s0 b j).barriers.get i = b.barriers.get i := fun h => by
      unfold publishBarrier
      split
      · exact judgeBarrier_get_other j b h
      · rfl
    refine publishBarriers_rest s0 is _ distinct (fun mem => ?_) fun out => ?_
    · have ne : i ≠ j := fun e => fresh (e ▸ mem)
      rw [other ne]
      exact hr (List.mem_cons_of_mem _ mem)
    · by_cases same : i = j
      · subst same
        have rests := hr List.mem_cons_self
        unfold publishBarrier
        split
        · exact judgeBarrier_rests rests
        · exact (Bool.or_eq_false_iff.mp rests).1
      · rw [other same]
        exact ht fun mem => out ((List.mem_cons.mp mem).resolve_left same)

/-! ## A publication (R61) -/

theorem publishEstop_taken {s0 b : Blocks} (h0 : made s0 .estop = true) (h : made b .estop = false)
    (hl : b.sil.latch = false) : publishEstop s0 b = estopEvent b := by
  simp [publishEstop, inputFalls, h0, h, hl]

theorem publishEstop_rest {s0 b : Blocks} (h : made s0 .estop = false ∨ made b .estop = true ∨ b.sil.latch = true) :
    publishEstop s0 b = b := by
  rcases h with h | h | h <;> simp [publishEstop, inputFalls, h]

/-- The leaves and the locks of a publication. -/
def publishedLocks (s0 b : Blocks) : Blocks := LockId.all.foldl (publishLock s0) (publishLeaves s0 b)

theorem publishedLocks_sameBut (s0 b : Blocks) : SameBut [.leaves, .brakes, .locks, .notes] b (publishedLocks s0 b) :=
  sameBut_join (publishLeaves_sameBut s0 b) (sameBut_foldl (publishLock s0) (publishLock_sameBut s0) LockId.all _)
    (by decide) (by decide)

theorem publish_operate {s0 b : Blocks} (hm : b.sil.mode = .operate) : publish s0 b =
    lampGroups.foldl (publishLamp s0)
      (BarrierId.all.foldl (publishBarrier s0) (publishEstop s0 (publishedLocks s0 b))) := if_pos hm

theorem publish_outside {s0 b : Blocks} (hm : b.sil.mode ≠ .operate) : publish s0 b = publishLeaves s0 b := if_neg hm

/-- What follows the E-stop in a publication. -/
theorem publishAfter_sameBut (s0 b : Blocks) : SameBut [.barriers, .slu] b
    (lampGroups.foldl (publishLamp s0) (BarrierId.all.foldl (publishBarrier s0) b)) :=
  sameBut_join (sameBut_foldl (publishBarrier s0) (publishBarrier_sameBut s0) BarrierId.all b)
    (sameBut_foldl (publishLamp s0) (publishLamp_sameBut s0) lampGroups _) (by decide) (by decide)

/-- A publication that does not take the E-stop leaves the span record. -/
theorem publish_sil_rest {s0 b : Blocks} (h : b.sil.mode ≠ .operate ∨ b.sil.latch = true ∨ made s0 .estop = false ∨
    made b .estop = true) : (publish s0 b).sil = b.sil := by
  by_cases hm : b.sil.mode = .operate
  · have locks := publishedLocks_sameBut s0 b
    have sil : (publishedLocks s0 b).sil = b.sil := locks .sil (by decide)
    have rests : publishEstop s0 (publishedLocks s0 b) = publishedLocks s0 b := by
      refine publishEstop_rest ?_
      rw [made_congr (locks .iq (by decide)), sil]
      have stands := h.resolve_left (not_not.mpr hm)
      tauto
    rw [publish_operate hm, rests]
    exact (publishAfter_sameBut s0 _ .sil (by decide)).trans sil
  · rw [publish_outside hm]
    exact publishLeaves_sameBut s0 b .sil (by decide)

/-- Nothing moves after a publication that takes the E-stop. -/
structure AllStopped (x c : Blocks) : Prop where
  sil : c.sil = { x.sil with latch := true, held := true, cause := .estop }
  leaves : ∀ l : LeafId, leafInMotion c l = false ∧ (c.brakes.get l).state ≠ .released ∧ (c.brakes.get l).state ≠ .releasing
  locks : ∀ k : LockId, (c.locks.get k).state ≠ .driving ∧ (c.locks.get k).state ≠ .withdrawing
  barriers : ∀ i : BarrierId, (c.barriers.get i).state ≠ .lowering ∧ (c.barriers.get i).state ≠ .raising
  noted : ∃ leaves locks barriers, Note.estop leaves locks barriers ∈ c.notes

theorem publish_estop {s0 b : Blocks} (hm : b.sil.mode = .operate) (hl : b.sil.latch = false)
    (h0 : made s0 .estop = true) (h : made b .estop = false) : AllStopped b (publish s0 b) := by
  have locks := publishedLocks_sameBut s0 b
  have sil : (publishedLocks s0 b).sil = b.sil := locks .sil (by decide)
  rw [publish_operate hm, publishEstop_taken h0 ((made_congr (locks .iq (by decide)) _).trans h) (by rw [sil, hl])]
  generalize publishedLocks s0 b = x at sil
  have after := publishAfter_sameBut s0 (estopEvent x)
  have lamps : (lampGroups.foldl (publishLamp s0) (BarrierId.all.foldl (publishBarrier s0) (estopEvent x))).barriers =
      (BarrierId.all.foldl (publishBarrier s0) (estopEvent x)).barriers :=
    sameBut_foldl (publishLamp s0) (publishLamp_sameBut s0) lampGroups _ .barriers (by decide)
  have barriers : ∀ i, barrierTravelling ((BarrierId.all.foldl (publishBarrier s0) (estopEvent x)).barriers.get i) = false :=
    fun i => publishBarriers_rest s0 BarrierId.all _ (by decide)
      (fun _ => by rw [estopEvent_barrier]; exact barrierRuns_stopped _) fun out => absurd (barrier_all i) out
  generalize lampGroups.foldl (publishLamp s0) _ = c at after lamps
  have leaves : c.leaves = (estopEvent x).leaves := after .leaves (by decide)
  have brakes : c.brakes = (estopEvent x).brakes := after .brakes (by decide)
  have bolts : c.locks = (estopEvent x).locks := after .locks (by decide)
  have notes : c.notes = (estopEvent x).notes := after .notes (by decide)
  refine ⟨?sil, fun l => ⟨?leaf, ?brake⟩, fun k => ?lock, fun i => ?barrier, ?note⟩
  case sil =>
    rw [← sil]
    exact (after .sil (by decide)).trans (estopEvent_sil x)
  case leaf =>
    rw [leafInMotion, leafState, leaves]
    exact estopEvent_leavesRest x l
  case brake =>
    rw [brakes, estopEvent_brake]
    exact brakeSetRequest_engages l x
  case lock =>
    rw [bolts, estopEvent_lock]
    exact interrupted_state _
  case barrier =>
    have rests := barriers i
    rw [← lamps, ← Bool.not_eq_true, barrierTravelling_iff] at rests
    exact not_or.mp rests
  case note =>
    rw [notes, estopEvent_notes]
    exact ⟨_, _, _, List.mem_append_right _ (List.mem_singleton_self _)⟩

/-- Settles O46: the E-stop is taken stage by stage, each stage writes its own records, and the barriers judged after it no
longer run. -/
theorem estopStopsEverything : Obligations.EstopStopsEverything := by
  refine ⟨fun lines s => ?sampled, fun s0 b => ⟨publish_operate, publish_outside⟩, fun b => ?event,
    fun s0 b => ⟨publishEstop_taken, publishEstop_rest⟩⟩
  case sampled =>
    intro x
    have sil : x.sil = (passMillisecond s.blocks).sil := mapInputs_sil _ _
    have mode : x.sil.mode = s.blocks.sil.mode := by rw [sil]; rfl
    have latch : x.sil.latch = s.blocks.sil.latch := by rw [sil]; rfl
    refine ⟨_, exec_samplingTimerExpiry_publishes lines s, rfl, fun hm hl h0 h => ?taken, fun h => ?rest⟩
    case taken =>
      obtain ⟨sil, leaves, locks, barriers, noted⟩ := publish_estop (mode.trans hm) (latch.trans hl) h0 h
      exact ⟨sil, leaves, locks, barriers, noted⟩
    case rest =>
      rw [← mode, ← latch] at h
      exact publish_sil_rest h
  case event =>
    refine ⟨estopEvent_sil b, fun l => ⟨fun moves => ?leaf, fun rests => ?leafRest, fun released => ?brake,
      fun stands => ?brakeRest⟩, fun k ms travels runs => ?lock, fun k hd hw => ?lockRest, fun i ms travels runs => ?barrier,
      fun i ms unproven runs => ?unproven, fun i stands => ?barrierRest, ?notes, estopEvent_sameBut b⟩
    case leaf =>
      rw [leafState, estopEvent_leaf, stoppedAtOnce, if_pos moves]
      exact ⟨rfl, rfl, rfl, rfl, rfl, rfl, rfl, rfl⟩
    case leafRest => exact (estopEvent_leaf b l).trans (stoppedAtOnce_rest rests)
    case brake => exact (estopEvent_brake b l).trans (brakeSetRequest_released released)
    case brakeRest => rw [estopEvent_brake, brakeSetRequest_standing stands]
    case lock => exact (estopEvent_lock b k).trans (interrupted_travelling travels runs)
    case lockRest => exact (estopEvent_lock b k).trans (interrupted_rest hd hw)
    case barrier => exact (estopEvent_barrier b i).trans (barrierStopped_travelling travels runs)
    case unproven => exact (estopEvent_barrier b i).trans (barrierStopped_unproven unproven runs)
    case barrierRest => exact (estopEvent_barrier b i).trans (barrierStopped_standing stands)
    case notes =>
      have locks : (fun k => lockTravelling (b.locks.get k)) =
          fun k => decide ((b.locks.get k).state = .driving ∨ (b.locks.get k).state = .withdrawing) := by
        funext k
        rw [Bool.eq_iff_iff, lockTravelling_iff, decide_eq_true_iff]
      have barriers : estopBarriers b = BarrierId.all.filter fun i => decide ((b.barriers.get i).state = .lowering ∨
          (b.barriers.get i).state = .raising ∨
            ((b.barriers.get i).state = .unproven ∧ (b.barriers.get i).timer.isRunning = true)) := by
        refine List.filter_congr fun i _ => ?_
        rw [Bool.eq_iff_iff, decide_eq_true_iff]
        exact barrierRuns_iff _
      rw [estopEvent_notes, locks, barriers]

end Sys2Proof.Proofs
